-- ==== Sys2Proof/Word.lean ====
section
/-! DEFINITION. The words of the part: bytes, station time stamps, timers, and a container for a
fixed number of like things (eight feeders, four ports, two ties, four capture slots). -/

namespace Sys2Proof

/-- One byte of a link frame (Table 1-1), also a sequence number or a tag. -/
abbrev Byte := BitVec 8

/-- Station time in microseconds, modulo 2^48 (R188). -/
abbrev Stamp := BitVec 48

/-- A timer: `none` is stopped, `some n` runs with `n` microseconds left (R189). -/
abbrev Timer := Option Nat

/-- The feeders F1 to F8. -/
inductive FeederId where
  | f1 | f2 | f3 | f4 | f5 | f6 | f7 | f8
  deriving DecidableEq, Repr

/-- The feeders in feeder-number order, F1 first. -/
def FeederId.all : List FeederId := [.f1, .f2, .f3, .f4, .f5, .f6, .f7, .f8]

/-- The feeder's number, 1 to 8. -/
def FeederId.num : FeederId → Nat
  | .f1 => 1 | .f2 => 2 | .f3 => 3 | .f4 => 4 | .f5 => 5 | .f6 => 6 | .f7 => 7 | .f8 => 8

/-- The feeder of a number, `none` outside 1 to 8. -/
def FeederId.ofNum (n : Nat) : Option FeederId := FeederId.all.find? fun f => f.num == n

/-- The four frame ports. -/
inductive Port where
  | fp | sp | ta | tb
  deriving DecidableEq, Repr

/-- The two ties. -/
inductive Tie where
  | a | b
  deriving DecidableEq, Repr

/-- The tie port of a tie. -/
def Tie.port : Tie → Port
  | .a => .ta
  | .b => .tb

/-- The four capture slots. -/
inductive SlotId where
  | s0 | s1 | s2 | s3
  deriving DecidableEq, Repr

/-- The slots in number order. -/
def SlotId.all : List SlotId := [.s0, .s1, .s2, .s3]

/-- The slot's number, 0 to 3. -/
def SlotId.num : SlotId → Nat
  | .s0 => 0 | .s1 => 1 | .s2 => 2 | .s3 => 3

/-- The slot of a number, `none` above 3. -/
def SlotId.ofNum (n : Nat) : Option SlotId := SlotId.all.find? fun k => k.num == n

/-- One value for each feeder. -/
structure PerFeeder (α : Type) where
  f1 : α
  f2 : α
  f3 : α
  f4 : α
  f5 : α
  f6 : α
  f7 : α
  f8 : α
  deriving DecidableEq, Repr

/-- The value of one feeder. -/
def PerFeeder.get {α : Type} (v : PerFeeder α) : FeederId → α
  | .f1 => v.f1 | .f2 => v.f2 | .f3 => v.f3 | .f4 => v.f4
  | .f5 => v.f5 | .f6 => v.f6 | .f7 => v.f7 | .f8 => v.f8

/-- Replace the value of one feeder. -/
def PerFeeder.set {α : Type} (v : PerFeeder α) (f : FeederId) (x : α) : PerFeeder α :=
  match f with
  | .f1 => { v with f1 := x } | .f2 => { v with f2 := x } | .f3 => { v with f3 := x }
  | .f4 => { v with f4 := x } | .f5 => { v with f5 := x } | .f6 => { v with f6 := x }
  | .f7 => { v with f7 := x } | .f8 => { v with f8 := x }

/-- The same value for every feeder. -/
def PerFeeder.const {α : Type} (x : α) : PerFeeder α := ⟨x, x, x, x, x, x, x, x⟩

/-- Apply a function to the value of every feeder. -/
def PerFeeder.map {α β : Type} (g : α → β) (v : PerFeeder α) : PerFeeder β :=
  ⟨g v.f1, g v.f2, g v.f3, g v.f4, g v.f5, g v.f6, g v.f7, g v.f8⟩

/-- One value for each port. -/
structure PerPort (α : Type) where
  fp : α
  sp : α
  ta : α
  tb : α
  deriving DecidableEq, Repr

/-- The value of one port. -/
def PerPort.get {α : Type} (v : PerPort α) : Port → α
  | .fp => v.fp | .sp => v.sp | .ta => v.ta | .tb => v.tb

/-- Replace the value of one port. -/
def PerPort.set {α : Type} (v : PerPort α) (p : Port) (x : α) : PerPort α :=
  match p with
  | .fp => { v with fp := x } | .sp => { v with sp := x }
  | .ta => { v with ta := x } | .tb => { v with tb := x }

/-- The same value for every port. -/
def PerPort.const {α : Type} (x : α) : PerPort α := ⟨x, x, x, x⟩

/-- Apply a function to the value of every port. -/
def PerPort.map {α β : Type} (g : α → β) (v : PerPort α) : PerPort β :=
  ⟨g v.fp, g v.sp, g v.ta, g v.tb⟩

/-- One value for each tie. -/
structure PerTie (α : Type) where
  a : α
  b : α
  deriving DecidableEq, Repr

/-- The value of one tie. -/
def PerTie.get {α : Type} (v : PerTie α) : Tie → α
  | .a => v.a | .b => v.b

/-- Replace the value of one tie. -/
def PerTie.set {α : Type} (v : PerTie α) (t : Tie) (x : α) : PerTie α :=
  match t with
  | .a => { v with a := x } | .b => { v with b := x }

/-- Apply a function to the value of both ties. -/
def PerTie.map {α β : Type} (g : α → β) (v : PerTie α) : PerTie β := ⟨g v.a, g v.b⟩

/-- One value for each capture slot. -/
structure PerSlot (α : Type) where
  s0 : α
  s1 : α
  s2 : α
  s3 : α
  deriving DecidableEq, Repr

/-- The value of one slot. -/
def PerSlot.get {α : Type} (v : PerSlot α) : SlotId → α
  | .s0 => v.s0 | .s1 => v.s1 | .s2 => v.s2 | .s3 => v.s3

/-- Replace the value of one slot. -/
def PerSlot.set {α : Type} (v : PerSlot α) (k : SlotId) (x : α) : PerSlot α :=
  match k with
  | .s0 => { v with s0 := x } | .s1 => { v with s1 := x }
  | .s2 => { v with s2 := x } | .s3 => { v with s3 := x }

/-- The same value for every slot. -/
def PerSlot.const {α : Type} (x : α) : PerSlot α := ⟨x, x, x, x⟩

end Sys2Proof
end

