-- ==== Sys2Proof/Syntax.lean ====
section
/-! DEFINITION. The vocabulary of the manual, the settings rows, the management requests, and the
commands of spec/opcode_table.json: one constructor of `Instr` for each row. -/

namespace Sys2Proof

/-- Device modes (Table 10-4). -/
inductive Mode where
  | config | service | shadow | replay
  deriving DecidableEq, Repr

/-- Positions of the local/remote key (R177). -/
inductive KeyPos where
  | atLocal | atRemote
  deriving DecidableEq, Repr

/-- Where a management request came from (R26, R29). -/
inductive ReqSource where
  | fromPanel | fromStation
  deriving DecidableEq, Repr

/-- The rest state of the rectifier group (R119). -/
inductive RestState where
  | hold | parked
  deriving DecidableEq, Repr

/-- Roles of the node table (section 2.1). -/
inductive Role where
  | unused | feederMu | rectMu | breaker | acBreaker | firing | panel | gateway
  deriving DecidableEq, Repr

/-- The port through which a node is reached. -/
inductive Side where
  | field | station
  deriving DecidableEq, Repr

/-- Recovery setting of a port (R10). -/
inductive Recovery where
  | auto | manual
  deriving DecidableEq, Repr

/-- Reclose policy of a feeder. -/
inductive Policy where
  | auto | latch
  deriving DecidableEq, Repr

/-- Blind action of a feeder. -/
inductive BlindAction where
  | trip | alarm
  deriving DecidableEq, Repr

/-- Reclosing role of this end of a section (section 8.1). -/
inductive SectionRole where
  | master | follower
  deriving DecidableEq, Repr

/-- Stack policy of the rectifier (Table 7-2). -/
inductive StackPolicy where
  | retry | latch
  deriving DecidableEq, Repr

/-- One row of the node table (section 2.1). The pass sets are given by membership. -/
structure NodeRow where
  role : Role
  binding : Option FeederId
  side : Side
  downCommand : Bool
  downManage : Bool
  upStatus : Bool
  upReply : Bool
  upReport : Bool
  deriving DecidableEq, Repr

/-- Intake settings of a FEEDER row (section 3.1), with the decimation D of R33. -/
structure IntakeSettings where
  tBlind : Nat
  iRippleMin : Nat
  wF : Nat
  policy : Policy
  decimation : Nat
  deriving DecidableEq, Repr

/-- Protection settings of a FEEDER row (section 4.1). -/
structure ProtSettings where
  iocOn : Bool
  iIoc : Nat
  c : Nat
  ddlOn : Bool
  sStart : Nat
  sEnd : Nat
  e : Nat
  dISet : Nat
  dMin : Nat
  dMax : Nat
  thermalOn : Bool
  k : Nat
  iReclose : Nat
  iAlarm : Nat
  iTrip : Nat
  deriving DecidableEq, Repr

/-- Breaker settings of a FEEDER row (section 5.1); times in milliseconds. -/
structure BreakerSettings where
  tOpenMax : Nat
  tCloseMax : Nat
  tSotf : Nat
  tReclaim : Nat
  blindAction : BlindAction
  capture : Bool
  deriving DecidableEq, Repr

/-- Reclosing and line-test settings of a FEEDER row (section 6.1); times in milliseconds. -/
structure TestSettings where
  shots : Nat
  dead1 : Nat
  dead2 : Nat
  dead3 : Nat
  tFollow : Nat
  wSettle : Nat
  rLive : Nat
  rShort : Nat
  rLoad : Nat
  ubMinTest : Nat
  deriving DecidableEq, Repr

/-- A FEEDER row. -/
structure FeederRow where
  intake : IntakeSettings
  prot : ProtSettings
  brk : BreakerSettings
  test : TestSettings
  deriving DecidableEq, Repr

/-- The RECT row (Table 7-2). -/
structure RectRow where
  freq : Nat
  uSet : Nat
  db : Nat
  alphaMin : Nat
  alphaMax : Nat
  alphaStep : Nat
  alphaClStep : Nat
  h : Nat
  iLim : Nat
  iRectTrip : Nat
  cRect : Nat
  j : Nat
  tWarn : Nat
  tTrip : Nat
  hysteresis : Nat
  stackPolicy : StackPolicy
  wake : Bool
  uWake : Nat
  wakeFromParked : Bool
  deriving DecidableEq, Repr

/-- A SECTION row (section 8.1); `tie = none` is NONE. -/
structure SectionRow where
  tie : Option Tie
  sectionId : Nat
  role : SectionRole
  deriving DecidableEq, Repr

/-- The REPORT row (R167); times in milliseconds. -/
structure ReportRow where
  level : Nat
  batchTimeout : Nat
  replayTime : Nat
  deriving DecidableEq, Repr

/-- The fields a WRITE_ROW request gives for a row. `outOfSet` says that some coded field (a role,
a policy, an on/off field, a feeder binding, a pass set) holds a code outside its set, which a
typed row cannot hold; numeric fields are as written. -/
structure RowWrite (α : Type) where
  value : α
  outOfSet : Bool
  deriving DecidableEq, Repr

/-- What the agent knows of a request beside its fields: its source, the requester's node and the
request number that the REPLY echoes (R175, R176). -/
structure Ticket where
  source : ReqSource
  requester : Byte
  number : Byte
  deriving DecidableEq, Repr

/-- A request the agent cannot serve as one of the rows of the table: an unknown type or wrong
length, with the type byte received (R175), an unknown table (R179), an unknown action or record. -/
inductive BadRequest where
  | malformed (type : Byte)
  | unknownReadTable
  | unknownWriteTable
  | unknownRecord
  | unknownFeederAction (feeder : Nat)
  | unknownRectAction
  deriving DecidableEq, Repr

/-- The management requests (Table 10-1), with the fields of their payloads. A port, tie or mode
field is `none` when it holds a value outside its set. -/
inductive Request where
  | bad (why : BadRequest)
  | readRowNode (row : Nat)
  | readRowFeeder (row : Nat)
  | readRowRect (row : Nat)
  | readRowSection (row : Nat)
  | readRowPort (row : Nat)
  | readRowReport (row : Nat)
  | readRecordFeeder (n : Nat)
  | readRecordRect
  | readRecordPort (p : Option Port)
  | readRecordTie (t : Option Tie)
  | readRecordDevice
  | writeRowNode (row : Nat) (w : RowWrite NodeRow)
  | writeRowFeeder (row : Nat) (w : RowWrite FeederRow)
  | writeRowRect (row : Nat) (w : RowWrite RectRow)
  | writeRowSection (row : Nat) (w : RowWrite SectionRow)
  | writeRowPort (row : Nat) (w : RowWrite Recovery)
  | writeRowReport (row : Nat) (w : RowWrite ReportRow)
  | inService (n : Nat)
  | outOfService (n : Nat)
  | closeFeeder (n : Nat)
  | openFeeder (n : Nat)
  | resetLockout (n : Nat)
  | rectRun
  | rectRest
  | rectReset
  | setMode (m : Option Mode)
  | setTime (t : Nat)
  | captureStart (n : Nat)
  | captureRead (slot segment : Nat)
  | captureRelease (slot : Nat)
  | inject (node : Nat) (payload : List Byte)
  | portRecover (p : Option Port)
  | restart
  deriving DecidableEq, Repr

/-- The seventeen devices of the plant simulation (R184). -/
inductive SimDeviceId where
  | breaker (f : FeederId)
  | contactor (f : FeederId)
  | acBreaker
  deriving DecidableEq, Repr

/-- The commands: the steps of spec/opcode_table.json. A frame arrival carries the bytes of the
frame, from the first byte after idle to the return of idle; a timer expiry names its owner; a
request carries its ticket and its fields. -/
inductive Instr where
  | errorFrameReceived (p : Port) (bytes : List Byte)
  | lostPortGoodFrame (p : Port) (bytes : List Byte)
  | frameRejected (p : Port) (bytes : List Byte)
  | forwardUp (bytes : List Byte)
  | forwardDown (bytes : List Byte)
  | manageReceived (p : Port) (bytes : List Byte)
  | transmitEnd (p : Port)
  | feederSampleReceived (bytes : List Byte)
  | blind (f : FeederId)
  | rectSampleReceived (stamp : Stamp) (bytes : List Byte)
  | rectSilenceExpired
  | breakerStatusReceived (bytes : List Byte)
  | openTimerExpired (f : FeederId)
  | closeTimerExpired (f : FeederId)
  | sotfTimerExpired (f : FeederId)
  | reclaimExpired (f : FeederId)
  | deadTimeExpired (f : FeederId)
  | actingMaster (f : FeederId)
  | acTimerExpired
  | crossingWatchExpired
  | acBreakerStatusReceived (bytes : List Byte)
  | firingStatusReceived (bytes : List Byte)
  | beatSend (t : Tie)
  | beatReceived (t : Tie) (bytes : List Byte)
  | beatGapExpired (t : Tie)
  | tieSilenceExpired (t : Tie)
  | tieFrameMalformed (t : Tie) (bytes : List Byte)
  | tripReqReceived (t : Tie) (bytes : List Byte)
  | tripAckReceived (t : Tie) (bytes : List Byte)
  | repeatTimerExpired (f : FeederId)
  | replayIntertripTimeout (f : FeederId)
  | repeatWindowExpired (f : FeederId)
  | sectionClearReceived (t : Tie) (bytes : List Byte)
  | sectionHoldReceived (t : Tie) (bytes : List Byte)
  | reportBuild
  | batchTimeout
  | simOperationComplete (d : SimDeviceId)
  | readRowNode (k : Ticket) (row : Nat)
  | readRowFeeder (k : Ticket) (row : Nat)
  | readRowRect (k : Ticket) (row : Nat)
  | readRowSection (k : Ticket) (row : Nat)
  | readRowPort (k : Ticket) (row : Nat)
  | readRowReport (k : Ticket) (row : Nat)
  | readRecordFeeder (k : Ticket) (n : Nat)
  | readRecordRect (k : Ticket)
  | readRecordPort (k : Ticket) (p : Option Port)
  | readRecordTie (k : Ticket) (t : Option Tie)
  | readRecordDevice (k : Ticket)
  | writeRowNode (k : Ticket) (row : Nat) (w : RowWrite NodeRow)
  | writeRowFeeder (k : Ticket) (row : Nat) (w : RowWrite FeederRow)
  | writeRowRect (k : Ticket) (row : Nat) (w : RowWrite RectRow)
  | writeRowSection (k : Ticket) (row : Nat) (w : RowWrite SectionRow)
  | writeRowPort (k : Ticket) (row : Nat) (w : RowWrite Recovery)
  | writeRowReport (k : Ticket) (row : Nat) (w : RowWrite ReportRow)
  | inService (k : Ticket) (n : Nat)
  | outOfService (k : Ticket) (n : Nat)
  | closeFeeder (k : Ticket) (n : Nat)
  | openFeeder (k : Ticket) (n : Nat)
  | resetLockout (k : Ticket) (n : Nat)
  | rectRun (k : Ticket)
  | rectRest (k : Ticket)
  | rectReset (k : Ticket)
  | setMode (k : Ticket) (m : Option Mode)
  | setTime (k : Ticket) (t : Nat)
  | captureStart (k : Ticket) (n : Nat)
  | captureRead (k : Ticket) (slot segment : Nat)
  | captureRelease (k : Ticket) (slot : Nat)
  | inject (k : Ticket) (node : Nat) (payload : List Byte)
  | portRecover (k : Ticket) (p : Option Port)
  | restart (k : Ticket)
  | badRequest (k : Ticket) (why : BadRequest)
  | keyChange (pos : KeyPos)
  | estopAsserted
  | estopReleased
  | coldReset
  | resetRelease (strapRest : RestState) (strapNode : BitVec 6)
  | keyFirstSettling (pos : KeyPos)
  deriving DecidableEq, Repr

/-- The command that is the taking of a queued request (R176). -/
def Request.toInstr (k : Ticket) : Request → Instr
  | .bad why => .badRequest k why
  | .readRowNode row => .readRowNode k row
  | .readRowFeeder row => .readRowFeeder k row
  | .readRowRect row => .readRowRect k row
  | .readRowSection row => .readRowSection k row
  | .readRowPort row => .readRowPort k row
  | .readRowReport row => .readRowReport k row
  | .readRecordFeeder n => .readRecordFeeder k n
  | .readRecordRect => .readRecordRect k
  | .readRecordPort p => .readRecordPort k p
  | .readRecordTie t => .readRecordTie k t
  | .readRecordDevice => .readRecordDevice k
  | .writeRowNode row w => .writeRowNode k row w
  | .writeRowFeeder row w => .writeRowFeeder k row w
  | .writeRowRect row w => .writeRowRect k row w
  | .writeRowSection row w => .writeRowSection k row w
  | .writeRowPort row w => .writeRowPort k row w
  | .writeRowReport row w => .writeRowReport k row w
  | .inService n => .inService k n
  | .outOfService n => .outOfService k n
  | .closeFeeder n => .closeFeeder k n
  | .openFeeder n => .openFeeder k n
  | .resetLockout n => .resetLockout k n
  | .rectRun => .rectRun k
  | .rectRest => .rectRest k
  | .rectReset => .rectReset k
  | .setMode m => .setMode k m
  | .setTime t => .setTime k t
  | .captureStart n => .captureStart k n
  | .captureRead slot segment => .captureRead k slot segment
  | .captureRelease slot => .captureRelease k slot
  | .inject node payload => .inject k node payload
  | .portRecover p => .portRecover k p
  | .restart => .restart k

end Sys2Proof
end

