-- ==== Sys2Proof/Machine/Records.lean ====
section
/-! DEFINITION. The records the blocks of the part own, as plain data: port records, frames, intake,
protection and feeder records, the rectifier record, tie records, reports, capture slots and
replies. Machine/State.lean puts them together. -/

namespace Sys2Proof.Machine

/-! Link and ports -/

/-- Frame kinds 1 to 7 (Table 1-1). -/
inductive Kind where
  | sample | status | command | manage | reply | report | tie
  deriving DecidableEq, Repr

/-- Classifications of an error frame (R4). -/
inductive RxError where
  | check | length | abort | kind
  deriving DecidableEq, Repr

/-- States of a port (section 1.5). -/
inductive PortState where
  | good | degraded | lost
  deriving DecidableEq, Repr

/-- A good received frame, read in the layout of Table 1-1. -/
structure RxFrame where
  kind : Kind
  dest : Byte
  src : Byte
  seq : Byte
  payload : List Byte
  deriving DecidableEq, Repr

/-! Causes, results and reasons (Table 9-2) -/

/-- Trip causes of the feeder record (Table 5-1). -/
inductive TripCause where
  | ioc | ddl | thermal | intertrip | blind | frozen | emergency | uncommandedClose | externalOpen
  deriving DecidableEq, Repr

/-- Lockout causes (Table 5-5). -/
inductive LockoutCause where
  | trip (c : TripCause)
  | switchOntoFault | intertripFailed | shotsExhausted | breakerFailure | closeFailure
  | contactorFailure | farLockout
  deriving DecidableEq, Repr

/-- Causes an intertrip carries (section 8.2). -/
inductive InterCause where
  | ioc | ddl | backup | emergency
  deriving DecidableEq, Repr

/-- Results of a TRIP_ACK (section 8.2). -/
inductive AckResult where
  | tripped | alreadyOpen | outOfService | unknownSection | notInServiceMode
  deriving DecidableEq, Repr

/-- Reasons for which an intertrip fails (R153). -/
inductive InterFail where
  | noAck | linkDown | unknownSection | notInServiceMode
  deriving DecidableEq, Repr

/-- Reasons for which a line test is aborted (R115). -/
inductive AbortReason where
  | supplyLost | blind | frozen | intertrip | opened | emergency | lowBusbar | noBusbar | noSupply
  | uncommandedClose | intertripFailed
  deriving DecidableEq, Repr

/-- Why the group is PARKED or HOLD (Table 7-1). -/
inductive RectCause where
  | none | rest | stackHot | acLoss | measureLost | reset | replayEnd
  deriving DecidableEq, Repr, Inhabited

/-- Causes of the FAULTED state (Table 7-1). -/
inductive FaultCause where
  | backup | emergency | overcurrent | stackHot | acBreakerFailure | acOpened | firingFault
  deriving DecidableEq, Repr

/-- The names of Table 9-2, which a report carries as its cause code. -/
inductive Cause where
  | ioc | ddl | thermal | intertrip | blind | frozen | emergency | uncommandedClose | externalOpen
  | backup | switchOntoFault | intertripFailed | shotsExhausted | breakerFailure | closeFailure
  | contactorFailure | farLockout
  | live | short | loaded | clear | supplyLost | opened | lowBusbar | noBusbar | noSupply
  | none | rest | stackHot | acLoss | measureLost | acOpened | reset | replayEnd | overcurrent
  | acBreakerFailure | firingFault
  | tripped | alreadyOpen | outOfService | unknownSection | notInServiceMode
  deriving DecidableEq, Repr

/-- A subset of the trip causes (Table 5-1). -/
structure TripCauses where
  ioc : Bool
  ddl : Bool
  thermal : Bool
  intertrip : Bool
  blind : Bool
  frozen : Bool
  emergency : Bool
  uncommandedClose : Bool
  externalOpen : Bool
  deriving DecidableEq, Repr

/-- A subset of the fault causes (Table 7-1). -/
structure FaultCauses where
  backup : Bool
  emergency : Bool
  overcurrent : Bool
  stackHot : Bool
  acBreakerFailure : Bool
  acOpened : Bool
  firingFault : Bool
  deriving DecidableEq, Repr

/-! Reports (chapter 9) -/

/-- Report kinds (Table 9-1). -/
inductive ReportKind where
  | trip | breakerFailure | lockout | rectFault | emergency | intertripFailed | portLost
  | captureLost
  | feederState | breakerOpened | breakerClosed | externalOpen | uncommandedClose | wouldTrip
  | lineTest | reclosePhase | actingMaster | thermalAlarm | thermalClear | slowRise | unitFault
  | blind | seen | frozen | frozenClear | rectState | syncSlip | limitHold | stackWarn | stackClear
  | tieUp | tieDown | farMode | intertripSent | intertripAcked | intertripReceived | sectionMsg
  | portState | modeChange | keyChange | captureReady | restart
  deriving DecidableEq, Repr

/-- Sources of a report (Table 1-4). -/
inductive Source where
  | feeder (f : FeederId)
  | rect
  | port (p : Port)
  | tie (t : Tie)
  | device
  deriving DecidableEq, Repr

/-- A report record (section 9.1). Its urgency is fixed by its kind. -/
structure Report where
  time : Stamp
  timeValid : Bool
  kind : ReportKind
  source : Source
  cause : Option Cause
  value1 : Option Int
  value2 : Option Int
  lostBefore : Option Nat
  deriving DecidableEq, Repr

/-- A queued record with its time in the queue, in microseconds (R161). -/
structure QueuedReport where
  record : Report
  age : Nat
  deriving DecidableEq, Repr

/-! Feeders (chapters 3 to 6, 8) -/

/-- An entry of a history ring (R42); `gap` is present when the handed gap was above 1. -/
structure RingEntry where
  i : Int
  u : Nat
  ub : Nat
  seq : Byte
  gap : Option Nat
  deriving DecidableEq, Repr

/-- Feeder intake record (Table 3-1); BLIND and FROZEN are in the feeder record. -/
structure FeederIntake where
  lastSeq : Option Byte
  resumption : Bool
  carry : Nat
  lastAccepted : Option (Int × Nat)
  faultOnset : Bool
  blindTimer : Timer
  frozenCount : Nat
  clearingCount : Nat
  ring : List RingEntry
  deriving DecidableEq, Repr

/-- DDL phases (section 4.1). -/
inductive DdlPhase where
  | idle | rising
  deriving DecidableEq, Repr

/-- The DDL episode record (section 4.1). -/
structure Ddl where
  phase : DdlPhase
  iStart : Int
  d : Nat
  q : Nat
  deriving DecidableEq, Repr

/-- The protection record of a feeder (section 4.1). -/
structure Protection where
  iocCount : Nat
  ddl : Ddl
  theta : Nat
  alarm : Bool
  hold : Bool
  deriving DecidableEq, Repr

/-- Feeder states (Table 5-2). -/
inductive FeederState where
  | out | opened | testing | closing | closed | opening | tripping | deadTime | lockout
  deriving DecidableEq, Repr

/-- Dead-time phases (section 6.1). -/
inductive Phase where
  | timing | cooling | awaitingFarEnd | awaitingSupply
  deriving DecidableEq, Repr

/-- Positions of a breaker (Table 9-3). -/
inductive BreakerPos where
  | opened | closed | travelling | disagree | unknown
  deriving DecidableEq, Repr

/-- Positions of a test contactor (Table 5-1). -/
inductive ContactorPos where
  | opened | closed | disagree | unknown
  deriving DecidableEq, Repr

/-- Kinds of a line test. -/
inductive TestKind where
  | auto | manual
  deriving DecidableEq, Repr

/-- Phases from which an automatic test is requested. -/
inductive TestOrigin where
  | timing | cooling | awaitingFarEnd
  deriving DecidableEq, Repr

/-- Steps of a line test (section 6.3). -/
inductive TestStep where
  | contactorCheck | liveCheck | contactorClosing | settling | summing | contactorOpening
  deriving DecidableEq, Repr

/-- Classes of the test ratio (R111). -/
inductive RatioClass where
  | short | loaded | clear
  deriving DecidableEq, Repr

/-- A pending result (R111). -/
structure PendingResult where
  result : RatioClass
  r : Nat
  uAvg : Nat
  ubAvg : Nat
  deriving DecidableEq, Repr

/-- Outcomes of a test: a result, or an abort with its reason (R117). -/
inductive TestOutcome where
  | live
  | ratio (c : RatioClass)
  | contactorFailure
  | aborted (r : AbortReason)
  deriving DecidableEq, Repr

/-- The last result (Table 6-1). -/
structure LastResult where
  outcome : TestOutcome
  r : Option Nat
  uAvg : Option Nat
  ubAvg : Option Nat
  deriving DecidableEq, Repr

/-- The test record (Table 6-1). -/
structure TestRec where
  kind : Option TestKind
  origin : Option TestOrigin
  step : Option TestStep
  count : Nat
  sumU : Nat
  sumUb : Nat
  pending : Option PendingResult
  last : Option LastResult
  deriving DecidableEq, Repr

/-- The feeder record (Tables 5-1 and 6-1). -/
structure FeederRec where
  state : FeederState
  phase : Option Phase
  shotCount : Nat
  reclaim : Timer
  sotf : Timer
  openTimer : Timer
  closeTimer : Timer
  dead : Timer
  sotfMark : Bool
  intertripFailed : Bool
  openRequested : Bool
  shotTaken : Bool
  tripCauses : TripCauses
  primary : Option TripCause
  lockoutCause : Option LockoutCause
  breaker : BreakerPos
  contactor : ContactorPos
  spring : Bool
  pendingTest : Bool
  farClear : Bool
  test : TestRec
  tripLine : Bool
  blind : Bool
  frozen : Bool
  deriving DecidableEq, Repr

/-- An outstanding intertrip entry of a feeder (Table 8-2). -/
structure Entry where
  tie : Tie
  sectionId : Nat
  cause : InterCause
  tag : Byte
  sends : Nat
  timer : Nat
  deriving DecidableEq, Repr

/-- The repeat record of a feeder with its running window (R154). -/
structure RepeatRec where
  tag : Byte
  result : AckResult
  window : Nat
  deriving DecidableEq, Repr

/-- Positions a simulated device takes (R184). -/
inductive SimPos where
  | opened | closed
  deriving DecidableEq, Repr

/-- A pending operation of the plant simulation: target position and timer (R184). -/
structure SimOp where
  target : SimPos
  timer : Nat
  deriving DecidableEq, Repr

/-- One device of the plant simulation (R184). -/
structure SimDevice where
  pos : SimPos
  op : Option SimOp
  deriving DecidableEq, Repr

/-- Everything the part holds for one feeder. -/
structure FeederUnit where
  row : FeederRow
  valid : Bool
  intake : FeederIntake
  prot : Protection
  sq : FeederRec
  decim : Nat
  section_ : SectionRow
  entry : Option Entry
  repeatRec : Option RepeatRec
  simBreaker : SimDevice
  simContactor : SimDevice
  deriving DecidableEq, Repr

/-! Rectifier (chapters 3 and 7) -/

/-- Rectifier intake record (Table 3-2). -/
structure RectIntake where
  lastSeq : Option Byte
  resumption : Bool
  carry : Nat
  faultOnset : Bool
  ub : Nat
  ir : Int
  temp : Int
  busbarValid : Bool
  prevStamp : Option Stamp
  timeSet : Bool
  silence : Timer
  arriving : Bool
  deriving DecidableEq, Repr

/-- Rectifier states (Table 7-3). -/
inductive RectState where
  | parked | starting | running | hold | probe | faulted
  deriving DecidableEq, Repr

/-- The firing unit as last reported (Table 7-1). -/
inductive FiringState where
  | healthy | faulty | unknown
  deriving DecidableEq, Repr

/-- The rectifier record (Table 7-1); `firstCrossingWait` says which wait of STARTING runs (R124). -/
structure RectRec where
  state : RectState
  cause : RectCause
  faults : FaultCauses
  firstFault : Option FaultCause
  probeTarget : RestState
  runPending : Bool
  retryPending : Bool
  firstCrossingWait : Bool
  p : Option Stamp
  t : Nat
  syncValid : Bool
  missed : Nat
  watch : Timer
  alpha : Nat
  sumUb : Nat
  n : Nat
  peakIr : Int
  limitHold : Nat
  overcurrent : Nat
  stackWarn : Bool
  stackTrip : Bool
  latched : PerFeeder Bool
  testers : PerFeeder Bool
  acPos : BreakerPos
  firing : FiringState
  acTimer : Timer
  acTrip : Bool
  deriving DecidableEq, Repr

/-! Ties (chapter 8) -/

/-- A tie link record (Table 8-1); `farMode = none` is UNKNOWN. -/
structure TieRec where
  up : Bool
  beatCount : Nat
  gapTimer : Timer
  silence : Timer
  farMode : Option Mode
  sendTimer : Timer
  tag : Byte
  deriving DecidableEq, Repr

/-- TIE messages (section 8.2). -/
inductive TieMsg where
  | beat (m : Mode)
  | tripReq (sectionId : Byte) (cause : InterCause) (tag : Byte)
  | tripAck (sectionId : Byte) (tag : Byte) (result : AckResult)
  | sectionClear (sectionId : Byte)
  | sectionHold (sectionId : Byte)
  deriving DecidableEq, Repr

/-! Captures (section 9.4) -/

/-- A present position of a capture. -/
structure Point where
  i : Int
  u : Nat
  ub : Nat
  deriving DecidableEq, Repr

/-- Trigger kinds. -/
inductive TriggerKind where
  | trip | manual
  deriving DecidableEq, Repr

/-- States of a capture slot. -/
inductive SlotState where
  | free | filling | ready
  deriving DecidableEq, Repr

/-- A capture slot. `positions` lists the positions filled so far, position 0 first, `none` for an
absent one; its length is the slot's next position. -/
structure Slot where
  state : SlotState
  feeder : Option FeederId
  trigger : Option TriggerKind
  time : Stamp
  timeValid : Bool
  positions : List (Option Point)
  deriving DecidableEq, Repr

/-! Commands to field units (R75, R128) -/

/-- A breaker command to a feeder breaker unit. -/
inductive BreakerCmd where
  | trip | opened | close
  deriving DecidableEq, Repr

/-- FIRING_SET (R128). -/
structure FiringSet where
  alpha : Nat
  correction : Int
  period : Nat
  block : Bool
  resync : Bool
  deriving DecidableEq, Repr

/-- The commands the part originates on the field port URGENT queue (R13). -/
inductive FieldCommand where
  | breaker (f : FeederId) (c : BreakerCmd)
  | testContactor (f : FeederId) (close : Bool)
  | firingSet (x : FiringSet)
  | acBreaker (close : Bool)
  deriving DecidableEq, Repr

/-! Replies (chapter 10) -/

/-- Reply statuses (Table 10-2). -/
inductive Status where
  | done | refusedMode | refusedState | refusedAuthority | badTable | badRow | badValue
  | badRequest | busy
  deriving DecidableEq, Repr

/-- Request types, which a REPLY echoes (Table 10-1); `asReceived` is the type byte of a request of
unknown type or wrong length, echoed as it came (R175). -/
inductive RequestType where
  | readRow | writeRow | readRecord | feederCmd | rectCmd | setMode | setTime | captureStart
  | captureRead | captureRelease | inject | portRecover | restart
  | asReceived (type : Byte)
  deriving DecidableEq, Repr

/-- READ_RECORD FEEDER (R72, R73, R117, R181), with the thresholds of R72. -/
structure FeederView where
  sq : FeederRec
  prot : Protection
  intake : FeederIntake
  valid : Bool
  thetaReclose : Nat
  thetaAlarm : Nat
  thetaTrip : Nat
  deriving DecidableEq, Repr

/-- READ_RECORD RECT (R120). -/
structure RectView where
  record : RectRec
  row : RectRow
  valid : Bool
  rest : RestState
  deriving DecidableEq, Repr

/-- READ_RECORD PORT (R17). -/
structure PortView where
  state : PortState
  recovery : Recovery
  errorCount : Nat
  recoveryCount : Nat
  lastError : Option RxError
  rejected : Nat
  forwardedDrop : Nat
  urgentOccupancy : Nat
  normalOccupancy : Nat
  nextSeq : Byte
  deriving DecidableEq, Repr

/-- READ_RECORD TIE (R160). -/
structure TieView where
  link : TieRec
  entries : List (FeederId × Entry)
  repeats : List (FeederId × Option RepeatRec)
  deriving DecidableEq, Repr

/-- One slot of READ_RECORD DEVICE (R173). -/
structure SlotView where
  state : SlotState
  feeder : Option FeederId
  trigger : Option TriggerKind
  nextPosition : Nat
  deriving DecidableEq, Repr

/-- READ_RECORD DEVICE (R181, R173). -/
structure DeviceView where
  mode : Mode
  key : KeyPos
  estop : Bool
  strapRest : RestState
  strapNode : BitVec 6
  ownNode : BitVec 6
  time : Stamp
  timeValid : Bool
  queuedRequests : Nat
  queuedReports : Nat
  loss : Nat
  slots : PerSlot SlotView
  deriving DecidableEq, Repr

/-- A position as CAPTURE_READ carries it: its presence flag and its three fields (R172). -/
structure PositionView where
  present : Bool
  i : Int
  u : Nat
  ub : Nat
  deriving DecidableEq, Repr

/-- What part 0 of a capture readout carries beside its positions (R172). -/
structure CaptureHead where
  feeder : Option FeederId
  trigger : Option TriggerKind
  time : Stamp
  timeValid : Bool
  deriving DecidableEq, Repr

/-- Results a REPLY carries after its status. -/
inductive ReplyBody where
  | empty
  | nodeRow (r : NodeRow)
  | feederRow (r : FeederRow) (valid : Bool)
  | rectRow (r : RectRow) (valid : Bool)
  | sectionRow (r : SectionRow)
  | portRow (r : Recovery)
  | reportRow (r : ReportRow)
  | feederRecord (v : FeederView)
  | rectRecord (v : RectView)
  | portRecord (v : PortView)
  | tieRecord (v : TieView)
  | deviceRecord (v : DeviceView)
  | captureSlot (slot : Nat)
  | capturePart (slot segment : Nat) (points : List PositionView) (head : Option CaptureHead)
  deriving DecidableEq, Repr

/-- One REPLY frame's content: part `part` of `parts` (R175, R181). -/
structure Reply where
  type : RequestType
  number : Byte
  status : Status
  part : Nat
  parts : Nat
  body : ReplyBody
  deriving DecidableEq, Repr

/-! Frames in the transmit queues -/

/-- The payload of a queued frame: bytes kept as received for forwarded frames and sample copies,
named fields for the frames the part originates. -/
inductive Payload where
  | bytes (b : List Byte)
  | command (c : FieldCommand)
  | reply (r : Reply)
  | reports (rs : List Report)
  | tie (m : TieMsg)
  deriving DecidableEq, Repr

/-- A frame in a transmit queue or being sent (Table 1-1; the check is computed on transmission,
R2). -/
structure Frame where
  kind : Kind
  dest : Byte
  src : Byte
  seq : Byte
  payload : Payload
  deriving DecidableEq, Repr

/-- The port record with its queues and its transmitter (R17, R11). -/
structure PortRec where
  state : PortState
  recovery : Recovery
  errorCount : Nat
  recoveryCount : Nat
  lastError : Option RxError
  rejected : Nat
  forwardedDrop : Nat
  urgent : List Frame
  normal : List Frame
  nextSeq : Byte
  sending : Option Frame
  deriving DecidableEq, Repr

/-- An entry of the request queue (R176). -/
structure QueuedRequest where
  ticket : Ticket
  request : Request
  deriving DecidableEq, Repr

/-! What one block hands another -/

/-- A trip request (R68, R83): its cause set, its primary cause, the current, ΔI when DDL is in the
cause set, and θ; a request that does not come from protection has neither ΔI nor θ. -/
structure TripRequest where
  causes : TripCauses
  primary : TripCause
  i : Option Int
  rise : Option Int
  theta : Option Nat
  deriving DecidableEq, Repr

/-- A well-formed STATUS of a feeder breaker unit (R74). -/
structure BreakerStatus where
  breaker : BreakerPos
  contactor : ContactorPos
  spring : Bool
  deriving DecidableEq, Repr

/-- A feeder SAMPLE payload read in the layout of Table 1-2. -/
structure FeederSample where
  i : Int
  u : Nat
  iOver : Bool
  uOver : Bool
  unitFault : Bool
  deriving DecidableEq, Repr

/-- A rectifier SAMPLE payload read in the layout of Table 1-3. -/
structure RectSample where
  ub : Nat
  ir : Int
  temp : Int
  ubOver : Bool
  irOver : Bool
  unitFault : Bool
  crossing : Option Nat
  deriving DecidableEq, Repr

/-- An accepted feeder sample as intake hands it on (R41). -/
structure FeederTaken where
  i : Int
  u : Nat
  ub : Nat
  ubValid : Bool
  gap : Nat
  previous : Int
  resumption : Bool
  deriving DecidableEq, Repr

/-- An accepted rectifier sample as intake hands it on, with its crossing where it is placed (R47). -/
structure RectTaken where
  ub : Nat
  ir : Int
  temp : Int
  gap : Nat
  resumption : Bool
  placed : Option Stamp
  deriving DecidableEq, Repr

end Sys2Proof.Machine
end

