-- ==== Sys2Proof/Machine/State.lean ====
section
/-! DEFINITION. The state of the part: everything the manual gives it, as plain data, the queue of
waiting commands, and the state right after a cold reset. -/

namespace Sys2Proof.Machine

/-- Reasons a step could stop with a fault. NO meaning of this model raises one: every command of the
table has an effect, or no effect, stated by its rule. The constructor stands for the host's
interface alone (safe: it is never answered). -/
inductive Fault where
  /-- Raised by no command of this model (safe). -/
  | neverRaised
  deriving DecidableEq, Repr

/-- Reasons a step could refuse a command. NO meaning of this model refuses. -/
inductive Refusal where
  /-- A command that has no meaning yet, by its mnemonic in the table; raised only by an arm of exec
  that is not modelled, of which this model has none (safe). -/
  | notModelled (mnemonic : String)
  deriving DecidableEq, Repr

/-- The state of the part. `pending` is the model's own queue of commands that wait, first in first
out; `freeCount` is the model's own index into the free values of Config (log entries 2 and 5). -/
structure State where
  pending : List Instr
  freeCount : Nat
  inReset : Bool
  time : Stamp
  timeValid : Bool
  mode : Mode
  key : KeyPos
  keySettled : Bool
  estop : Bool
  strapRest : RestState
  strapNode : BitVec 6
  ownNode : BitVec 6
  rest : RestState
  requests : List QueuedRequest
  ports : PerPort PortRec
  nodes : Vector NodeRow 64
  feeders : PerFeeder FeederUnit
  rectIntake : RectIntake
  rectRow : RectRow
  rectValid : Bool
  rect : RectRec
  ties : PerTie TieRec
  reports : List QueuedReport
  loss : Nat
  reportRow : ReportRow
  slots : PerSlot Slot
  simAc : SimDevice
  deriving DecidableEq, Repr

/-- A port after cold reset (R18). -/
def PortRec.cold : PortRec where
  state := .good
  recovery := .auto
  errorCount := 0
  recoveryCount := 0
  lastError := none
  rejected := 0
  forwardedDrop := 0
  urgent := []
  normal := []
  nextSeq := 0#8
  sending := none

/-- An UNUSED node row (R19). -/
def unusedRow : NodeRow where
  role := .unused
  binding := none
  side := .field
  downCommand := false
  downManage := false
  upStatus := false
  upReply := false
  upReport := false

/-- A FEEDER row with every field stored as 0 (R187); the first member of a coded field stands for 0
(log entry 5). -/
def FeederRow.zero : FeederRow where
  intake := { tBlind := 0, iRippleMin := 0, wF := 0, policy := .auto, decimation := 0 }
  prot :=
    { iocOn := false, iIoc := 0, c := 0, ddlOn := false, sStart := 0, sEnd := 0, e := 0, dISet := 0
      dMin := 0, dMax := 0, thermalOn := false, k := 0, iReclose := 0, iAlarm := 0, iTrip := 0 }
  brk :=
    { tOpenMax := 0, tCloseMax := 0, tSotf := 0, tReclaim := 0, blindAction := .trip
      capture := false }
  test :=
    { shots := 0, dead1 := 0, dead2 := 0, dead3 := 0, tFollow := 0, wSettle := 0, rLive := 0
      rShort := 0, rLoad := 0, ubMinTest := 0 }

/-- A RECT row with every field stored as 0 (R187; log entry 5). -/
def RectRow.zero : RectRow where
  freq := 0
  uSet := 0
  db := 0
  alphaMin := 0
  alphaMax := 0
  alphaStep := 0
  alphaClStep := 0
  h := 0
  iLim := 0
  iRectTrip := 0
  cRect := 0
  j := 0
  tWarn := 0
  tTrip := 0
  hysteresis := 0
  stackPolicy := .retry
  wake := false
  uWake := 0
  wakeFromParked := false

/-- A feeder intake record after either reset (R51). -/
def FeederIntake.fresh : FeederIntake where
  lastSeq := none
  resumption := true
  carry := 0
  lastAccepted := none
  faultOnset := false
  blindTimer := none
  frozenCount := 0
  clearingCount := 0
  ring := []

/-- A DDL episode at rest (section 4.1). -/
def Ddl.rest : Ddl where
  phase := .idle
  iStart := 0
  d := 0
  q := 0

/-- A protection record after either reset (R72). -/
def Protection.fresh : Protection where
  iocCount := 0
  ddl := Ddl.rest
  theta := 0
  alarm := false
  hold := false

/-- The test record after either reset (R118). -/
def TestRec.fresh : TestRec where
  kind := none
  origin := none
  step := none
  count := 0
  sumU := 0
  sumUb := 0
  pending := none
  last := none

/-- A feeder record after either reset (R99, R118). -/
def FeederRec.fresh : FeederRec where
  state := .out
  phase := none
  shotCount := 0
  reclaim := none
  sotf := none
  openTimer := none
  closeTimer := none
  dead := none
  sotfMark := false
  intertripFailed := false
  openRequested := false
  shotTaken := false
  tripCauses := ⟨false, false, false, false, false, false, false, false, false⟩
  primary := none
  lockoutCause := none
  breaker := .unknown
  contactor := .unknown
  spring := false
  pendingTest := false
  farClear := false
  test := TestRec.fresh
  tripLine := false
  blind := false
  frozen := false

/-- A simulated device at the start of the simulation (R184). -/
def SimDevice.start : SimDevice where
  pos := .opened
  op := none

/-- A feeder after cold reset (R34, R51, R72, R99, R118, R144, R160, R187). -/
def FeederUnit.cold : FeederUnit where
  row := FeederRow.zero
  valid := false
  intake := FeederIntake.fresh
  prot := Protection.fresh
  sq := FeederRec.fresh
  decim := 0
  section_ := { tie := none, sectionId := 0, role := .master }
  entry := none
  repeatRec := none
  simBreaker := SimDevice.start
  simContactor := SimDevice.start

/-- The rectifier intake record after either reset (R51). -/
def RectIntake.fresh : RectIntake where
  lastSeq := none
  resumption := true
  carry := 0
  faultOnset := false
  ub := 0
  ir := 0
  temp := 0
  busbarValid := false
  prevStamp := none
  timeSet := false
  silence := none
  arriving := false

/-- The rectifier record after cold reset (R143), for a rest state. -/
def RectRec.cold (rest : RestState) : RectRec where
  state := .parked
  cause := .none
  faults := ⟨false, false, false, false, false, false, false⟩
  firstFault := none
  probeTarget := rest
  runPending := false
  retryPending := false
  firstCrossingWait := false
  p := none
  t := 20000
  syncValid := false
  missed := 0
  watch := none
  alpha := 1500
  sumUb := 0
  n := 0
  peakIr := 0
  limitHold := 0
  overcurrent := 0
  stackWarn := false
  stackTrip := false
  latched := PerFeeder.const false
  testers := PerFeeder.const false
  acPos := .unknown
  firing := .unknown
  acTimer := none
  acTrip := false

/-- A tie link record after cold reset (R160); the send timer runs with 10 ms (R146). -/
def TieRec.cold : TieRec where
  up := false
  beatCount := 0
  gapTimer := none
  silence := none
  farMode := none
  sendTimer := some 10000
  tag := 0#8

/-- A FREE capture slot. With no capture in it, it has no feeder, no trigger kind and no positions, so its
next position is 0 (R168, R173; log entry 51). -/
def Slot.free : Slot where
  state := .free
  feeder := none
  trigger := none
  time := 0#48
  timeValid := false
  positions := []

/-- The part right after RESET_N counts low: every block at its cold-reset values, held in reset
until RESET_N counts high (R18, R19, R51, R72, R99, R118, R143, R160, R174, R187, R188, R190). The
straps and the node number, sampled at the release, hold log entry 5's values until then. -/
def State.reset : State where
  pending := []
  freeCount := 0
  inReset := true
  time := 0#48
  timeValid := false
  mode := .config
  key := .atLocal
  keySettled := false
  estop := false
  strapRest := .hold
  strapNode := 0#6
  ownNode := 0#6
  rest := .hold
  requests := []
  ports := PerPort.const PortRec.cold
  nodes := Vector.replicate 64 unusedRow
  feeders := PerFeeder.const FeederUnit.cold
  rectIntake := RectIntake.fresh
  rectRow := RectRow.zero
  rectValid := false
  rect := RectRec.cold .hold
  ties := ⟨TieRec.cold, TieRec.cold⟩
  reports := []
  loss := 0
  reportRow := { level := 2, batchTimeout := 10, replayTime := 50 }
  slots := PerSlot.const Slot.free
  simAc := SimDevice.start

end Sys2Proof.Machine
end

