-- ==== Sys2Proof/Config.lean ====
section
/-! DEFINITION. What the manual fixes for every part (capacities and intervals), and the FREE VALUES:
constants with no body for what it leaves open. Nothing can be proved of a free value. -/

namespace Sys2Proof

open Sys2Proof.Machine

/-- Frames the URGENT queue of a port holds (section 1.6). -/
def Config.urgentCapacity : Nat := 24

/-- Frames the NORMAL queue of a port holds (section 1.6). -/
def Config.normalCapacity : Nat := 32

/-- Entries of the request queue (R176). -/
def Config.requestCapacity : Nat := 8

/-- Records of the report queue (R164). -/
def Config.reportCapacity : Nat := 64

/-- Entries of a history ring (R42). -/
def Config.ringCapacity : Nat := 128

/-- Period of a tie's send timer, 10 ms (R146). -/
def Config.beatPeriod : Nat := 10000

/-- Beat gap and tie silence, 50 ms (R147). -/
def Config.tieSilence : Nat := 50000

/-- Interval between repeats of a TRIP_REQ, 10 ms (R150). -/
def Config.repeatInterval : Nat := 10000

/-- Simulation timer of an intertrip entry in REPLAY, 5 ms (R159). -/
def Config.replayIntertrip : Nat := 5000

/-- Window of a repeat record, 100 ms (R154). -/
def Config.repeatWindow : Nat := 100000

/-- Rectifier silence, 20 ms (R47). -/
def Config.rectSilence : Nat := 20000

/-- AC timer of a parking or a breaker wait, 1 s (R124, R138). -/
def Config.acTime : Nat := 1000000

/-- FREE VALUE. The request that a MANAGE payload names, from its type byte and the bytes after the
request number; `none` is an unknown type or a wrong length (R175). The manual gives the requests by
their fields and no codes or layout (log entry 6). -/
opaque Config.requestOf (type : Byte) (fields : List Byte) : Option Request

/-- FREE VALUE. The payload bytes of a COMMAND the part originates, of which the frame takes at most 48
(R2): the manual gives its fields and no layout (log entry 7). -/
opaque Config.commandBytes (c : FieldCommand) : List Byte

/-- FREE VALUE. The payload bytes of a REPLY, of which the frame takes at most 48 (R2): the manual gives
its fields and no layout (log entry 7). -/
opaque Config.replyBytes (r : Reply) : List Byte

/-- FREE VALUE. How many REPLY frames after the first one a result of READ_ROW or READ_RECORD takes
(R181): it follows from the reply layout, which the manual does not give (log entry 8). -/
opaque Config.extraParts (b : ReplyBody) : Nat

/-- FREE VALUE. The correction of a FIRING_SET offered on entry to PARKED, STARTING, HOLD or FAULTED,
which R120 does not state (log entry 9). -/
opaque Config.freeCorrection (n : Nat) : Int

/-- FREE VALUE. The resync flag of the same FIRING_SET (log entry 9). -/
opaque Config.freeResync (n : Nat) : Bool

/-- FREE VALUE. The cause of a group that comes to mirror PARKED in SHADOW, which R141 does not state
(log entry 10). -/
opaque Config.freeParkCause (n : Nat) : RectCause

/-- FREE VALUE. The test ratio formed against a mean busbar voltage of 0, a division R111 does not
define; no valid row (Ub_min_test at least 200) reaches it (log entry 38). -/
opaque Config.ratioByZero (uAvg : Nat) : Nat

end Sys2Proof
end

