-- ==== Sys2Proof/Machine/Link.lean ====
section
/-! DEFINITION. The link frame on the line: the check (R3), the classification of a received frame
(R4) and the reading of a good one (Table 1-1). -/

namespace Sys2Proof.Machine

/-- Shift one bit into the check register: generator x^16 + x^12 + x^5 + 1 (R3). -/
def crcBit (crc : BitVec 16) (b : Bool) : BitVec 16 :=
  if crc.getLsbD 15 != b then (crc <<< 1) ^^^ 0x1021#16 else crc <<< 1

/-- Shift one byte in, most significant bit first (R3). -/
def crcByte (crc : BitVec 16) (b : Byte) : BitVec 16 :=
  [7, 6, 5, 4, 3, 2, 1, 0].foldl (fun c k => crcBit c (b.getLsbD k)) crc

/-- The check over a list of bytes, starting at all ones, with no final inversion (R3). -/
def crc16 (bytes : List Byte) : BitVec 16 := bytes.foldl crcByte 0xFFFF#16

/-- A 16-bit value as two bytes, high byte first. -/
def bytes16 (v : BitVec 16) : List Byte := [v.extractLsb' 8 8, v.extractLsb' 0 8]

/-- Two bytes, high byte first, as an unsigned number. -/
def nat16 (hi lo : Byte) : Nat := hi.toNat * 256 + lo.toNat

/-- Two bytes, high byte first, as a two's complement number. -/
def int16 (hi lo : Byte) : Int := (hi ++ lo).toInt

/-- The code of a frame kind (Table 1-1). -/
def Kind.code : Kind → Byte
  | .sample => 1#8 | .status => 2#8 | .command => 3#8 | .manage => 4#8
  | .reply => 5#8 | .report => 6#8 | .tie => 7#8

/-- The kind of a code, `none` for an unknown kind (Table 1-1). -/
def Kind.ofCode (b : Byte) : Option Kind :=
  [Kind.sample, .status, .command, .manage, .reply, .report, .tie].find? fun k => k.code == b

/-- The outcome of classifying a received frame: a good frame or one reception error (R4). -/
inductive Classified where
  | error (e : RxError)
  | good (fr : RxFrame)
  deriving DecidableEq, Repr

/-- Classify a frame of at least five bytes whose header is given and whose bytes after the header
are `rest`: rows 2 to 7 of the classification table of R4, in order. -/
def classifyBody (b0 b1 b2 b3 b4 : Byte) (rest : List Byte) : Classified :=
  let len := b4.toNat
  if 48 < len then .error .length
  else if rest.length < 2 + len then .error .abort
  else if 2 + len < rest.length then .error .length
  else if bytes16 (crc16 (b0 :: b1 :: b2 :: b3 :: b4 :: rest.take len)) ≠ rest.drop len then
    .error .check
  else
    match Kind.ofCode b0 with
    | none => .error .kind
    | some k => .good { kind := k, dest := b1, src := b2, seq := b3, payload := rest.take len }

/-- The classification of a received frame by the first row of R4's table that applies. -/
def classify : List Byte → Classified
  | b0 :: b1 :: b2 :: b3 :: b4 :: rest => classifyBody b0 b1 b2 b3 b4 rest
  | _ => .error .abort

/-- The bytes of a frame on the line: header, payload and check (R2, Table 1-1). -/
def frameBytes (kind : Kind) (dest src seq : Byte) (payload : List Byte) : List Byte :=
  let head := kind.code :: dest :: src :: seq :: BitVec.ofNat 8 payload.length :: payload
  head ++ bytes16 (crc16 head)

end Sys2Proof.Machine
end

