-- ==== Sys2Proof/Machine/Codes.lean ====
section
/-! DEFINITION. The code tables: cause codes (Table 9-2), value codes (Table 9-3), report kinds and
urgencies (Table 9-1), and the report record's bytes (Table 1-4). -/

namespace Sys2Proof.Machine

/-- Cause codes (Table 9-2). -/
def Cause.code : Cause → Nat
  | .ioc => 1 | .ddl => 2 | .thermal => 3 | .intertrip => 4 | .blind => 5 | .frozen => 6
  | .emergency => 7 | .uncommandedClose => 8 | .externalOpen => 9 | .backup => 10
  | .switchOntoFault => 11 | .intertripFailed => 12 | .shotsExhausted => 13
  | .breakerFailure => 14 | .closeFailure => 15 | .contactorFailure => 16 | .farLockout => 17
  | .live => 32 | .short => 33 | .loaded => 34 | .clear => 35 | .supplyLost => 36 | .opened => 37
  | .lowBusbar => 38 | .noBusbar => 39 | .noSupply => 40
  | .none => 48 | .rest => 49 | .stackHot => 50 | .acLoss => 51 | .measureLost => 52
  | .acOpened => 53 | .reset => 54 | .replayEnd => 55 | .overcurrent => 56
  | .acBreakerFailure => 57 | .firingFault => 58
  | .tripped => 64 | .alreadyOpen => 65 | .outOfService => 66 | .unknownSection => 67
  | .notInServiceMode => 68

/-- The name of a trip cause in Table 9-2. -/
def TripCause.cause : TripCause → Cause
  | .ioc => .ioc | .ddl => .ddl | .thermal => .thermal | .intertrip => .intertrip
  | .blind => .blind | .frozen => .frozen | .emergency => .emergency
  | .uncommandedClose => .uncommandedClose | .externalOpen => .externalOpen

/-- The name of a lockout cause in Table 9-2. -/
def LockoutCause.cause : LockoutCause → Cause
  | .trip c => c.cause
  | .switchOntoFault => .switchOntoFault | .intertripFailed => .intertripFailed
  | .shotsExhausted => .shotsExhausted | .breakerFailure => .breakerFailure
  | .closeFailure => .closeFailure | .contactorFailure => .contactorFailure
  | .farLockout => .farLockout

/-- The name of an intertrip cause in Table 9-2. -/
def InterCause.cause : InterCause → Cause
  | .ioc => .ioc | .ddl => .ddl | .backup => .backup | .emergency => .emergency

/-- The name of an acknowledgement result in Table 9-2. -/
def AckResult.cause : AckResult → Cause
  | .tripped => .tripped | .alreadyOpen => .alreadyOpen | .outOfService => .outOfService
  | .unknownSection => .unknownSection | .notInServiceMode => .notInServiceMode

/-- The reason code of an INTERTRIP_FAILED report (R153). -/
def InterFail.code : InterFail → Nat
  | .noAck => 1 | .linkDown => 2 | .unknownSection => 3 | .notInServiceMode => 4

/-- The name of an abort reason; one that has the name of a cause carries that cause's code (R163). -/
def AbortReason.cause : AbortReason → Cause
  | .supplyLost => .supplyLost | .blind => .blind | .frozen => .frozen | .intertrip => .intertrip
  | .opened => .opened | .emergency => .emergency | .lowBusbar => .lowBusbar
  | .noBusbar => .noBusbar | .noSupply => .noSupply | .uncommandedClose => .uncommandedClose
  | .intertripFailed => .intertripFailed

/-- The name of a test outcome (R117). -/
def TestOutcome.cause : TestOutcome → Cause
  | .live => .live
  | .ratio .short => .short | .ratio .loaded => .loaded | .ratio .clear => .clear
  | .contactorFailure => .contactorFailure
  | .aborted r => r.cause

/-- The name of a rectifier cause in Table 9-2. -/
def RectCause.cause : RectCause → Cause
  | .none => .none | .rest => .rest | .stackHot => .stackHot | .acLoss => .acLoss
  | .measureLost => .measureLost | .reset => .reset | .replayEnd => .replayEnd

/-- The name of a fault cause in Table 9-2. -/
def FaultCause.cause : FaultCause → Cause
  | .backup => .backup | .emergency => .emergency | .overcurrent => .overcurrent
  | .stackHot => .stackHot | .acBreakerFailure => .acBreakerFailure | .acOpened => .acOpened
  | .firingFault => .firingFault

/-- Feeder state codes (Table 9-3). -/
def FeederState.code : FeederState → Int
  | .out => 1 | .opened => 2 | .testing => 3 | .closing => 4 | .closed => 5 | .opening => 6
  | .tripping => 7 | .deadTime => 8 | .lockout => 9

/-- Dead-time phase codes (Table 9-3). -/
def Phase.code : Phase → Int
  | .timing => 1 | .cooling => 2 | .awaitingFarEnd => 3 | .awaitingSupply => 4

/-- Rectifier state codes (Table 9-3). -/
def RectState.code : RectState → Int
  | .parked => 1 | .starting => 2 | .running => 3 | .hold => 4 | .probe => 5 | .faulted => 6

/-- Device mode codes (Table 9-3). -/
def modeCode : Mode → Int
  | .config => 1 | .service => 2 | .shadow => 3 | .replay => 4

/-- Far mode codes: a device mode, or 0 for UNKNOWN (Table 9-3). -/
def farModeCode : Option Mode → Int
  | none => 0
  | some m => modeCode m

/-- Port state codes (Table 9-3). -/
def PortState.code : PortState → Int
  | .good => 1 | .degraded => 2 | .lost => 3

/-- Breaker position codes (Table 9-3). -/
def BreakerPos.code : BreakerPos → Int
  | .opened => 1 | .closed => 2 | .travelling => 3 | .disagree => 4 | .unknown => 5

/-- Reception error codes of a PORT_LOST report (Table 9-1). -/
def RxError.code : RxError → Int
  | .check => 1 | .length => 2 | .abort => 3 | .kind => 4

/-- Trigger kind codes (Table 9-1). -/
def TriggerKind.code : TriggerKind → Int
  | .trip => 1 | .manual => 2

/-- Key position codes (Table 9-1). -/
def keyCode : KeyPos → Int
  | .atLocal => 1 | .atRemote => 2

/-- Report kind codes (Table 9-1). -/
def ReportKind.code : ReportKind → Nat
  | .trip => 1 | .breakerFailure => 2 | .lockout => 3 | .rectFault => 4 | .emergency => 5
  | .intertripFailed => 6 | .portLost => 7 | .captureLost => 8
  | .feederState => 16 | .breakerOpened => 17 | .breakerClosed => 18 | .externalOpen => 19
  | .uncommandedClose => 20 | .wouldTrip => 21 | .lineTest => 22 | .reclosePhase => 23
  | .actingMaster => 24 | .thermalAlarm => 25 | .thermalClear => 26 | .slowRise => 27
  | .unitFault => 28 | .blind => 29 | .seen => 30 | .frozen => 31 | .frozenClear => 32
  | .rectState => 33 | .syncSlip => 34 | .limitHold => 35 | .stackWarn => 36 | .stackClear => 37
  | .tieUp => 38 | .tieDown => 39 | .farMode => 40 | .intertripSent => 41 | .intertripAcked => 42
  | .intertripReceived => 43 | .sectionMsg => 44 | .portState => 45 | .modeChange => 46
  | .keyChange => 47 | .captureReady => 48 | .restart => 49

/-- The urgency fixed by a report kind: codes 1 to 8 are URGENT (Table 9-1). -/
def ReportKind.urgent (k : ReportKind) : Bool := decide (k.code ≤ 8)

/-- Report source codes (Table 1-4). -/
def Source.code : Source → Nat
  | .feeder f => f.num
  | .rect => 9
  | .port .fp => 10 | .port .sp => 11 | .port .ta => 12 | .port .tb => 13
  | .tie .a => 14 | .tie .b => 15
  | .device => 16

/-- Whether a queued record is URGENT. -/
def Report.urgent (r : Report) : Bool := r.kind.urgent

/-- The size of a record: 10 bytes, plus 1 for a cause, 4 for each value, 1 for lost-before (R161). -/
def Report.size (r : Report) : Nat :=
  10 + (if r.cause.isSome then 1 else 0) + (if r.value1.isSome then 4 else 0)
    + (if r.value2.isSome then 4 else 0) + (if r.lostBefore.isSome then 1 else 0)

/-- A value of 8 × n bits as n bytes, high byte first. -/
def bytesOf (n : Nat) (v : Nat) : List Byte :=
  (List.range n).reverse.map fun k => BitVec.ofNat 8 (v / 256 ^ k)

/-- An int32 as four bytes (Table 1-4). -/
def bytesInt32 (v : Int) : List Byte := bytesOf 4 (BitVec.ofInt 32 v).toNat

/-- Bit k of a flag byte. -/
def flagBit (b : Bool) (k : Nat) : Nat := if b then 2 ^ k else 0

/-- The bytes of a report record (Table 1-4); reserved bits are sent as zero (R2). -/
def Report.bytes (r : Report) : List Byte :=
  bytesOf 6 r.time.toNat
    ++ [BitVec.ofNat 8 r.kind.code, BitVec.ofNat 8 r.source.code,
        BitVec.ofNat 8 (flagBit r.timeValid 0 + flagBit r.urgent 1),
        BitVec.ofNat 8 (flagBit r.cause.isSome 0 + flagBit r.value1.isSome 1
          + flagBit r.value2.isSome 2 + flagBit r.lostBefore.isSome 3)]
    ++ (match r.cause with | some c => [BitVec.ofNat 8 c.code] | none => [])
    ++ (match r.value1 with | some v => bytesInt32 v | none => [])
    ++ (match r.value2 with | some v => bytesInt32 v | none => [])
    ++ (match r.lostBefore with | some n => [BitVec.ofNat 8 n] | none => [])

/-- Whether a set of trip causes holds a cause. -/
def TripCauses.has (x : TripCauses) : TripCause → Bool
  | .ioc => x.ioc | .ddl => x.ddl | .thermal => x.thermal | .intertrip => x.intertrip
  | .blind => x.blind | .frozen => x.frozen | .emergency => x.emergency
  | .uncommandedClose => x.uncommandedClose | .externalOpen => x.externalOpen

/-- The empty set of trip causes. -/
def TripCauses.empty : TripCauses :=
  ⟨false, false, false, false, false, false, false, false, false⟩

/-- The union of two sets of trip causes. -/
def TripCauses.union (x y : TripCauses) : TripCauses where
  ioc := x.ioc || y.ioc
  ddl := x.ddl || y.ddl
  thermal := x.thermal || y.thermal
  intertrip := x.intertrip || y.intertrip
  blind := x.blind || y.blind
  frozen := x.frozen || y.frozen
  emergency := x.emergency || y.emergency
  uncommandedClose := x.uncommandedClose || y.uncommandedClose
  externalOpen := x.externalOpen || y.externalOpen

/-- The set of one trip cause. -/
def TripCauses.single : TripCause → TripCauses
  | .ioc => { TripCauses.empty with ioc := true }
  | .ddl => { TripCauses.empty with ddl := true }
  | .thermal => { TripCauses.empty with thermal := true }
  | .intertrip => { TripCauses.empty with intertrip := true }
  | .blind => { TripCauses.empty with blind := true }
  | .frozen => { TripCauses.empty with frozen := true }
  | .emergency => { TripCauses.empty with emergency := true }
  | .uncommandedClose => { TripCauses.empty with uncommandedClose := true }
  | .externalOpen => { TripCauses.empty with externalOpen := true }

/-- The empty set of fault causes. -/
def FaultCauses.empty : FaultCauses := ⟨false, false, false, false, false, false, false⟩

/-- Add a cause to a set of fault causes. -/
def FaultCauses.add (x : FaultCauses) : FaultCause → FaultCauses
  | .backup => { x with backup := true }
  | .emergency => { x with emergency := true }
  | .overcurrent => { x with overcurrent := true }
  | .stackHot => { x with stackHot := true }
  | .acBreakerFailure => { x with acBreakerFailure := true }
  | .acOpened => { x with acOpened := true }
  | .firingFault => { x with firingFault := true }

end Sys2Proof.Machine
end

