-- ==== Sys2Proof/Machine/Wire.lean ====
section
/-! DEFINITION. The bytes with which the part transmits its frames (R2), and the byte coding of TIE
messages (R145). -/

namespace Sys2Proof.Machine

/-- The TIE payload of a message: the type code of R145, then the fields, one byte each. -/
def TieMsg.bytes : TieMsg → List Byte
  | .beat m => [1#8, BitVec.ofInt 8 (modeCode m)]
  | .tripReq sec c tag => [2#8, sec, BitVec.ofNat 8 c.cause.code, tag]
  | .tripAck sec tag r => [3#8, sec, tag, BitVec.ofNat 8 r.cause.code]
  | .sectionClear sec => [4#8, sec]
  | .sectionHold sec => [5#8, sec]

/-- The payload bytes of a frame: as received for forwarded frames, by the layouts of the manual for
TIE messages and reports, and for commands and replies the first 48 bytes of a free value of Config, so
that no payload the part originates is longer than Table 1-1 lets it be (R2, log entry 7). -/
def Payload.toBytes : Payload → List Byte
  | .bytes b => b
  | .command c => (Config.commandBytes c).take 48
  | .reply r => (Config.replyBytes r).take 48
  | .reports rs => rs.flatMap Report.bytes
  | .tie m => m.bytes

/-- The bytes of a frame on the line, with a check computed afresh on transmission (R2). -/
def Frame.wire (f : Frame) : List Byte :=
  frameBytes f.kind f.dest f.src f.seq f.payload.toBytes

end Sys2Proof.Machine
end

