-- ==== Sys2Proof/Machine/Ops.lean ====
section
/-! DEFINITION. The operations every block uses: reading and replacing the record of a port, a
feeder or a tie, submitting reports (R161, R164), the arbiter and the transmit queues (R11 to R16),
handing commands to the plant simulation (R184), and arithmetic on stamps and timers. -/

namespace Sys2Proof.Machine

/-! Reading and replacing records -/

/-- The record of a port. -/
def State.port (s : State) (p : Port) : PortRec := s.ports.get p

/-- Replace the record of a port. -/
def State.setPort (s : State) (p : Port) (r : PortRec) : State :=
  { s with ports := s.ports.set p r }

/-- What the part holds for a feeder. -/
def State.feeder (s : State) (f : FeederId) : FeederUnit := s.feeders.get f

/-- Replace what the part holds for a feeder. -/
def State.setFeeder (s : State) (f : FeederId) (u : FeederUnit) : State :=
  { s with feeders := s.feeders.set f u }

/-- The feeder record of a feeder. -/
def State.sq (s : State) (f : FeederId) : FeederRec := (s.feeder f).sq

/-- Replace the feeder record of a feeder. -/
def State.setSq (s : State) (f : FeederId) (r : FeederRec) : State :=
  s.setFeeder f { s.feeder f with sq := r }

/-- Replace the intake record of a feeder. -/
def State.setIntake (s : State) (f : FeederId) (k : FeederIntake) : State :=
  s.setFeeder f { s.feeder f with intake := k }

/-- Replace the protection record of a feeder. -/
def State.setProt (s : State) (f : FeederId) (r : Protection) : State :=
  s.setFeeder f { s.feeder f with prot := r }

/-- Replace the rectifier record. -/
def State.setRect (s : State) (r : RectRec) : State := { s with rect := r }

/-- Replace the rectifier intake record. -/
def State.setRectIntake (s : State) (r : RectIntake) : State := { s with rectIntake := r }

/-- The link record of a tie. -/
def State.tie (s : State) (t : Tie) : TieRec := s.ties.get t

/-- Replace the link record of a tie. -/
def State.setTie (s : State) (t : Tie) (r : TieRec) : State := { s with ties := s.ties.set t r }

/-- Serve something for every feeder, F1 first. -/
def forFeeders (g : FeederId → State → State) (s : State) : State :=
  FeederId.all.foldl (fun st f => g f st) s

/-! Stamps and timers -/

/-- The signed difference of two station times, read modulo 2^48 (R188). -/
def stampDiff (a b : Stamp) : Int := (a - b).toInt

/-- A station time moved by a signed number of microseconds, modulo 2^48. -/
def stampAdd (a : Stamp) (d : Int) : Stamp := a + BitVec.ofInt 48 d

/-- Milliseconds as the microseconds of a timer (R189). -/
def ms (n : Nat) : Nat := n * 1000

/-- Clamp a value to a range (00, Arithmetic). -/
def clampInt (lo hi x : Int) : Int := if x < lo then lo else if hi < x then hi else x

/-- Add 1 to a count that stops at a maximum. -/
def satInc (top n : Nat) : Nat := if n < top then n + 1 else n

/-! Reports -/

/-- The stamp a submission takes: station time, or the newest queued record's stamp when station
time is below it (R161). -/
def reportStamp (s : State) : Stamp :=
  match s.reports.getLast? with
  | some q => if stampDiff s.time q.record.time < 0 then q.record.time else s.time
  | none => s.time

/-- Submit a record: it is stamped, then joins the queue with the records lost before it, or is
dropped and counted when the queue holds 64 (R161, R164). -/
def submit (kind : ReportKind) (source : Source) (cause : Option Cause) (v1 v2 : Option Int)
    (s : State) : State :=
  if s.reports.length < Config.reportCapacity then
    let r : Report :=
      { time := reportStamp s, timeValid := s.timeValid, kind := kind, source := source
        cause := cause, value1 := v1, value2 := v2
        lostBefore := if s.loss = 0 then none else some s.loss }
    { s with reports := s.reports ++ [{ record := r, age := 0 }], loss := 0 }
  else { s with loss := satInc 255 s.loss }

/-! Nodes -/

/-- The row of a node number; a byte above 63 has no row and reads as UNUSED (log entry 21). -/
def State.nodeRow (s : State) (n : Byte) : NodeRow := (s.nodes[n.toNat]?).getD unusedRow

/-- The node numbers, in order. -/
def nodeNumbers : List Nat := List.range 64

/-- The first node that has a role and a binding, if any. -/
def findNode (s : State) (role : Role) (binding : Option FeederId) : Option Byte :=
  (nodeNumbers.find? fun n =>
    let row := s.nodeRow (BitVec.ofNat 8 n)
    row.role == role && row.binding == binding).map fun n => BitVec.ofNat 8 n

/-- The part's own node number, as a header byte (R22). -/
def State.ownByte (s : State) : Byte := s.ownNode.setWidth 8

/-- The station address: the GATEWAY's node, or 63 (R22). -/
def stationAddress (s : State) : Byte := (findNode s .gateway none).getD 63#8

/-! The arbiter and the queues -/

/-- A port record after its arbiter has looked: when the port is not LOST and its transmitter is
free, the head of URGENT, else the head of NORMAL, leaves its queue and is being sent (R11). -/
def PortRec.arbitrate (r : PortRec) : PortRec :=
  if r.state = .lost ∨ r.sending.isSome then r
  else
    match r.urgent, r.normal with
    | f :: rest, _ => { r with urgent := rest, sending := some f }
    | [], f :: rest => { r with normal := rest, sending := some f }
    | [], [] => r

/-- Let a port's arbiter start a transmission if it can (R11). -/
def arbitrate (p : Port) (s : State) : State := s.setPort p (s.port p).arbitrate

/-- A frame the part originates on a port: its own node as source and the port's next originated
sequence number (R12). -/
def originated (s : State) (p : Port) (kind : Kind) (dest : Byte) (payload : Payload) : Frame where
  kind := kind
  dest := dest
  src := s.ownByte
  seq := (s.port p).nextSeq
  payload := payload

/-- Advance a port's originated-sequence counter (R12). -/
def advanceSeq (p : Port) (s : State) : State :=
  s.setPort p { s.port p with nextSeq := (s.port p).nextSeq + 1#8 }

/-- Replace the first frame of a queue that satisfies a test by another, if there is one (R13,
R14). -/
def replaceFirst (test : Frame → Bool) (new : Frame) : List Frame → Option (List Frame)
  | [] => none
  | f :: rest =>
    if test f then some (new :: rest) else (replaceFirst test new rest).map fun q => f :: q

/-- Remove the oldest frame of a queue that satisfies a test, if there is one (R14). -/
def removeFirst (test : Frame → Bool) : List Frame → Option (List Frame)
  | [] => none
  | f :: rest => if test f then some rest else (removeFirst test rest).map fun q => f :: q

/-- Whether two commands are of one class of R13's table. -/
def sameClass : FieldCommand → FieldCommand → Bool
  | .breaker f _, .breaker g _ => f == g
  | .testContactor f _, .testContactor g _ => f == g
  | .firingSet _, .firingSet _ => true
  | .acBreaker _, .acBreaker _ => true
  | _, _ => false

/-- Whether a queued frame is a command of the class of `c`. -/
def isClass (c : FieldCommand) (f : Frame) : Bool :=
  match f.payload with
  | .command d => sameClass c d
  | _ => false

/-- The field port URGENT queue after a command frame is offered: it replaces a queued command of its
class in place, or joins the tail (R13). A full queue, which R13 shows cannot arise, keeps its
frames (log entry 26). -/
def offeredCommand (c : FieldCommand) (frame : Frame) (q : List Frame) : List Frame :=
  match replaceFirst (isClass c) frame q with
  | some q' => q'
  | none => if q.length < Config.urgentCapacity then q ++ [frame] else q

/-- Offer a command frame to the field port URGENT queue (R12, R13). -/
def offerCommandFrame (dest : Byte) (c : FieldCommand) (s : State) : State :=
  let frame := originated s .fp .command dest (.command c)
  let r := s.port .fp
  arbitrate .fp (advanceSeq .fp (s.setPort .fp { r with urgent := offeredCommand c frame r.urgent }))

/-- Whether a queued frame is a BEAT. -/
def isBeat (f : Frame) : Bool :=
  match f.payload with
  | .tie (.beat _) => true
  | _ => false

/-- Whether a queued frame is a TRIP_ACK. -/
def isAck (f : Frame) : Bool :=
  match f.payload with
  | .tie (.tripAck _ _ _) => true
  | _ => false

/-- Whether an offered TIE message replaces a queued frame in place: a TRIP_REQ a TRIP_REQ, a section
message a section message, of the same section id (R14). -/
def replacesTie (m : TieMsg) (f : Frame) : Bool :=
  match m, f.payload with
  | .tripReq a _ _, .tie (.tripReq b _ _) => a == b
  | .sectionClear a, .tie (.sectionClear b) => a == b
  | .sectionClear a, .tie (.sectionHold b) => a == b
  | .sectionHold a, .tie (.sectionClear b) => a == b
  | .sectionHold a, .tie (.sectionHold b) => a == b
  | _, _ => false

/-- A tie port's URGENT queue after a TIE frame is offered (R14). A full queue that holds neither a BEAT
nor a TRIP_ACK, which R14 says cannot arise, is kept and the offered frame dropped (log entry 26). -/
def offeredTie (m : TieMsg) (frame : Frame) (q : List Frame) : List Frame :=
  match replaceFirst (replacesTie m) frame q with
  | some q' => q'
  | none =>
    if q.length < Config.urgentCapacity then q ++ [frame]
    else if isBeat frame then q
    else
      match removeFirst isBeat q with
      | some q' => q' ++ [frame]
      | none =>
        match removeFirst isAck q with
        | some q' => q' ++ [frame]
        | none => q

/-- Offer a TIE frame, with destination 63, to a tie port's URGENT queue (R12, R14, R145). -/
def offerTie (t : Tie) (m : TieMsg) (s : State) : State :=
  let p := t.port
  let frame := originated s p .tie 63#8 (.tie m)
  let r := s.port p
  arbitrate p (advanceSeq p (s.setPort p { r with urgent := offeredTie m frame r.urgent }))

/-- Offer a forwarded frame or a sample copy to a NORMAL queue: it joins the tail, or is dropped and
counted in the forwarded-drop count, which stops at 65535 (R16). -/
def offerForwarded (p : Port) (frame : Frame) (s : State) : State :=
  let r := s.port p
  if r.normal.length < Config.normalCapacity then
    arbitrate p (s.setPort p { r with normal := r.normal ++ [frame] })
  else s.setPort p { r with forwardedDrop := satInc 65535 r.forwardedDrop }

/-- Offer one REPLY frame to a NORMAL queue: it joins the tail or is dropped (R12, R16). -/
def offerReplyFrame (p : Port) (dest : Byte) (reply : Reply) (s : State) : State :=
  let frame := originated s p .reply dest (.reply reply)
  let r := s.port p
  let q := if r.normal.length < Config.normalCapacity then r.normal ++ [frame] else r.normal
  arbitrate p (advanceSeq p (s.setPort p { r with normal := q }))

/-- Count a rejected frame on a port; the count stops at 65535 (R17, R31). -/
def reject (p : Port) (s : State) : State :=
  s.setPort p { s.port p with rejected := satInc 65535 (s.port p).rejected }

/-! Commands to the plant -/

/-- The simulated position a command aims at. -/
def simTarget (close : Bool) : SimPos := if close then .closed else .opened

/-- Hand a command to the plant simulation: the device's target is set and its timer started with the
replay operating time of the REPORT row; FIRING_SET is taken and not answered (R184). -/
def simCommand (c : FieldCommand) (s : State) : State :=
  let time := ms s.reportRow.replayTime
  match c with
  | .breaker f b =>
    let u := s.feeder f
    s.setFeeder f
      { u with simBreaker := { u.simBreaker with op := some ⟨simTarget (b == .close), time⟩ } }
  | .testContactor f close =>
    let u := s.feeder f
    s.setFeeder f
      { u with simContactor := { u.simContactor with op := some ⟨simTarget close, time⟩ } }
  | .firingSet _ => s
  | .acBreaker close => { s with simAc := { s.simAc with op := some ⟨simTarget close, time⟩ } }

/-- The node a command is addressed to: the feeder's BREAKER node, the FIRING node or the AC_BREAKER
node (R75, R120). -/
def commandNode (s : State) : FieldCommand → Option Byte
  | .breaker f _ => findNode s .breaker (some f)
  | .testContactor f _ => findNode s .breaker (some f)
  | .firingSet _ => findNode s .firing none
  | .acBreaker _ => findNode s .acBreaker none

/-- Offer a command: to the plant simulation in REPLAY, else to its node on the field port URGENT
queue; with no such node it is not offered (R13, R120, R184; log entry 25). -/
def offerField (c : FieldCommand) (s : State) : State :=
  if s.mode = .replay then simCommand c s
  else
    match commandNode s c with
    | some n => offerCommandFrame n c s
    | none => s

end Sys2Proof.Machine
end

