-- ==== Sys2Proof/Machine/Capture.lean ====
section
/-! DEFINITION. Disturbance captures: triggers, filling and early ends (R168 to R170). -/

namespace Sys2Proof.Machine

/-- Replace a capture slot. -/
def State.setSlot (s : State) (k : SlotId) (c : Slot) : State := { s with slots := s.slots.set k c }

/-- The slot that is FILLING for a feeder, if any. -/
def fillingSlot (s : State) (f : FeederId) : Option SlotId :=
  SlotId.all.find? fun k =>
    let c := s.slots.get k
    c.state == .filling && c.feeder == some f

/-- The lowest-numbered FREE slot, if any. -/
def freeSlot (s : State) : Option SlotId :=
  SlotId.all.find? fun k => (s.slots.get k).state == .free

/-- The positions of a ring's entries, newest entry first: each older entry lies the newer entry's gap
before it, an entry with no gap counting as 1, and the positions between are absent (R168). -/
def ringPositions : List RingEntry → List (Option Point)
  | [] => []
  | e :: older =>
    some ⟨e.i, e.u, e.ub⟩ :: (List.replicate (e.gap.getD 1 - 1) none ++ ringPositions older)

/-- The 128 pre-positions of a capture, position 0 first: the newest ring entry at position 127, an
entry that would fall below 0 dropped with every older one, the rest absent (R168). -/
def prePositions (ring : List RingEntry) : List (Option Point) :=
  let back := (ringPositions ring.reverse).take 128
  List.replicate (128 - back.length) none ++ back.reverse

/-- What a trigger comes to: a slot taken, absorbed by the slot already filling, or lost (R169). -/
inductive Triggered where
  | took (k : SlotId)
  | absorbed (k : SlotId)
  | lost
  deriving DecidableEq, Repr

/-- What a trigger for a feeder would come to now (R168, R169). -/
def triggerOutcome (s : State) (f : FeederId) : Triggered :=
  match fillingSlot s f with
  | some k => .absorbed k
  | none =>
    match freeSlot s with
    | some k => .took k
    | none => .lost

/-- The slot a trigger fills, as it stands right after the trigger (R168). -/
def triggeredSlot (s : State) (f : FeederId) (kind : TriggerKind) : Slot where
  state := .filling
  feeder := some f
  trigger := some kind
  time := s.time
  timeValid := s.timeValid
  positions := prePositions (s.feeder f).intake.ring

/-- Serve a capture trigger for a feeder (R168, R169). -/
def trigger (f : FeederId) (kind : TriggerKind) (s : State) : State :=
  match triggerOutcome s f with
  | .absorbed _ => s
  | .took k => s.setSlot k (triggeredSlot s f kind)
  | .lost => submit .captureLost (.feeder f) none (some kind.code) none s

/-- The number of present positions of a capture. -/
def presentCount (positions : List (Option Point)) : Nat := (positions.filter Option.isSome).length

/-- Store a slot's positions; when position 511 has been filled the slot becomes READY with a
CAPTURE_READY report (R169). -/
def storePositions (f : FeederId) (k : SlotId) (positions : List (Option Point)) (s : State) : State :=
  let c := s.slots.get k
  if positions.length < 512 then s.setSlot k { c with positions := positions }
  else
    submit .captureReady (.feeder f) none (some k.num) (some (presentCount positions))
      (s.setSlot k { c with positions := positions, state := .ready })

/-- The positions after an accepted sample with handed gap `h`: h - 1 absent positions and a present
one, or absent ones up to 511 when these would run past it (R169). -/
def filledPositions (positions : List (Option Point)) (h : Nat) (p : Point) : List (Option Point) :=
  if positions.length + h ≤ 512 then positions ++ List.replicate (h - 1) none ++ [some p]
  else positions ++ List.replicate (512 - positions.length) none

/-- Hand an accepted sample to the capture slot filling for the feeder, if there is one (R41, R169). -/
def fillCapture (f : FeederId) (h : Nat) (p : Point) (s : State) : State :=
  match fillingSlot s f with
  | none => s
  | some k => storePositions f k (filledPositions (s.slots.get k).positions h p) s

/-- End the slot filling for a feeder that enters OUT: the positions left become absent and the slot
READY (R170). -/
def endCapture (f : FeederId) (s : State) : State :=
  match fillingSlot s f with
  | none => s
  | some k =>
    let positions := (s.slots.get k).positions
    storePositions f k (positions ++ List.replicate (512 - positions.length) none) s

end Sys2Proof.Machine
end

