-- ==== Sys2Proof/Machine/FeederBase.lean ====
section
/-! DEFINITION. What every passage of a feeder or of the rectifier group from one state to another
does, whatever caused it: the entry effects of R76, R79, R85, R86, R95, R100, R105 and R53 for a
feeder, and those of R120 for the group. -/

namespace Sys2Proof.Machine

/-! Feeders -/

/-- The tie of the feeder's section map row, if it names one. -/
def sectionTie (s : State) (f : FeederId) : Option Tie := (s.feeder f).section_.tie

/-- Whether a feeder is a follower: its row names a tie port with role FOLLOWER (section 6.1). -/
def isFollower (s : State) (f : FeederId) : Bool :=
  (s.feeder f).section_.tie.isSome && (s.feeder f).section_.role == .follower

/-- Whether a feeder in a state is armed in a device mode (R52). -/
def armed (m : Mode) (st : FeederState) : Bool :=
  match m with
  | .service | .replay => st == .closing || st == .closed || st == .opening
  | .shadow => st == .closed
  | .config => false

/-- The level a trip line has by R76: asserted exactly in TRIPPING and in a BREAKER_FAILURE lockout,
outside REPLAY. -/
def tripLevel (m : Mode) (st : FeederState) (cause : Option LockoutCause) : Bool :=
  m != .replay && (st == .tripping || (st == .lockout && cause == some .breakerFailure))

/-- IOC and DDL at rest, the trip hold as it was (R53). -/
def Protection.atRest (r : Protection) : Protection := { r with iocCount := 0, ddl := Ddl.rest }

/-- IOC and DDL at rest and the trip hold clear (R53, R69). -/
def Protection.disarmed (r : Protection) : Protection := { r.atRest with hold := false }

/-- θ_X of a threshold X in amperes (R65). -/
def thetaOf (x : Nat) : Nat := (x / 16) * (x / 16)

/-- θ_reclose of a feeder (R65). -/
def thetaReclose (s : State) (f : FeederId) : Nat := thetaOf (s.feeder f).row.prot.iReclose

/-- The test record with no test requested or in progress; the last result is kept (R100, log entry
24). -/
def TestRec.ended (t : TestRec) : TestRec := { TestRec.fresh with last := t.last }

/-- The entry effects on the feeder record of a change to state `new`, other than OUT: the phase is
left with DEAD_TIME and its timer stopped (R100), far-clear cleared on every exit from DEAD_TIME
(R105), the shot-taken mark cleared on entry to CLOSING, OPEN and LOCKOUT (R100), the trip causes
cleared on entry to CLOSED, OPENING and OPEN (R85), the intertrip-failed mark on entry to CLOSED,
OPEN and LOCKOUT (R95), and the trip line driven as R76 states. -/
def FeederRec.entered (m : Mode) (new : FeederState) (cause : Option LockoutCause)
    (r : FeederRec) : FeederRec :=
  let dead := new == .deadTime
  let clearsCauses := new == .closed || new == .opening || new == .opened
  { r with
    state := new
    phase := if dead then r.phase else none
    dead := if dead then r.dead else none
    farClear := if dead then r.farClear else false
    pendingTest := if dead then r.pendingTest else false
    shotTaken := if new == .closing || new == .opened || new == .lockout then false else r.shotTaken
    tripCauses := if clearsCauses then TripCauses.empty else r.tripCauses
    primary := if clearsCauses then none else r.primary
    intertripFailed :=
      if new == .closed || new == .opened || new == .lockout then false else r.intertripFailed
    openRequested := false
    test := r.test.ended
    lockoutCause := if new == .lockout then cause else none
    tripLine := tripLevel m new cause }

/-- The feeder record on entry to OUT (R79, R85, R118): positions, FROZEN and the last result are
kept. -/
def FeederRec.enteredOut (r : FeederRec) : FeederRec :=
  { FeederRec.fresh with
    breaker := r.breaker
    contactor := r.contactor
    spring := r.spring
    frozen := r.frozen
    test := r.test.ended }

/-- Remove a feeder's latched test at the rectifier (R132). -/
def withdrawLatched (f : FeederId) (s : State) : State :=
  s.setRect { s.rect with latched := s.rect.latched.set f false }

/-- Put IOC and DDL at rest and clear the trip hold when a change of state leaves the armed states
(R53, R69). -/
def disarmIfLeft (f : FeederId) (old new : FeederState) (s : State) : State :=
  if armed s.mode old && !armed s.mode new then s.setProt f (s.feeder f).prot.disarmed else s

/-- Change a feeder's state, with the entry effects of `FeederRec.entered`, a latched test withdrawn
on leaving DEAD_TIME (R100), and protection at rest on leaving the armed states. It tells the
rectifier nothing of a feeder leaving TESTING: `enterState` does. -/
def enterCore (f : FeederId) (new : FeederState) (cause : Option LockoutCause) (s : State) : State :=
  let r := s.sq f
  let s1 := if r.pendingTest && new != .deadTime then withdrawLatched f s else s
  disarmIfLeft f r.state new (s1.setSq f (r.entered s.mode new cause))

/-- The FEEDER_STATE report of a change of state (R73). -/
def reportFeederState (f : FeederId) (new old : FeederState) (s : State) : State :=
  submit .feederState (.feeder f) none (some new.code) (some old.code) s

/-- Offer a command to a feeder's breaker unit: in SHADOW the sequence unit offers none (R75). -/
def offerSeq (c : FieldCommand) (s : State) : State :=
  if s.mode = .shadow then s else offerField c s

/-- Start a feeder's close timer with t_close_max. -/
def startCloseTimer (f : FeederId) (s : State) : State :=
  s.setSq f { s.sq f with closeTimer := some (ms (s.feeder f).row.brk.tCloseMax) }

/-- The LINE_TEST report of a result or an abort (R117). -/
def reportLineTest (f : FeederId) (x : LastResult) (s : State) : State :=
  let value2 : Option Int :=
    match x.uAvg, x.ubAvg with
    | some u, some ub => some (u * 4096 + ub)
    | _, _ => none
  submit .lineTest (.feeder f) (some x.outcome.cause) (x.r.map Int.ofNat) value2 s

/-- Record a last result and report it (R117). -/
def recordResult (f : FeederId) (x : LastResult) (s : State) : State :=
  let r := s.sq f
  reportLineTest f x (s.setSq f { r with test := { r.test with last := some x } })

/-- The dead time, in milliseconds, whose number is n (R102). -/
def deadTime (row : TestSettings) (n : Nat) : Nat :=
  if n = 1 then row.dead1 else if n = 2 then row.dead2 else row.dead3

/-- Enter a phase of DEAD_TIME, from another state or another phase, with its timer; an entry to
DEAD_TIME or a change of phase gives a RECLOSE_PHASE report (R100; log entry 16). -/
def enterPhase (f : FeederId) (ph : Phase) (timer : Timer) (s : State) : State :=
  let r := s.sq f
  let s1 := if r.state = .deadTime then s else enterCore f .deadTime none s
  let r1 := s1.sq f
  let s2 :=
    s1.setSq f { r1 with phase := some ph, dead := timer, test := r1.test.ended }
  if r.state = .deadTime ∧ r.phase = some ph then s2
  else submit .reclosePhase (.feeder f) none (some ph.code) (some r1.shotCount) s2

/-- Enter TIMING with the dead time whose number is the shot count plus 1 (R102). -/
def enterTiming (f : FeederId) (s : State) : State :=
  enterPhase f .timing (some (ms (deadTime (s.feeder f).row.test ((s.sq f).shotCount + 1)))) s

/-- Enter COOLING, which runs no timer (R103). -/
def enterCooling (f : FeederId) (s : State) : State := enterPhase f .cooling none s

/-- Enter AWAITING_FAR_END with t_follow, without looking at the tie (R104). -/
def enterFarEndWait (f : FeederId) (s : State) : State :=
  enterPhase f .awaitingFarEnd (some (ms (s.feeder f).row.test.tFollow)) s

/-- Whether the tie of the feeder's section map row is DOWN (R104). -/
def tieDown (s : State) (f : FeederId) : Bool :=
  match sectionTie s f with
  | some t => !(s.tie t).up
  | none => false

/-! The rectifier group -/

/-- The nominal mains period (Table 7-2). -/
def nominalPeriod (row : RectRow) : Nat := if row.freq = 60 then 16667 else 20000

/-- α_max, taken as 1500 while the RECT settings are invalid (R119). -/
def alphaMax (s : State) : Nat := if s.rectValid then s.rectRow.alphaMax else 1500

/-- Offer a command of the rectifier controller: in SHADOW none is offered, but for a fault served as
in SERVICE (`force`; R141, log entry 17). -/
def offerRect (force : Bool) (c : FieldCommand) (s : State) : State :=
  if s.mode = .shadow ∧ force = false then s else offerField c s

/-- Offer the blocked FIRING_SET of an entry to PARKED, STARTING, HOLD or FAULTED (R120, R128); its
correction and resync flag are free values (log entry 9). -/
def offerBlocked (force : Bool) (s : State) : State :=
  offerRect force
    (.firingSet
      { alpha := s.rect.alpha, correction := Config.freeCorrection s.freeCount, period := s.rect.t
        block := true, resync := Config.freeResync s.freeCount })
    { s with freeCount := s.freeCount + 1 }

/-- States of the group on whose entry firing is blocked (R120). -/
def RectState.blocks : RectState → Bool
  | .parked | .starting | .hold | .faulted => true
  | .running | .probe => false

/-- The accumulators at 0 (R129). -/
def RectRec.clearSums (r : RectRec) : RectRec := { r with sumUb := 0, n := 0, peakIr := 0 }

/-- The entry effects of R120 on the rectifier record. Run pending is also cleared on entry to
RUNNING, which fulfils it (log entry 30); the overcurrent count stays at 0 in PARKED and FAULTED
(R135). -/
def RectRec.entered (new : RectState) (cause : RectCause) (r : RectRec) : RectRec :=
  let blocks := new.blocks
  let ends := new == .parked || new == .faulted
  { r with
    state := new
    cause :=
      match new with
      | .parked | .hold => cause
      | .starting | .running | .probe => .none
      | .faulted => r.cause
    runPending := if blocks || new == .running then false else r.runPending
    limitHold := if blocks then 0 else r.limitHold
    sumUb := if blocks then 0 else r.sumUb
    n := if blocks then 0 else r.n
    peakIr := if blocks then 0 else r.peakIr
    syncValid := if ends || new == .starting then false else r.syncValid
    watch := if ends || new == .starting then none else r.watch
    missed := if ends then 0 else r.missed
    overcurrent := if ends then 0 else r.overcurrent
    firstCrossingWait := false }

/-- Change the state of the group, other than to FAULTED: entry effects, the blocked FIRING_SET and
the RECT_STATE report (R120). -/
def rectMove (new : RectState) (cause : RectCause) (s : State) : State :=
  let old := s.rect.state
  let s1 := s.setRect (s.rect.entered new cause)
  let s2 := if new.blocks then offerBlocked false s1 else s1
  submit .rectState .rect (some s1.rect.cause.cause) (some new.code) (some old.code) s2

/-- Enter PARKED offering the AC breaker OPEN, with the AC timer at 1 s (R122, R133, R138). -/
def park (cause : RectCause) (s : State) : State :=
  let s1 := offerRect false (.acBreaker false) (rectMove .parked cause s)
  s1.setRect { s1.rect with acTimer := some Config.acTime }

/-- Enter the rest state (R122, R133). -/
def enterRest (target : RestState) (cause : RectCause) (s : State) : State :=
  match target with
  | .hold => rectMove .hold cause s
  | .parked => park cause s

/-- Enter the first-crossing wait of STARTING: the AC timer restarts with three nominal periods
(R124). -/
def beginCrossingWait (s : State) : State :=
  s.setRect
    { s.rect with
      firstCrossingWait := true
      acTimer := some (3 * nominalPeriod s.rectRow) }

/-- Enter STARTING (R124): α becomes α_max, sync-valid is cleared, the AC breaker CLOSE is offered and
the AC timer runs 1 s; a position already CLOSED ends the breaker wait at once. -/
def enterStarting (s : State) : State :=
  let s1 := s.setRect { s.rect with alpha := alphaMax s }
  let s2 := rectMove .starting .none (offerRect false (.acBreaker true) s1)
  let s3 := s2.setRect { s2.rect with acTimer := some Config.acTime }
  if s3.rect.acPos = .closed then beginCrossingWait s3 else s3

end Sys2Proof.Machine
end

