-- ==== Sys2Proof/Machine/LineTest.lean ====
section
/-! DEFINITION. Line tests and dead time (chapter 6), with the rectifier's side of the exchange
(section 7.6): test requests, the latched and tester sets, PROBE, results, aborts and lockouts. -/

namespace Sys2Proof.Machine

/-! Ending and starting tests -/

/-- The part of R115's effects that does not reach the rectifier: the close timer stops, TEST_OPEN is
offered when the contactor is not OPEN or a TEST_CLOSE is unconfirmed, sums and pending result are
discarded, and the abort is recorded and reported with U_avg and Ub_avg where they exist. The test
kind and origin are kept for R116. -/
def abortEffects (f : FeederId) (reason : AbortReason) (uAvg ubAvg : Option Nat) (s : State) : State :=
  let r := s.sq f
  let mustOpen := r.contactor != .opened || r.test.step == some .contactorClosing
  let s1 :=
    s.setSq f
      { r with
        closeTimer := none
        test := { r.test with step := none, count := 0, sumU := 0, sumUb := 0, pending := none } }
  let s2 := if mustOpen then offerSeq (.testContactor f false) s1 else s1
  recordResult f { outcome := .aborted reason, r := none, uAvg := uAvg, ubAvg := ubAvg } s2

/-- Give back the shot of an aborted test whose shot-taken mark is set: the count falls by 1 and the mark
is cleared (R115, R116). -/
def giveShotBack (f : FeederId) (s : State) : State :=
  let r := s.sq f
  if r.shotTaken then s.setSq f { r with shotCount := r.shotCount - 1, shotTaken := false } else s

/-- Where an automatic test aborted by BLIND or FROZEN returns to (R116): TIMING with its shot given
back when the mark is set, else COOLING or AWAITING_FAR_END by its origin. The wait for the far end
then runs for t_follow on a DOWN tie too (R104). -/
def returnAfterFlag (f : FeederId) (s : State) : State :=
  let r := s.sq f
  if r.shotTaken then enterTiming f (giveShotBack f s)
  else
    match r.test.origin with
    | some .cooling => enterCooling f s
    | some .awaitingFarEnd => enterFarEndWait f s
    | _ => enterTiming f s

/-- Enter TESTING in step CONTACTOR_CHECK, with nothing yet done about the contactor (R107). -/
def enterTesting (f : FeederId) (kind : TestKind) (origin : Option TestOrigin) (s : State) : State :=
  let old := (s.sq f).state
  let s1 := enterCore f .testing none s
  let r := s1.sq f
  reportFeederState f .testing old
    (s1.setSq f
      { r with test := { r.test with kind := some kind, origin := origin, step := some .contactorCheck } })

/-- Begin step CONTACTOR_CHECK: on a recorded position OPEN the step passes at once to LIVE_CHECK, else
TEST_OPEN is offered and the close timer started (R107). -/
def beginContactorCheck (f : FeederId) (s : State) : State :=
  let r := s.sq f
  if r.contactor = .opened then s.setSq f { r with test := { r.test with step := some .liveCheck } }
  else startCloseTimer f (offerSeq (.testContactor f false) s)

/-- Whether any flag of a set of feeders is set. -/
def anyFeeder (v : PerFeeder Bool) : Bool := FeederId.all.any fun f => v.get f

/-- Add a feeder to the tester set (R132). -/
def addTester (f : FeederId) (s : State) : State :=
  s.setRect { s.rect with testers := s.rect.testers.set f true }

/-- Remove a feeder from the tester set (R132). -/
def dropTester (f : FeederId) (s : State) : State :=
  s.setRect { s.rect with testers := s.rect.testers.set f false }

/-- Start the latched test of a feeder on entry to RUNNING (R106, R132): it moves from the latched set
to the tester set and the feeder enters TESTING with the latched kind and origin; a test started
while BLIND or FROZEN is set is aborted at once (R107), with reason BLIND when both are (log entry 50).
-/
def startLatched (f : FeederId) (s : State) : State :=
  if s.rect.latched.get f then
    let r := s.sq f
    let s1 := addTester f (withdrawLatched f s)
    let s2 := enterTesting f .auto r.test.origin (s1.setSq f { r with pendingTest := false })
    if r.blind || r.frozen then
      returnAfterFlag f
        (dropTester f (abortEffects f (if r.blind then .blind else .frozen) none none s2))
    else beginContactorCheck f s2
  else s

/-- Start every latched test, in feeder-number order (R132). -/
def startAllLatched (s : State) : State := forFeeders startLatched s

/-- Enter RUNNING and start the latched tests (R120, R132). -/
def enterRunning (s : State) : State := startAllLatched (rectMove .running .none s)

/-- The end of PROBE: RUNNING with run pending set, else the probe-return target with cause REST
(R133). -/
def probeEnd (s : State) : State :=
  if s.rect.runPending then enterRunning s else enterRest s.rect.probeTarget .rest s

/-- The notice that a feeder has left TESTING: it leaves the tester set, and PROBE ends when that
empties the set (R132, R133). A feeder that is not in the set changes nothing. -/
def leaveTesting (f : FeederId) (s : State) : State :=
  if s.rect.testers.get f then
    let s1 := dropTester f s
    if s1.rect.state = .probe ∧ anyFeeder s1.rect.testers = false then probeEnd s1 else s1
  else s

/-- Change a feeder's state: the rectifier is informed of an exit from TESTING (R107), then the entry
effects follow. -/
def enterState (f : FeederId) (new : FeederState) (cause : Option LockoutCause) (s : State) : State :=
  enterCore f new cause
    (if (s.sq f).state = .testing ∧ new ≠ .testing then leaveTesting f s else s)

/-- Enter OUT, without a report of its own (R79): the record as `FeederRec.enteredOut` says, the blind
timer stopped, BLIND cleared and the ring emptied (R42, R43), a filling capture ended (R170). -/
def enterOut (f : FeederId) (s : State) : State :=
  let old := (s.sq f).state
  let s1 := if old = .testing then leaveTesting f s else s
  let s2 := if (s1.sq f).pendingTest then withdrawLatched f s1 else s1
  let s3 := disarmIfLeft f old .out (s2.setSq f (s2.sq f).enteredOut)
  let k := (s3.feeder f).intake
  endCapture f (s3.setIntake f { k with blindTimer := none, ring := [] })

/-! Section messages and lockouts -/

/-- Offer a section message for a mapped feeder's section, in every mode but REPLAY (R156, R159). -/
def sendSection (f : FeederId) (hold : Bool) (s : State) : State :=
  match sectionTie s f with
  | none => s
  | some t =>
    if s.mode = .replay then s
    else
      let id := BitVec.ofNat 8 (s.feeder f).section_.sectionId
      offerTie t (if hold then .sectionHold id else .sectionClear id) s

/-- Lockout causes that ask for SECTION_HOLD (R86). -/
def LockoutCause.holds : LockoutCause → Bool
  | .shotsExhausted | .switchOntoFault | .breakerFailure => true
  | _ => false

/-- Every timer of the feeder record stopped (R86). -/
def FeederRec.stopTimers (r : FeederRec) : FeederRec :=
  { r with reclaim := none, sotf := none, openTimer := none, closeTimer := none, dead := none }

/-- Enter LOCKOUT with a cause (R86). A feeder leaving TESTING with its contactor not OPEN offers
TEST_OPEN, unless the event has offered it already (`offered`). -/
def lockout (f : FeederId) (cause : LockoutCause) (offered : Bool) (s : State) : State :=
  let r := s.sq f
  let s1 :=
    if r.state = .testing ∧ r.contactor ≠ .opened ∧ offered = false then
      offerSeq (.testContactor f false) s
    else s
  let s2 := enterState f .lockout (some cause) s1
  let s3 := s2.setSq f (s2.sq f).stopTimers
  let s4 :=
    submit .lockout (.feeder f) (some cause.cause) (some (s3.sq f).shotCount) none s3
  if cause.holds then sendSection f true s4 else s4

/-! Test requests -/

/-- Whether a start may be made without a request: valid settings, emergency stop released, no stack
trip, firing unit not FAULTY, and SERVICE or REPLAY (R131). -/
def canWake (s : State) : Bool :=
  s.rectValid && !s.estop && !s.rect.stackTrip && s.rect.firing != .faulty
    && (s.mode == .service || s.mode == .replay)

/-- Latch a feeder's test request at the rectifier; a flag that joins the set starts a PARKED group
with wake-from-parked enabled (R131, R132). -/
def latchTest (f : FeederId) (s : State) : State :=
  if s.rect.latched.get f then s
  else
    let s1 := s.setRect { s.rect with latched := s.rect.latched.set f true }
    if s1.rect.state = .parked ∧ s1.rectRow.wakeFromParked ∧ canWake s1 then enterStarting s1 else s1

/-- Enter PROBE from HOLD for a test request: return target HOLD, run pending cleared (R133). -/
def probeFromHold (s : State) : State :=
  let s1 := rectMove .probe .none s
  s1.setRect { s1.rect with probeTarget := .hold, runPending := false }

/-- Start a test the group can serve at once. -/
def startTest (f : FeederId) (kind : TestKind) (origin : Option TestOrigin) (s : State) : State :=
  beginContactorCheck f (enterTesting f kind origin (addTester f s))

/-- An automatic request that BLIND or FROZEN keeps from the rectifier, served as an aborted test (row
1 of R101). Like every aborted test it returns with far-clear clear (R107, R116). -/
def abortUnstarted (f : FeederId) (reason : AbortReason) (origin : TestOrigin) (s : State) : State :=
  let r := s.sq f
  returnAfterFlag f
    (abortEffects f reason none none
      (s.setSq f
        { r with
          farClear := false
          test := { r.test with kind := some .auto, origin := some origin } }))

/-- A request whose θ is above θ_reclose waits in COOLING, its kind and origin recorded (row 2 of R101).
-/
def coolFirst (f : FeederId) (origin : TestOrigin) (s : State) : State :=
  let s1 := enterCooling f s
  let r := s1.sq f
  s1.setSq f { r with test := { r.test with kind := some .auto, origin := some origin } }

/-- Latch an automatic request: phase AWAITING_SUPPLY, the pending-test flag set, kind and origin
recorded (row 5 of R101, R106). -/
def awaitSupply (f : FeederId) (origin : TestOrigin) (s : State) : State :=
  let s1 := enterPhase f .awaitingSupply none s
  let r := s1.sq f
  latchTest f
    (s1.setSq f
      { r with
        pendingTest := true
        test := { r.test with kind := some .auto, origin := some origin } })

/-- An automatic test request made by a dead-time phase (R101). With BLIND and FROZEN both set the reason
is BLIND (log entry 50). -/
def testRequest (f : FeederId) (origin : TestOrigin) (s : State) : State :=
  let r := s.sq f
  if r.blind then abortUnstarted f .blind origin s
  else if r.frozen then abortUnstarted f .frozen origin s
  else if thetaReclose s f < (s.feeder f).prot.theta ∧ origin ≠ .cooling then coolFirst f origin s
  else
    match s.rect.state with
    | .running | .probe => startTest f .auto (some origin) s
    | .hold => startTest f .auto (some origin) (probeFromHold s)
    | .parked | .starting | .faulted => awaitSupply f origin s

/-- The end of a wait for the far end by a DOWN tie: the timer stops, a test request is made, and
ACTING_MASTER is reported with value1 2 (R104). -/
def farEndDown (f : FeederId) (s : State) : State :=
  submit .actingMaster (.feeder f) none (some 2) none
    (testRequest f .awaitingFarEnd (s.setSq f { s.sq f with dead := none }))

/-- Enter AWAITING_FAR_END; a tie that is DOWN ends the wait at once (R104). -/
def enterFarEnd (f : FeederId) (s : State) : State :=
  let s1 := enterFarEndWait f s
  if tieDown s1 f then farEndDown f s1 else s1

/-! Aborts and results -/

/-- Where an aborted test sends its feeder (R116), for the reasons that return a manual test to OPEN
and an automatic test to dead time. -/
def abortReturn (f : FeederId) (reason : AbortReason) (s : State) : State :=
  let r := s.sq f
  match r.test.kind with
  | some .manual =>
    if r.state = .opened then s.setSq f { r with test := r.test.ended }
    else reportFeederState f .opened r.state (enterState f .opened none s)
  | _ =>
    if r.shotTaken = false ∧ r.test.origin = some .awaitingFarEnd
        ∧ reason ≠ .blind ∧ reason ≠ .frozen then enterFarEnd f s
    else returnAfterFlag f s

/-- Abort a test in TESTING, up to the rectifier's notice (R115). -/
def abortTesting (f : FeederId) (reason : AbortReason) (uAvg ubAvg : Option Nat) (s : State) : State :=
  leaveTesting f (abortEffects f reason uAvg ubAvg s)

/-- Abort a test for a reason that ends its sequence (OPEN, EMERGENCY, INTERTRIP_FAILED and
UNCOMMANDED_CLOSE): the test consumes no shot, so a shot counted for it is given back (R115). -/
def abortForGood (f : FeederId) (reason : AbortReason) (s : State) : State :=
  giveShotBack f (abortTesting f reason none none s)

/-- Abort a test for a reason that returns the feeder to OPEN or to dead time (R115, R116). -/
def abortTest (f : FeederId) (reason : AbortReason) (uAvg ubAvg : Option Nat) (s : State) : State :=
  abortReturn f reason (abortTesting f reason uAvg ubAvg s)

/-- A MANUAL test request (R101, R113): started by rows 3 and 4; without supply it is served as a test
aborted with reason NO_SUPPLY and the feeder is in OPEN. -/
def manualRequest (f : FeederId) (s : State) : State :=
  match s.rect.state with
  | .running | .probe => startTest f .manual none s
  | .hold => startTest f .manual none (probeFromHold s)
  | .parked | .starting | .faulted =>
    let r := s.sq f
    abortTest f .noSupply none none
      (s.setSq f { r with test := { r.test with kind := some .manual, origin := none } })

/-- Enter CLOSING after a line test: CLOSE is offered, the close and switch-onto-fault timers start
(R89). -/
def enterClosing (f : FeederId) (s : State) : State :=
  let s1 := reportFeederState f .closing (s.sq f).state (enterState f .closing none s)
  let s2 := offerSeq (.breaker f .close) s1
  let b := (s2.feeder f).row.brk
  s2.setSq f { s2.sq f with closeTimer := some (ms b.tCloseMax), sotf := some (ms b.tSotf) }

/-- Serve a SHORT result of an automatic test (R112): its shot is consumed, then TIMING or a
SHOTS_EXHAUSTED lockout by the count. -/
def serveShort (f : FeederId) (s : State) : State :=
  let r := s.sq f
  let shots := (s.feeder f).row.test.shots
  let count := if r.shotTaken then r.shotCount else min shots (r.shotCount + 1)
  let s1 := s.setSq f { r with shotCount := count, shotTaken := false }
  if count < shots then enterTiming f (leaveTesting f s1) else lockout f .shotsExhausted false s1

/-- Act on the result of a test: it becomes the last result and is reported, then leads on by kind
(R112, R113). -/
def serveResult (f : FeederId) (x : LastResult) (s : State) : State :=
  let kind := (s.sq f).test.kind
  let s1 := recordResult f x s
  if x.outcome = .ratio .short then
    if kind = some .manual then
      reportFeederState f .opened (s1.sq f).state (enterState f .opened none s1)
    else serveShort f s1
  else enterClosing f s1

/-- End a test with result CONTACTOR_FAILURE and lock the feeder out; `offer` says that the rule
offers TEST_OPEN itself (R107, R109, R111, R114). -/
def contactorFailure (f : FeederId) (offer : Bool) (s : State) : State :=
  let s1 := recordResult f { outcome := .contactorFailure, r := none, uAvg := none, ubAvg := none } s
  let s2 := if offer then offerSeq (.testContactor f false) s1 else s1
  lockout f .contactorFailure offer s2

/-! The group leaving RUNNING and PROBE -/

/-- Abort with SUPPLY_LOST the test of a feeder in a set of testers (R134). -/
def supplyLostFor (testers : PerFeeder Bool) (f : FeederId) (s : State) : State :=
  if testers.get f ∧ (s.sq f).state = .testing ∧ (s.sq f).openRequested = false then
    abortTest f .supplyLost none none s
  else s

/-- Empty the tester set and tell every feeder that was in it, in feeder order, that supply is lost
(R134). -/
def supplyLost (s : State) : State :=
  let testers := s.rect.testers
  forFeeders (supplyLostFor testers)
    (s.setRect { s.rect with testers := PerFeeder.const false })

/-- Enter HOLD and abort the tests being served (R134). -/
def holdLosing (cause : RectCause) (s : State) : State := supplyLost (rectMove .hold cause s)

/-- Enter PARKED with the AC breaker OPEN offered and abort the tests being served (R134). -/
def parkLosing (cause : RectCause) (s : State) : State := supplyLost (park cause s)

/-- A fault of the group (R139); in FAULTED the cause is added with a RECT_STATE report. -/
def rectFault (cause : FaultCause) (s : State) : State :=
  let r := s.rect
  if r.state = .faulted then
    submit .rectState .rect (some cause.cause) (some RectState.faulted.code)
      (some RectState.faulted.code) (s.setRect { r with faults := r.faults.add cause })
  else
    let s1 :=
      s.setRect
        { r with
          faults := FaultCauses.empty.add cause
          firstFault := some cause
          acTrip := s.mode != .replay
          acTimer := none
          retryPending := false }
    let s2 := offerRect true (.acBreaker false) s1
    let s3 := offerBlocked true (s2.setRect (s2.rect.entered .faulted .none))
    submit .rectFault .rect (some cause.cause) (some s3.rect.acPos.code) none (supplyLost s3)

end Sys2Proof.Machine
end

