-- ==== Sys2Proof/Machine/Trip.lean ====
section
/-! DEFINITION. Tripping: intertrip requests and their failure (R95, R150, R153), the start of a trip
(R83, R84), the blind and frozen action (R94), what follows a trip (Table 5-4), breaker failure (R87)
and the emergency stop (R96, R140). -/

namespace Sys2Proof.Machine

/-! Intertrips sent -/

/-- The notice to a feeder's sequence unit that an intertrip has failed (R95). -/
def intertripFailNotice (f : FeederId) (s : State) : State :=
  let r := s.sq f
  match r.state with
  | .tripping => s.setSq f { r with intertripFailed := true }
  | .deadTime => lockout f .intertripFailed false s
  | .testing =>
    if r.openRequested then lockout f .intertripFailed false s
    else lockout f .intertripFailed true (abortForGood f .intertripFailed s)
  | .out | .opened | .closing | .closed | .opening | .lockout => s

/-- An intertrip fails (R153): the entry, if there is one, is removed, the failure is reported, and the
sequence unit is notified. -/
def intertripFail (f : FeederId) (cause : InterCause) (sectionId : Nat) (why : InterFail)
    (s : State) : State :=
  intertripFailNotice f
    (submit .intertripFailed (.feeder f) (some cause.cause) (some sectionId) (some why.code)
      (s.setFeeder f { s.feeder f with entry := none }))

/-- Create or replace a feeder's outstanding entry, with send count 1 (R150). -/
def setEntry (f : FeederId) (t : Tie) (cause : InterCause) (tag : Byte) (timer : Nat)
    (s : State) : State :=
  let u := s.feeder f
  s.setFeeder f
    { u with
      entry :=
        some
          { tie := t, sectionId := u.section_.sectionId, cause := cause, tag := tag, sends := 1
            timer := timer } }

/-- The INTERTRIP_SENT report (R150). -/
def reportSent (f : FeederId) (cause : InterCause) (sectionId : Nat) (tag : Byte)
    (s : State) : State :=
  submit .intertripSent (.feeder f) (some cause.cause) (some sectionId) (some tag.toNat) s

/-- Take the tie's tag counter as a tag and advance it (R150). -/
def advanceTag (t : Tie) (s : State) : State :=
  s.setTie t { s.tie t with tag := (s.tie t).tag + 1#8 }

/-- An intertrip request of a feeder's sequence unit (R150; in REPLAY R159). A feeder with no section
map row asks for none. -/
def intertripRequest (f : FeederId) (cause : InterCause) (s : State) : State :=
  match sectionTie s f with
  | none => s
  | some t =>
    let sec := (s.feeder f).section_.sectionId
    let tag := (s.tie t).tag
    let message := TieMsg.tripReq (BitVec.ofNat 8 sec) cause tag
    if s.mode = .replay then
      reportSent f cause sec tag (setEntry f t cause tag Config.replayIntertrip (advanceTag t s))
    else if (s.tie t).up then
      reportSent f cause sec tag
        (offerTie t message (setEntry f t cause tag Config.repeatInterval (advanceTag t s)))
    else if (s.port t.port).state = .lost then intertripFail f cause sec .linkDown s
    else
      intertripFail f cause sec .linkDown
        (reportSent f cause sec tag (offerTie t message (advanceTag t s)))

/-! The start of a trip -/

/-- The last accepted current of a feeder, if it has one (R83). -/
def lastCurrent (s : State) (f : FeederId) : Option Int :=
  (s.feeder f).intake.lastAccepted.map fun x => x.1

/-- A trip request that names one cause and did not come from protection (section 5.4, R83). -/
def singleTrip (s : State) (f : FeederId) (c : TripCause) : TripRequest where
  causes := TripCauses.single c
  primary := c
  i := lastCurrent s f
  rise := none
  theta := none

/-- The value2 of a request's TRIP or WOULD_TRIP report: ΔI when the primary cause is DDL, θ when it is
THERMAL, absent otherwise (R71, R83). -/
def TripRequest.value2 (req : TripRequest) : Option Int :=
  match req.primary with
  | .ddl => req.rise
  | .thermal => req.theta.map Int.ofNat
  | .ioc | .intertrip | .blind | .frozen | .emergency | .uncommandedClose | .externalOpen => none

/-- The cause with which a trip intertrips the far end: only IOC, DDL and EMERGENCY do (R83). -/
def TripCause.inter : TripCause → Option InterCause
  | .ioc => some .ioc
  | .ddl => some .ddl
  | .emergency => some .emergency
  | .thermal | .intertrip | .blind | .frozen | .uncommandedClose | .externalOpen => none

/-- The feeder record as R83's effects 3, 4 and 5 leave it: mark, timers, causes and the open timer with
`tOpen`; `sotf` says whether the switch-onto-fault timer was running. -/
def FeederRec.tripped (req : TripRequest) (sotf : Bool) (tOpen : Nat) (r : FeederRec) : FeederRec :=
  { r with
    sotfMark := sotf
    sotf := none
    closeTimer := none
    reclaim := none
    tripCauses := req.causes
    primary := some req.primary
    openTimer := some tOpen }

/-- Start a trip (R83): the line is asserted with the entry to TRIPPING, TRIP is offered, timers and
causes are set, the trip is reported, a capture triggered under the capture flag, and the far end
intertripped for the causes that call for it. -/
def startTrip (f : FeederId) (req : TripRequest) (s : State) : State :=
  let sotf := (s.sq f).sotf.isSome
  let row := (s.feeder f).row.brk
  let s1 := offerSeq (.breaker f .trip) (enterState f .tripping none s)
  let s2 := s1.setSq f ((s1.sq f).tripped req sotf (ms row.tOpenMax))
  let s3 := submit .trip (.feeder f) (some req.primary.cause) req.i req.value2 s2
  let s4 := if row.capture then trigger f .trip s3 else s3
  match req.primary.inter with
  | some c => intertripRequest f c s4
  | none => s4

/-- A trip request from protection, the tie controller, the blind action or the emergency stop, served
by state (R83, R84). In SHADOW none is served (R97). -/
def requestTrip (f : FeederId) (req : TripRequest) (s : State) : State :=
  if s.mode = .shadow then s
  else
    let r := s.sq f
    match r.state with
    | .closed | .closing | .opening => startTrip f req s
    | .tripping => s.setSq f { r with tripCauses := r.tripCauses.union req.causes }
    | .out | .opened | .testing | .deadTime | .lockout => s

/-! Loss of measurement -/

/-- The trip cause of a measurement flag. -/
def flagCause (blind : Bool) : TripCause := if blind then .blind else .frozen

/-- The abort reason of a measurement flag. -/
def flagReason (blind : Bool) : AbortReason := if blind then .blind else .frozen

/-- Serve intake's notice that it has set BLIND or FROZEN (R94). In SHADOW it acts on no feeder; during
an OPEN wait it gives its report alone (R81). -/
def flagAction (f : FeederId) (blind : Bool) (s : State) : State :=
  if s.mode = .shadow then s
  else
    let r := s.sq f
    match r.state with
    | .closed =>
      match (s.feeder f).row.brk.blindAction with
      | .trip => requestTrip f (singleTrip s f (flagCause blind)) s
      | .alarm => s
    | .testing => if r.openRequested then s else abortTest f (flagReason blind) none none s
    | .out | .opened | .closing | .opening | .tripping | .deadTime | .lockout => s

/-- Serve BLIND and FROZEN on entry to CLOSED as if they had just been set (R94). With both set BLIND is
served first, so a trip's cause is BLIND (log entry 49). -/
def closedFlags (f : FeederId) (s : State) : State :=
  let s1 := if (s.sq f).blind then flagAction f true s else s
  if (s1.sq f).frozen then flagAction f false s1 else s1

/-! After a trip -/

/-- Primary causes that row 2 of Table 5-4 locks out. -/
def TripCause.locksOut : TripCause → Bool
  | .blind | .frozen | .emergency | .uncommandedClose => true
  | .ioc | .ddl | .thermal | .intertrip | .externalOpen => false

/-- The far-clear flag and the shot-taken mark cleared, for an entry to DEAD_TIME from TRIPPING or CLOSED
(R100). -/
def freshDeadTime (f : FeederId) (s : State) : State :=
  s.setSq f { s.sq f with farClear := false, shotTaken := false }

/-- What follows a trip confirmed open, or an external opening: the first row of Table 5-4 that applies
(R85, R91). A trip always has a primary cause; a record without one, which no run reaches, is read as
EXTERNAL_OPEN (log entry 39). -/
def afterTrip (f : FeederId) (s : State) : State :=
  let r := s.sq f
  let row := (s.feeder f).row
  let primary := r.primary.getD .externalOpen
  if r.sotfMark then lockout f .switchOntoFault false s
  else if primary.locksOut then lockout f (.trip primary) false s
  else if r.intertripFailed then lockout f .intertripFailed false s
  else if row.intake.policy = .latch then lockout f (.trip primary) false s
  else if primary = .thermal then enterCooling f (freshDeadTime f s)
  else if primary = .intertrip ∧ isFollower s f then enterFarEnd f (freshDeadTime f s)
  else if r.shotCount < row.test.shots then enterTiming f (freshDeadTime f s)
  else lockout f .shotsExhausted false s

/-! Breaker failure -/

/-- The open timer has run out with the breaker not OPEN (R87). -/
def breakerFailure (f : FeederId) (s : State) : State :=
  let r := s.sq f
  let opening := r.state == .opening
  let s1 := lockout f .breakerFailure false s
  let s2 := if opening then offerSeq (.breaker f .trip) s1 else s1
  let s3 := intertripRequest f .backup (rectFault .backup s2)
  submit .breakerFailure (.feeder f) (if opening then none else r.primary.map TripCause.cause)
    (some ((s.feeder f).row.brk.tOpenMax)) (some r.breaker.code) s3

/-! Emergency stop -/

/-- A feeder's sequence unit serves the assertion of the emergency stop (R96). During an OPEN wait the
test has already been aborted (R81). -/
def estopFeeder (f : FeederId) (s : State) : State :=
  let r := s.sq f
  match r.state with
  | .closed | .closing | .opening | .tripping => requestTrip f (singleTrip s f .emergency) s
  | .deadTime => lockout f (.trip .emergency) false s
  | .testing =>
    if r.openRequested then lockout f (.trip .emergency) false s
    else lockout f (.trip .emergency) true (abortForGood f .emergency s)
  | .out | .opened | .lockout => s

/-- The assertion of the emergency stop at the feeders and the group: in SHADOW it acts on neither (R96,
R140, R191). -/
def serveEstop (s : State) : State :=
  if s.mode = .shadow then s else rectFault .emergency (forFeeders estopFeeder s)

end Sys2Proof.Machine
end

