-- ==== Sys2Proof/Machine/Breaker.lean ====
section
/-! DEFINITION. The breaker unit's STATUS (R74) and what its confirmations do: the end of a trip (R85),
opening and closing (R88, R89), external openings and uncommanded closes (R91 to R93), the mirror of
SHADOW (R97) and the contactor's part in a line test (R81, R107, R109, R111, R114). -/

namespace Sys2Proof.Machine

/-! Confirmations of breaker OPEN -/

/-- The BREAKER_OPENED report, with the primary cause when there is one (Table 9-1). -/
def reportOpened (f : FeederId) (cause : Option TripCause) (s : State) : State :=
  submit .breakerOpened (.feeder f) (cause.map TripCause.cause) none none s

/-- A confirmation of OPEN in TRIPPING (R85): the open timer stops, the opening is reported and Table 5-4
chooses the next state, on whose entry the trip line is released or kept as R76 states. -/
def tripConfirmed (f : FeederId) (s : State) : State :=
  let r := s.sq f
  afterTrip f (reportOpened f r.primary (s.setSq f { r with openTimer := none }))

/-- A confirmation of OPEN in OPENING (R88). -/
def openingConfirmed (f : FeederId) (s : State) : State :=
  let r := s.sq f
  reportOpened f none (enterState f .opened none (s.setSq f { r with openTimer := none }))

/-- An external opening (R91). -/
def externalOpening (f : FeederId) (s : State) : State :=
  let r := s.sq f
  let s1 :=
    s.setSq f
      { r with
        tripCauses := TripCauses.single .externalOpen
        primary := some .externalOpen
        sotfMark := r.sotf.isSome
        sotf := none
        reclaim := none }
  afterTrip f (submit .externalOpen (.feeder f) none (lastCurrent s f) none s1)

/-- A confirmation of breaker OPEN, by state (R74, R85, R87, R88, R91, R97). In LOCKOUT it is reported
for a breaker failure and otherwise only recorded (log entry 22). -/
def confirmOpen (f : FeederId) (s : State) : State :=
  let r := s.sq f
  match r.state with
  | .tripping => tripConfirmed f s
  | .opening => openingConfirmed f s
  | .closed =>
    match s.mode with
    | .service | .replay => externalOpening f s
    | .shadow => reportOpened f r.primary (enterState f .opened none s)
    | .config => s
  | .lockout => if r.lockoutCause = some .breakerFailure then reportOpened f r.primary s else s
  | .out | .opened | .testing | .closing | .deadTime => s

/-! Confirmations of breaker CLOSED -/

/-- A confirmation of CLOSED in CLOSING (R89). -/
def closingConfirmed (f : FeederId) (s : State) : State :=
  let r := s.sq f
  let reclaim := ms (s.feeder f).row.brk.tReclaim
  let s1 := enterState f .closed none (s.setSq f { r with closeTimer := none, reclaim := some reclaim })
  let s2 := submit .breakerClosed (.feeder f) none none none s1
  closedFlags f (sendSection f false s2)

/-- The UNCOMMANDED_CLOSE report of a feeder: value1 1 for its breaker, 2 for its test contactor (R92,
R93). -/
def reportUncommanded (f : FeederId) (device : Int) (s : State) : State :=
  submit .uncommandedClose (.feeder f) none (some device) none s

/-- A trip with cause UNCOMMANDED_CLOSE (R92): a test in progress is first ended as an abort, unless an
OPEN request has already ended it (R81). The TRIP report stands alone (log entry 15). -/
def uncommandedTrip (f : FeederId) (s : State) : State :=
  let r := s.sq f
  let s1 :=
    if r.state = .testing ∧ r.openRequested = false then
      abortForGood f .uncommandedClose s
    else s
  startTrip f (singleTrip s f .uncommandedClose) s1

/-- Enter CLOSED with the reclaim complete, without a report (R78, R92, R97). -/
def enterClosedComplete (f : FeederId) (s : State) : State :=
  enterState f .closed none (s.setSq f { s.sq f with reclaim := none, shotCount := 0 })

/-- An open feeder whose breaker was closed at the switchgear is taken over (R92). -/
def takeOver (f : FeederId) (s : State) : State :=
  closedFlags f (reportUncommanded f 1 (enterClosedComplete f s))

/-- A confirmation of breaker CLOSED, by state and mode (R88, R89, R92, R97). -/
def confirmClosed (f : FeederId) (s : State) : State :=
  let r := s.sq f
  match r.state with
  | .closing => closingConfirmed f s
  | .out => reportUncommanded f 1 s
  | .opened =>
    match s.mode with
    | .service | .replay => takeOver f s
    | .config => uncommandedTrip f s
    | .shadow => submit .breakerClosed (.feeder f) none none none (enterClosedComplete f s)
  | .deadTime | .testing =>
    match s.mode with
    | .service | .replay => uncommandedTrip f s
    | .config | .shadow => s
  | .lockout =>
    if r.lockoutCause = some .breakerFailure ∨ s.mode = .shadow then reportUncommanded f 1 s
    else uncommandedTrip f s
  | .closed | .opening | .tripping => s

/-! Confirmations of the test contactor -/

/-- Act on the pending result, the contactor having confirmed OPEN (R111 to R113). -/
def servePending (f : FeederId) (s : State) : State :=
  let r := s.sq f
  match r.test.pending with
  | some p =>
    serveResult f
      { outcome := .ratio p.result, r := some p.r, uAvg := some p.uAvg, ubAvg := some p.ubAvg }
      (s.setSq f { r with closeTimer := none })
  | none => s

/-- The end of an OPEN wait: the contactor has confirmed OPEN (R81). -/
def openWaitEnd (f : FeederId) (s : State) : State :=
  let r := s.sq f
  reportFeederState f .opened r.state
    (enterState f .opened none (s.setSq f { r with closeTimer := none, shotCount := 0 }))

/-- A confirmation of the test contactor in TESTING, by step (R107, R109, R111, R114). -/
def testContactor (f : FeederId) (closed : Bool) (s : State) : State :=
  let r := s.sq f
  let step (x : TestStep) : State :=
    s.setSq f { r with closeTimer := none, test := { r.test with step := some x, count := 0 } }
  match r.test.step with
  | some .contactorCheck => if closed then s else step .liveCheck
  | some .liveCheck => if closed then contactorFailure f true s else s
  | some .contactorClosing => if closed then step .settling else s
  | some .settling => if closed then s else contactorFailure f true s
  | some .summing => if closed then s else contactorFailure f true s
  | some .contactorOpening => if closed then s else servePending f s
  | none => s

/-- A confirmation of the test contactor, CLOSED or OPEN (R81, R93, R107). -/
def confirmContactor (f : FeederId) (closed : Bool) (s : State) : State :=
  let r := s.sq f
  if r.state = .testing then
    if r.openRequested then (if closed then s else openWaitEnd f s) else testContactor f closed s
  else if closed then reportUncommanded f 2 (offerSeq (.testContactor f false) s)
  else s

/-! The STATUS -/

/-- Serve a changed breaker position (R74). -/
def breakerChanged (f : FeederId) (pos : BreakerPos) (s : State) : State :=
  match pos with
  | .opened => confirmOpen f s
  | .closed => confirmClosed f s
  | .travelling | .disagree | .unknown => s

/-- Serve a changed contactor position (R74). -/
def contactorChanged (f : FeederId) (pos : ContactorPos) (s : State) : State :=
  match pos with
  | .opened => confirmContactor f false s
  | .closed => confirmContactor f true s
  | .disagree | .unknown => s

/-- A well-formed STATUS of a feeder's breaker unit (R74): the three fields are replaced, then a change of
the breaker position is served, then one of the contactor position (log entry 23). -/
def breakerStatus (f : FeederId) (x : BreakerStatus) (s : State) : State :=
  let r := s.sq f
  let s1 := s.setSq f { r with breaker := x.breaker, contactor := x.contactor, spring := x.spring }
  let s2 := if x.breaker = r.breaker then s1 else breakerChanged f x.breaker s1
  if x.contactor = r.contactor then s2 else contactorChanged f x.contactor s2

end Sys2Proof.Machine
end

