-- ==== Sys2Proof/Machine/FeederTimers.lean ====
section
/-! DEFINITION. The expiries of a feeder's timers: open, close, switch-onto-fault, reclaim and dead time
(R81, R87, R89, R90, R102, R104, R107, R109, R111) and the blind timer (R43). An expiry of a stopped
timer has no effect (log entry 3). -/

namespace Sys2Proof.Machine

/-- The open timer runs out: a breaker failure in TRIPPING or OPENING with the breaker not OPEN (R87);
else the timer just stops (log entry 14). -/
def openExpired (f : FeederId) (s : State) : State :=
  let r := s.sq f
  let stopped := s.setSq f { r with openTimer := none }
  if r.openTimer = none then s
  else if (r.state = .tripping ∨ r.state = .opening) ∧ r.breaker ≠ .opened then
    breakerFailure f stopped
  else stopped

/-- The close timer runs out in TESTING: the OPEN wait or a wait on the contactor has failed (R81, R107,
R109, R111). -/
def contactorTimeout (f : FeederId) (s : State) : State :=
  let r := s.sq f
  if r.openRequested then lockout f .contactorFailure false s
  else
    match r.test.step with
    | some .contactorCheck => contactorFailure f false s
    | some .contactorClosing => contactorFailure f true s
    | some .contactorOpening => contactorFailure f false s
    | some .liveCheck | some .settling | some .summing | none => s

/-- The close timer runs out (R89 and the contactor waits of R81, R107, R109, R111); in any other state
the timer just stops (log entry 14). -/
def closeExpired (f : FeederId) (s : State) : State :=
  let r := s.sq f
  let stopped := s.setSq f { r with closeTimer := none }
  if r.closeTimer = none then s
  else
    match r.state with
    | .closing => offerSeq (.breaker f .opened) (lockout f .closeFailure false stopped)
    | .testing => contactorTimeout f stopped
    | .out | .opened | .closed | .opening | .tripping | .deadTime | .lockout => stopped

/-- The switch-onto-fault timer runs out and stops (R90). -/
def sotfExpired (f : FeederId) (s : State) : State := s.setSq f { s.sq f with sotf := none }

/-- The reclaim timer runs out: in CLOSED the shot count returns to 0, with a FEEDER_STATE report giving
CLOSED as both values (R90); in any other state the timer just stops (log entry 14). -/
def reclaimExpired (f : FeederId) (s : State) : State :=
  let r := s.sq f
  let stopped := s.setSq f { r with reclaim := none }
  if r.reclaim = none then s
  else if r.state = .closed then
    reportFeederState f .closed .closed (s.setSq f { r with reclaim := none, shotCount := 0 })
  else stopped

/-- The dead-time timer runs out in TIMING (R102): the shot count rises, the mark is set, and a follower
with far-clear clear waits for the far end; else a test request is made. -/
def deadTimeExpired (f : FeederId) (s : State) : State :=
  let r := s.sq f
  if r.dead = none ∨ r.phase ≠ some .timing then s
  else
    let s1 := s.setSq f { r with dead := none, shotCount := r.shotCount + 1, shotTaken := true }
    if isFollower s f ∧ r.farClear = false then enterFarEnd f s1 else testRequest f .timing s1

/-- t_follow runs out in AWAITING_FAR_END (R104): a test request and an ACTING_MASTER report with value1
1. -/
def followExpired (f : FeederId) (s : State) : State :=
  let r := s.sq f
  if r.dead = none ∨ r.phase ≠ some .awaitingFarEnd then s
  else
    submit .actingMaster (.feeder f) none (some 1) none
      (testRequest f .awaitingFarEnd (s.setSq f { r with dead := none }))

/-- The blind timer runs out (R43): BLIND is set, the sequence state starts again, IOC and DDL are put at
rest (R53), the report is made and the sequence unit is informed (R94). -/
def blindExpired (f : FeederId) (s : State) : State :=
  let u := s.feeder f
  let k := u.intake
  if k.blindTimer = none then s
  else
    let s1 :=
      s.setFeeder f
        { u with
          intake :=
            { k with
              blindTimer := none, lastSeq := none, resumption := true, carry := 0
              frozenCount := 0, clearingCount := 0 }
          prot := u.prot.atRest
          sq := { u.sq with blind := true } }
    flagAction f true (submit .blind (.feeder f) none (some u.row.intake.tBlind) none s1)

end Sys2Proof.Machine
end

