-- ==== Sys2Proof/Machine/Operands.lean ====
section
/-! DEFINITION. The operand forms: the payloads of received frames read by the layouts and codes of the
manual. A SAMPLE of a feeder unit (Table 1-2) and of the rectifier unit (Table 1-3), the STATUS of the
breaker units, the AC breaker unit and the firing unit (R74, R137, R138), and TIE messages (R145). -/

namespace Sys2Proof.Machine

/-- A feeder SAMPLE payload (Table 1-2), `none` when its length is not 6 (R36). Reserved bits and the
reserved byte are disregarded. -/
def readFeederSample : List Byte → Option FeederSample
  | [i1, i0, u1, u0, flags, _] =>
    some
      { i := int16 i1 i0, u := nat16 u1 u0, iOver := flags.getLsbD 0, uOver := flags.getLsbD 1
        unitFault := flags.getLsbD 2 }
  | _ => none

/-- The fields that both forms of a rectifier SAMPLE carry (Table 1-3). -/
def rectFields (ub1 ub0 ir1 ir0 temp flags : Byte) (crossing : Option Nat) : RectSample where
  ub := nat16 ub1 ub0
  ir := int16 ir1 ir0
  temp := temp.toInt
  ubOver := flags.getLsbD 0
  irOver := flags.getLsbD 1
  unitFault := flags.getLsbD 2
  crossing := crossing

/-- A rectifier SAMPLE payload (Table 1-3): 11 bytes with CROSSING_PRESENT set, 9 with it clear, and
`none` otherwise (R47). -/
def readRectSample : List Byte → Option RectSample
  | [ub1, ub0, ir1, ir0, temp, flags, _, _, _] =>
    if flags.getLsbD 3 then none else some (rectFields ub1 ub0 ir1 ir0 temp flags none)
  | [ub1, ub0, ir1, ir0, temp, flags, _, _, _, c1, c0] =>
    if flags.getLsbD 3 then
      some (rectFields ub1 ub0 ir1 ir0 temp flags (some (nat16 c1 c0)))
    else none
  | _ => none

/-- The value of an over-range signed reading: the limit of its sign (R40). -/
def saturate (beyond : Bool) (x : Int) : Int :=
  if beyond then (if 0 ≤ x then 32767 else -32768) else x

/-- The value of an over-range voltage reading (R40). -/
def saturateVoltage (beyond : Bool) (x : Nat) : Nat := if beyond then 4095 else x

/-- A breaker position byte: the first four codes of Table 9-3 (R74, R138). -/
def readBreakerPos (b : Byte) : Option BreakerPos :=
  [BreakerPos.opened, .closed, .travelling, .disagree].find? fun p => p.code == b.toNat

/-- A test contactor position byte: OPEN, CLOSED or DISAGREE, coded as in Table 9-3 (R74). -/
def readContactorPos (b : Byte) : Option ContactorPos :=
  if b = 1#8 then some .opened else if b = 2#8 then some .closed
  else if b = 4#8 then some .disagree else none

/-- The STATUS payload of a feeder breaker unit, `none` when malformed (R74). -/
def readBreakerStatus : List Byte → Option BreakerStatus
  | [b, c, sp] =>
    match readBreakerPos b, readContactorPos c with
    | some pos, some con =>
      if sp = 0#8 then some ⟨pos, con, false⟩
      else if sp = 1#8 then some ⟨pos, con, true⟩
      else none
    | _, _ => none
  | _ => none

/-- The STATUS payload of the AC breaker unit, `none` when malformed (R138). -/
def readAcStatus : List Byte → Option BreakerPos
  | [b] => readBreakerPos b
  | _ => none

/-- The STATUS payload of the firing unit, `none` when malformed (R137). -/
def readFiringStatus : List Byte → Option FiringState
  | [b] => if b = 1#8 then some .healthy else if b = 2#8 then some .faulty else none
  | _ => none

/-- A sender mode byte (R145). -/
def readMode (b : Byte) : Option Mode :=
  [Mode.config, .service, .shadow, .replay].find? fun m => modeCode m == b.toNat

/-- An intertrip cause byte (R145). -/
def readInterCause (b : Byte) : Option InterCause :=
  [InterCause.ioc, .ddl, .backup, .emergency].find? fun c => c.cause.code == b.toNat

/-- An acknowledgement result byte (R145). -/
def readAckResult (b : Byte) : Option AckResult :=
  [AckResult.tripped, .alreadyOpen, .outOfService, .unknownSection, .notInServiceMode].find? fun r =>
    r.cause.code == b.toNat

/-- A TIE payload, `none` when malformed: an unknown type, a wrong length or a field outside its set
(R145). -/
def readTie : List Byte → Option TieMsg
  | [t, a] =>
    if t = 1#8 then (readMode a).map TieMsg.beat
    else if t = 4#8 then some (.sectionClear a)
    else if t = 5#8 then some (.sectionHold a)
    else none
  | [t, a, b, c] =>
    if t = 2#8 then (readInterCause b).map fun x => .tripReq a x c
    else if t = 3#8 then (readAckResult c).map fun x => .tripAck a b x
    else none
  | _ => none

end Sys2Proof.Machine
end

