-- ==== Sys2Proof/Machine/Protection.lean ====
section
/-! DEFINITION. The three protection elements of a feeder (chapter 4): IOC, DDL and the thermal image, the
trip request they raise, the trip hold, and WOULD_TRIP in SHADOW. -/

namespace Sys2Proof.Machine

/-- Whether a sample breaks a count or an episode: a handed gap above 4, or a resumption (R55, R57). -/
def breaksRun (x : FeederTaken) : Bool := decide (4 < x.gap) || x.resumption

/-- The IOC confirm count after an armed sample (R55, R70): broken runs start again, a magnitude of at
least I_ioc counts and stops at C, a smaller one clears. -/
def iocCount (row : ProtSettings) (x : FeederTaken) (count : Nat) : Nat :=
  if row.iocOn = false then 0
  else if row.iIoc ≤ x.i.natAbs then satInc row.c (if breaksRun x then 0 else count)
  else 0

/-- Whether IOC fires on an armed sample: enabled, the trip hold clear and the count at C (R55, R69). -/
def iocFires (row : ProtSettings) (x : FeederTaken) (count : Nat) (hold : Bool) : Bool :=
  row.iocOn && !hold && decide (row.iIoc ≤ x.i.natAbs) && decide (row.c ≤ iocCount row x count)

/-- What the DDL element does on a sample beside moving its episode: nothing, a trip with ΔI (R60), or a
slow rise with the final ΔI and d (R61). -/
inductive DdlEvent where
  | quiet
  | fires (rise : Int)
  | slowRise (rise : Int) (d : Nat)
  deriving DecidableEq, Repr

/-- The ΔI that a trip request carries when DDL has fired (R60, R68). -/
def DdlEvent.rise : DdlEvent → Option Int
  | .fires rise => some rise
  | .quiet | .slowRise _ _ => none

/-- The trip test of R60 and the end test of R61 on an episode that the sample has advanced. -/
def ddlTest (row : ProtSettings) (x : FeederTaken) (hold : Bool) (e : Ddl) : Ddl × DdlEvent :=
  let rise := x.i - e.iStart
  if (row.dISet : Int) ≤ rise ∧ row.dMin ≤ e.d ∧ e.d ≤ row.dMax then
    (Ddl.rest, if hold then .quiet else .fires rise)
  else if row.dMax < e.d then (Ddl.rest, .slowRise rise e.d)
  else if row.e ≤ e.q then (Ddl.rest, .quiet)
  else (e, .quiet)

/-- The slope of a sample: the rise since the previous current, spread over the handed gap and truncated
toward zero (R57). -/
def slope (x : FeederTaken) : Int := (x.i - x.previous).tdiv x.gap

/-- The DDL element on an armed sample (R57 to R61, R70). -/
def ddlStep (row : ProtSettings) (x : FeederTaken) (hold : Bool) (e : Ddl) : Ddl × DdlEvent :=
  if row.ddlOn = false ∨ breaksRun x then (Ddl.rest, .quiet)
  else
    match e.phase with
    | .idle =>
      if (row.sStart : Int) ≤ slope x then
        ddlTest row x hold { phase := .rising, iStart := x.previous, d := x.gap, q := 0 }
      else (e, .quiet)
    | .rising =>
      ddlTest row x hold
        { e with d := e.d + x.gap, q := if slope x < row.sEnd then e.q + 1 else 0 }

/-- The step of the thermal image toward a target (R63): the difference divided by 2^k, truncated toward
zero, and at least 1 in magnitude while a difference remains. -/
def thermalStep (k : Nat) (diff : Int) : Int :=
  let step := diff.tdiv (2 ^ k)
  if step = 0 then (if 0 < diff then 1 else if diff < 0 then -1 else 0) else step

/-- The target of the thermal image: the square of the scaled current (R63). -/
def thermalTarget (i : Int) : Nat := (i.natAbs / 16) * (i.natAbs / 16)

/-- θ after an update (R63). -/
def thermalNext (k : Nat) (i : Int) (theta : Nat) : Nat :=
  ((theta : Int) + thermalStep k ((thermalTarget i : Int) - theta)).toNat

/-- Update a feeder's thermal image and its alarm on an accepted sample, while its row is valid (R63 to
R65). -/
def thermalSample (f : FeederId) (i : Int) (s : State) : State :=
  let u := s.feeder f
  if u.valid then
    let theta := thermalNext u.row.prot.k i u.prot.theta
    if u.prot.alarm = false ∧ thetaOf u.row.prot.iAlarm ≤ theta then
      submit .thermalAlarm (.feeder f) none (some theta) none
        (s.setProt f { u.prot with theta := theta, alarm := true })
    else if u.prot.alarm ∧ theta < thetaOf u.row.prot.iReclose then
      submit .thermalClear (.feeder f) none (some theta) none
        (s.setProt f { u.prot with theta := theta, alarm := false })
    else s.setProt f { u.prot with theta := theta }
  else s

/-- Whether every enabled element is quiet after a sample's evaluation (R69). -/
def allQuiet (row : ProtSettings) (x : FeederTaken) (r : Protection) : Bool :=
  (!row.iocOn || decide (x.i.natAbs < row.iIoc))
    && (!row.ddlOn || r.ddl.phase == .idle)
    && (!row.thermalOn || decide (r.theta < thetaOf row.iTrip))

/-- The trip request of a sample on which some element fired, `none` when none did (R68). `theta` is θ
after the sample's update. -/
def protRequest (x : FeederTaken) (ioc : Bool) (ddl : DdlEvent) (thermal : Bool) (theta : Nat) :
    Option TripRequest :=
  let rise := ddl.rise
  let request (primary : TripCause) : TripRequest :=
    { causes := { TripCauses.empty with ioc := ioc, ddl := rise.isSome, thermal := thermal }
      primary := primary
      i := some x.i
      rise := rise
      theta := some theta }
  if ioc then some (request .ioc)
  else if rise.isSome then some (request .ddl)
  else if thermal then some (request .thermal)
  else none

/-- A WOULD_TRIP in place of a trip request, with a capture under the capture flag (R71). -/
def wouldTrip (f : FeederId) (req : TripRequest) (s : State) : State :=
  let s1 := submit .wouldTrip (.feeder f) (some req.primary.cause) req.i req.value2 s
  if (s.feeder f).row.brk.capture then trigger f .trip s1 else s1

/-- Raise a trip request (R68): IOC and DDL at rest, the trip hold set, and the request handed to the
sequence unit, or turned into a WOULD_TRIP in SHADOW. -/
def raiseTrip (f : FeederId) (req : TripRequest) (s : State) : State :=
  let s1 := s.setProt f { (s.feeder f).prot.atRest with hold := true }
  if s1.mode = .shadow then wouldTrip f req s1 else requestTrip f req s1

/-- The SLOW_RISE report of a DDL event (R61). -/
def reportSlowRise (f : FeederId) (e : DdlEvent) (s : State) : State :=
  match e with
  | .slowRise rise d => submit .slowRise (.feeder f) none (some rise) (some d) s
  | .quiet | .fires _ => s

/-- The evaluation of an armed sample: IOC, DDL, then the thermal image, and what they come to (R52, R66,
R68, R69). The sample that raises a request leaves the trip hold set (log entry 20). -/
def armedSample (f : FeederId) (x : FeederTaken) (s : State) : State :=
  let u := s.feeder f
  let row := u.row.prot
  let hold := u.prot.hold
  let ioc := iocFires row x u.prot.iocCount hold
  let ddl := ddlStep row x hold u.prot.ddl
  let s1 := s.setProt f { u.prot with iocCount := iocCount row x u.prot.iocCount, ddl := ddl.1 }
  let s2 := thermalSample f x.i (reportSlowRise f ddl.2 s1)
  let r := (s2.feeder f).prot
  let thermal := row.thermalOn && !hold && decide (thetaOf row.iTrip ≤ r.theta)
  match protRequest x ioc ddl.2 thermal r.theta with
  | some req => raiseTrip f req s2
  | none => if hold && allQuiet row x r then s2.setProt f { r with hold := false } else s2

/-- A feeder's protection unit takes an accepted sample (R52). -/
def protectionSample (f : FeederId) (x : FeederTaken) (s : State) : State :=
  if armed s.mode (s.sq f).state then armedSample f x s else thermalSample f x.i s

end Sys2Proof.Machine
end

