-- ==== Sys2Proof/Machine/Reference.lean ====
section
/-! DEFINITION. The phase reference of the rectifier group (section 7.4): hard sync, tracking, slips, the
crossing watch and the loss of the reference, with the regulation step and the wake test (R124 to R131). -/

namespace Sys2Proof.Machine

/-- Offer a FIRING_SET with the present α and T (R128). -/
def offerFiring (correction : Int) (block resync : Bool) (s : State) : State :=
  offerRect false
    (.firingSet
      { alpha := s.rect.alpha, correction := correction, period := s.rect.t, block := block
        resync := resync })
    s

/-- The crossing watch set to run out at the station time P + T / 2, held as the interval left (R127,
R189). -/
def watchFor (now p : Stamp) (t : Nat) : Timer := some (stampDiff (stampAdd p (t / 2 : Nat)) now).toNat

/-- Anchor the reference on a measured crossing: T nominal, P one period on, no crossing missed,
sync-valid set and the watch started (R124 to R126). -/
def anchorReference (tm : Stamp) (s : State) : State :=
  let t := nominalPeriod s.rectRow
  let p := stampAdd tm t
  s.setRect
    { s.rect with
      t := t, p := some p, missed := 0, syncValid := true, watch := watchFor s.time p t }

/-- The hard sync that ends the first-crossing wait of STARTING (R124): the reference is anchored, the
group enters RUNNING, a resync FIRING_SET is offered and the latched tests start. -/
def hardSync (tm : Stamp) (s : State) : State :=
  let s1 := anchorReference tm (s.setRect { s.rect with acTimer := none })
  startAllLatched (offerFiring 0 false true (rectMove .running .none s1))

/-- A placed crossing taken with sync-valid clear in RUNNING, HOLD or PROBE (R125). -/
def anchorCrossing (tm : Stamp) (s : State) : State :=
  let s1 := offerFiring 0 (s.rect.state == .hold) true (anchorReference tm s)
  s1.setRect s1.rect.clearSums

/-- A sync slip (R126): it is reported, the reference is anchored again, a blocked resync FIRING_SET is
offered and the accumulators are cleared (R129; in HOLD too, log entry 40). -/
def slip (tm : Stamp) (e : Int) (s : State) : State :=
  let s1 := submit .syncSlip .rect none (some e) (some s.rect.t) s
  let s2 := offerFiring 0 true true (anchorReference tm s1)
  s2.setRect s2.rect.clearSums

/-! Regulation -/

/-- α clamped to the settings in force (R130). -/
def clampAlpha (row : RectRow) (a : Int) : Nat := (clampInt row.alphaMin row.alphaMax a).toNat

/-- What a regulation step does with α and the limit hold count: the unclamped α, the hold count after,
and whether a LIMIT_HOLD is reported (the table of R130). -/
def regulation (row : RectRow) (r : RectRec) : Int × Nat × Bool :=
  let avg := r.sumUb / r.n
  let atLimit := decide ((row.iLim : Int) ≤ r.peakIr)
  let retarded := (r.alpha + row.alphaClStep : Int)
  if r.limitHold = 0 then
    if atLimit then (retarded, row.h, true)
    else if (avg : Int) < row.uSet - row.db then (r.alpha - row.alphaStep, 0, false)
    else if (row.uSet + row.db : Int) < avg then (r.alpha + row.alphaStep, 0, false)
    else (r.alpha, 0, false)
  else if r.limitHold = 1 ∧ atLimit then (retarded, row.h, true)
  else (r.alpha, r.limitHold - 1, false)

/-- The regulation step of a tracked crossing in RUNNING and PROBE (R130). -/
def regulate (s : State) : State :=
  let r := s.rect
  if r.n = 0 then s.setRect r.clearSums
  else
    let x := regulation s.rectRow r
    let alpha := clampAlpha s.rectRow x.1
    let s1 := s.setRect { r.clearSums with alpha := alpha, limitHold := x.2.1 }
    if x.2.2 then submit .limitHold .rect none (some r.peakIr) (some alpha) s1 else s1

/-- Whether the wake test is made at a tracked crossing in HOLD (R131). -/
def wakeTested (s : State) : Bool :=
  s.rectRow.wake && !s.rect.stackTrip && s.rect.cause != .stackHot
    && (s.mode == .service || s.mode == .replay)

/-- The wake test (R131): a mean busbar voltage below U_wake returns the group to RUNNING. -/
def wakeTest (s : State) : State :=
  if wakeTested s then
    let r := s.rect
    let s1 := s.setRect r.clearSums
    if 0 < r.n ∧ r.sumUb / r.n < s.rectRow.uWake then enterRunning s1 else s1
  else s

/-! Tracking -/

/-- The half width of the clamp band of T: 2.5 per cent of the nominal period, truncated (section
7.1). -/
def periodBand (row : RectRow) : Nat := nominalPeriod row * 25 / 1000

/-- T after a tracked crossing with error `e` (R125, step 2). -/
def trackedPeriod (row : RectRow) (t : Nat) (e : Int) : Nat :=
  let nominal : Int := nominalPeriod row
  (clampInt (nominal - periodBand row) (nominal + periodBand row) (t + e.tdiv 16)).toNat

/-- The reference after a tracked crossing: steps 2 to 4 of R125. -/
def trackReference (p : Stamp) (e corr : Int) (s : State) : State :=
  let t := trackedPeriod s.rectRow s.rect.t e
  let next := stampAdd p (corr + t)
  s.setRect { s.rect with t := t, p := some next, missed := 0, watch := watchFor s.time next t }

/-- A tracked crossing (R125): the correction, T, P and the watch; regulation or the wake test; the
FIRING_SET; and the entry to RUNNING that run pending calls for in SERVICE and REPLAY. -/
def trackCrossing (p : Stamp) (e : Int) (s : State) : State :=
  let corr := clampInt (-(s.rectRow.j : Int)) s.rectRow.j e
  let s1 := trackReference p e corr s
  let s2 := if s1.rect.state = .hold then wakeTest s1 else regulate s1
  let s3 := offerFiring corr (s2.rect.state == .hold) false s2
  if s3.rect.runPending ∧ (s3.mode = .service ∨ s3.mode = .replay) then enterRunning s3 else s3

/-- A placed crossing taken in RUNNING, HOLD or PROBE (R125, R126). A reference without P, which no run
has with sync-valid set, is anchored. -/
def runningCrossing (tm : Stamp) (s : State) : State :=
  match s.rect.syncValid, s.rect.p with
  | true, some p =>
    let e := stampDiff tm p
    if s.rect.t / 4 < e.natAbs then slip tm e s else trackCrossing p e s
  | _, _ => anchorCrossing tm s

/-- A placed crossing handed to the controller (R124, R125). -/
def takeCrossing (tm : Stamp) (s : State) : State :=
  match s.rect.state with
  | .parked | .faulted => s
  | .starting => if s.rect.firstCrossingWait then hardSync tm s else s
  | .running | .hold | .probe => runningCrossing tm s

/-! Loss of the reference -/

/-- The cause of a lost reference or a missing first crossing: AC_LOSS while samples are arriving, else
MEASURE_LOST (R124, R127). -/
def lossCause (s : State) : RectCause := if s.rectIntake.arriving then .acLoss else .measureLost

/-- The reference is lost at the third expiry (R127): the group parks and its tests are aborted; in
SHADOW only a WOULD_TRIP is reported and the reference given up (R141, log entry 29). -/
def referenceLost (s : State) : State :=
  if s.mode = .shadow then
    submit .wouldTrip .rect (some (lossCause s).cause) none none
      (s.setRect { s.rect with syncValid := false, watch := none })
  else parkLosing (lossCause s) s

/-- The crossing watch runs out (R127): the missed count rises, P moves on by T (at the third expiry too,
log entry 33), and the watch starts again, or the reference is lost. -/
def watchExpired (s : State) : State :=
  let r := s.rect
  if r.watch = none then s
  else
    let p := r.p.map fun p => stampAdd p r.t
    let watch := match p with | some p => watchFor s.time p r.t | none => none
    let s1 := s.setRect { r with missed := satInc 3 r.missed, p := p, watch := watch }
    if 3 ≤ s1.rect.missed then referenceLost s1 else s1

/-- P moved by a change of station time, so that the reference keeps its place against the mains (R125,
R188). -/
def moveReference (old new : Stamp) (s : State) : State :=
  s.setRect { s.rect with p := s.rect.p.map fun p => p + (new - old) }

end Sys2Proof.Machine
end

