-- ==== Sys2Proof/Machine/Rect.lean ====
section
/-! DEFINITION. The rest of the rectifier controller (chapter 7): the accepted sample (R129, R135, R136),
the STATUS of the AC breaker and the firing unit (R137, R138), the AC timer (R124, R138), the mirror of
SHADOW (R141) and the requests RUN, REST and RESET (R121 to R123). -/

namespace Sys2Proof.Machine

/-! The accepted sample -/

/-- States in which the accumulators fill (R129). -/
def RectState.accumulates : RectState → Bool
  | .running | .probe | .hold => true
  | .parked | .starting | .faulted => false

/-- Fill the cycle accumulators with an accepted sample (R129). -/
def accumulate (x : RectTaken) (s : State) : State :=
  let r := s.rect
  if r.state.accumulates then
    s.setRect
      { r with
        sumUb := if r.n < 65535 then r.sumUb + x.ub else r.sumUb
        n := satInc 65535 r.n
        peakIr := if r.n = 0 then x.ir else max r.peakIr x.ir }
  else s

/-- States in which rectifier overcurrent is tested (R135). -/
def RectState.testsCurrent : RectState → Bool
  | .starting | .running | .hold | .probe => true
  | .parked | .faulted => false

/-- A condition that faults the group, served in SHADOW as a WOULD_TRIP alone (R139, R141). -/
def faultOrWouldTrip (cause : FaultCause) (s : State) : State :=
  if s.mode = .shadow then submit .wouldTrip .rect (some cause.cause) none none s
  else rectFault cause s

/-- The overcurrent count after an accepted sample, before it is judged (R135). -/
def overcurrentCount (row : RectRow) (x : RectTaken) (count : Nat) : Nat :=
  if (row.iRectTrip : Int) ≤ x.ir then
    (if decide (4 < x.gap) || x.resumption then 0 else count) + 1
  else 0

/-- Test an accepted sample for rectifier overcurrent (R135). -/
def testOvercurrent (x : RectTaken) (s : State) : State :=
  let r := s.rect
  if r.state.testsCurrent then
    let count := overcurrentCount s.rectRow x r.overcurrent
    if (s.rectRow.iRectTrip : Int) ≤ x.ir ∧ s.rectRow.cRect ≤ count then
      faultOrWouldTrip .overcurrent (s.setRect { r with overcurrent := 0 })
    else s.setRect { r with overcurrent := count }
  else s

/-- The stack warning flag (R136). -/
def testStackWarning (temp : Int) (s : State) : State :=
  let r := s.rect
  let row := s.rectRow
  if r.stackWarn = false ∧ (row.tWarn : Int) ≤ temp then
    submit .stackWarn .rect none (some temp) none (s.setRect { r with stackWarn := true })
  else if r.stackWarn ∧ temp < row.tWarn - row.hysteresis then
    submit .stackClear .rect none (some temp) none (s.setRect { r with stackWarn := false })
  else s

/-- A stack trip under RETRY in RUNNING: HOLD with retry pending set (R136). -/
def stackHold (s : State) : State :=
  let s1 := holdLosing .stackHot s
  s1.setRect { s1.rect with retryPending := true }

/-- A stack trip under RETRY in PROBE: the probe-return target with cause STACK_HOT (R136). -/
def stackEndsProbe (s : State) : State :=
  match s.rect.probeTarget with
  | .hold => holdLosing .stackHot s
  | .parked => parkLosing .stackHot s

/-- What the onset of a stack trip does beside setting the flag, by policy and state (R136); in SHADOW a
WOULD_TRIP where it would do something (R141). -/
def stackOnset (s : State) : State :=
  match s.rectRow.stackPolicy, s.rect.state with
  | _, .faulted => s
  | .latch, _ => faultOrWouldTrip .stackHot s
  | .retry, .parked => s
  | .retry, .hold => s
  | .retry, st =>
    if s.mode = .shadow then submit .wouldTrip .rect (some .stackHot) none none s
    else
      match st with
      | .running => stackHold s
      | .probe => stackEndsProbe s
      | .starting => park .stackHot s
      | .parked | .hold | .faulted => s

/-- What the clearing of the stack trip flag does (R136). -/
def stackCleared (s : State) : State :=
  let r := s.rect
  if r.retryPending then
    s.setRect
      { r with
        retryPending := false
        runPending := if r.state = .hold ∨ r.state = .probe then true else r.runPending }
  else if r.state = .hold ∧ r.cause = .stackHot then s.setRect { r with cause := .rest }
  else s

/-- The stack trip flag (R136). -/
def testStackTrip (temp : Int) (s : State) : State :=
  let r := s.rect
  let row := s.rectRow
  if r.stackTrip = false ∧ (row.tTrip : Int) ≤ temp then
    stackOnset (s.setRect { r with stackTrip := true })
  else if r.stackTrip ∧ temp < row.tTrip - row.hysteresis then
    stackCleared (s.setRect { r with stackTrip := false })
  else s

/-- Compare the stack temperature, while the RECT settings are valid (R119, R136). -/
def testStack (temp : Int) (s : State) : State :=
  if s.rectValid then testStackTrip temp (testStackWarning temp s) else s

/-- The controller takes an accepted sample: accumulators, overcurrent, stack, then the crossing if it is
placed (R125, R129, R135, R136; log entry 13). A sample that brings both an overcurrent fault and a
stack-trip onset is served as the overcurrent first (log entry 53). -/
def rectSample (x : RectTaken) (s : State) : State :=
  let s1 := testStack x.temp (testOvercurrent x (accumulate x s))
  match x.placed with
  | some tm => takeCrossing tm s1
  | none => s1

/-! The firing unit and the AC breaker -/

/-- A well-formed STATUS of the firing unit (R137). -/
def firingStatus (st : FiringState) (s : State) : State :=
  let old := s.rect.firing
  let s1 := s.setRect { s.rect with firing := st }
  if st = .faulty ∧ old ≠ .faulty then faultOrWouldTrip .firingFault s1 else s1

/-- The group mirrors RUNNING (R141). -/
def mirrorRunning (s : State) : State :=
  if s.rect.state = .running then s else rectMove .running .none s

/-- The group mirrors PARKED; the cause it takes is a free value (R141, log entry 10). -/
def mirrorParked (s : State) : State :=
  if s.rect.state = .parked then s
  else
    rectMove .parked (Config.freeParkCause s.freeCount) { s with freeCount := s.freeCount + 1 }

/-- An uncommanded closing of the AC breaker in PARKED or FAULTED (R138). -/
def acUncommandedClose (s : State) : State :=
  let s1 := offerRect false (.acBreaker false) s
  let s2 :=
    if s1.rect.state = .parked then s1.setRect { s1.rect with acTimer := some Config.acTime } else s1
  submit .uncommandedClose .rect none (some 3) none s2

/-- The AC breaker has come to CLOSED (R124, R138). -/
def acClosed (s : State) : State :=
  match s.rect.state with
  | .starting => if s.rect.firstCrossingWait then s else beginCrossingWait s
  | .running | .hold | .probe => s
  | .parked | .faulted => acUncommandedClose s

/-- The AC breaker has come to OPEN (R138). -/
def acOpened (s : State) : State :=
  match s.rect.state with
  | .starting => if s.rect.firstCrossingWait then rectFault .acOpened s else s
  | .running | .hold | .probe => rectFault .acOpened s
  | .parked => s.setRect { s.rect with acTimer := none }
  | .faulted => s

/-- Serve a changed AC breaker position in SHADOW: a group not FAULTED mirrors it (R141). -/
def acMirrored (pos : BreakerPos) (s : State) : State :=
  match pos with
  | .closed => if s.rect.state = .faulted then acUncommandedClose s else mirrorRunning s
  | .opened => if s.rect.state = .faulted then s else mirrorParked s
  | .travelling | .disagree | .unknown => s

/-- A well-formed STATUS of the AC breaker unit (R138; in SHADOW R141). -/
def acStatus (pos : BreakerPos) (s : State) : State :=
  let old := s.rect.acPos
  let s1 := s.setRect { s.rect with acPos := pos }
  if pos = old then s1
  else if s.mode = .shadow then acMirrored pos s1
  else
    match pos with
    | .closed => acClosed s1
    | .opened => acOpened s1
    | .travelling | .disagree | .unknown => s1

/-- The AC timer runs out (R124, R138). In SHADOW it only stops (log entry 18). -/
def acTimerExpired (s : State) : State :=
  let r := s.rect
  let stopped := s.setRect { r with acTimer := none }
  if r.acTimer = none then s
  else if s.mode = .shadow then stopped
  else
    match r.state with
    | .starting =>
      if r.firstCrossingWait then park (lossCause s) stopped
      else rectFault .acBreakerFailure stopped
    | .parked => if r.acPos = .opened then stopped else rectFault .acBreakerFailure stopped
    | .running | .hold | .probe | .faulted => stopped

/-! Requests -/

/-- The state checks of RUN (R121). -/
def runRefused (s : State) : Bool :=
  !s.rectValid || s.estop || s.rect.stackTrip || s.rect.firing == .faulty
    || s.rect.state == .faulted

/-- RUN, accepted (R121). -/
def serveRun (s : State) : State :=
  match s.rect.state with
  | .parked => enterStarting s
  | .starting | .running | .faulted => s
  | .hold | .probe =>
    s.setRect
      { s.rect with runPending := true, retryPending := false, limitHold := 0, cause := .none }

/-- REST in RUNNING with tests being served: PROBE, with the rest state as its target (R122). -/
def restIntoProbe (s : State) : State :=
  let s1 := rectMove .probe .none s
  s1.setRect { s1.rect with probeTarget := s1.rest }

/-- REST, accepted (R122). -/
def serveRest (s : State) : State :=
  let r := s.rect
  match r.state with
  | .running =>
    let s1 := s.setRect { r with limitHold := 0 }
    if anyFeeder r.testers then restIntoProbe s1 else enterRest s1.rest .rest s1
  | .probe =>
    s.setRect
      { r with probeTarget := s.rest, runPending := false, retryPending := false, limitHold := 0 }
  | .hold => s.setRect { r with runPending := false, retryPending := false, cause := .rest }
  | .starting => park .rest s
  | .parked | .faulted => s

/-- The state checks of RESET (R123). -/
def resetRefused (s : State) : Bool :=
  s.rect.state != .faulted || s.rect.acPos != .opened || s.estop

/-- RESET, accepted (R123): the AC trip line is released, the fault causes cleared, and the group parked
with cause RESET, with no AC breaker command. -/
def serveReset (s : State) : State :=
  rectMove .parked .reset
    (s.setRect
      { s.rect with
        acTrip := false, faults := FaultCauses.empty, firstFault := none, overcurrent := 0 })

end Sys2Proof.Machine
end

