-- ==== Sys2Proof/Machine/TestSample.lean ====
section
/-! DEFINITION. What a feeder's sequence unit does with an accepted sample: the end of COOLING (R103), the
live check (R108), the settle and summing windows (R110) and the test ratio (R111). -/

namespace Sys2Proof.Machine

/-- The end of COOLING: FROZEN clear and θ at most θ_reclose make a test request (R103). -/
def coolingSample (f : FeederId) (s : State) : State :=
  if (s.sq f).frozen = false ∧ (s.feeder f).prot.theta ≤ thetaReclose s f then
    testRequest f .cooling s
  else s

/-- Whether a sample passes the live check (R108). -/
def livePass (row : TestSettings) (x : FeederTaken) : Bool :=
  x.ubValid && decide (row.rLive * x.ub ≤ x.u * 1024)

/-- Offer TEST_CLOSE and wait for the contactor (R108), the step count at 0 (log entry 52). -/
def closeContactor (f : FeederId) (s : State) : State :=
  let s1 := startCloseTimer f (offerSeq (.testContactor f true) s)
  let r := s1.sq f
  s1.setSq f { r with test := { r.test with step := some .contactorClosing, count := 0 } }

/-- A sample of the live check (R108): a failing one closes the contactor, the fourth passing one gives
LIVE. -/
def liveSample (f : FeederId) (x : FeederTaken) (s : State) : State :=
  let r := s.sq f
  if livePass (s.feeder f).row.test x = false then closeContactor f s
  else if 4 ≤ r.test.count + 1 then
    serveResult f { outcome := .live, r := none, uAvg := none, ubAvg := none } s
  else s.setSq f { r with test := { r.test with count := r.test.count + 1 } }

/-- A sample of the settle window (R110). -/
def settleSample (f : FeederId) (s : State) : State :=
  let r := s.sq f
  if (s.feeder f).row.test.wSettle ≤ r.test.count + 1 then
    s.setSq f { r with test := { r.test with step := some .summing, count := 0, sumU := 0, sumUb := 0 } }
  else s.setSq f { r with test := { r.test with count := r.test.count + 1 } }

/-- The test ratio r (R111), clamped to 1024; a division by 0 is a free value (log entry 38). -/
def testRatio (uAvg ubAvg : Nat) : Nat :=
  min 1024 (if ubAvg = 0 then Config.ratioByZero uAvg else uAvg * 1024 / ubAvg)

/-- The class of a test ratio (R111). -/
def ratioClass (row : TestSettings) (r : Nat) : RatioClass :=
  if r < row.rShort then .short else if r < row.rLoad then .loaded else .clear

/-- The sums are complete (R111): an abort on a low busbar, else the pending result, TEST_OPEN and the
wait for the contactor, in which the step count keeps the 16 that R110 brought it to (log entry 52). -/
def sumsComplete (f : FeederId) (sumU sumUb : Nat) (s : State) : State :=
  let row := (s.feeder f).row.test
  let uAvg := sumU / 16
  let ubAvg := sumUb / 16
  if ubAvg < row.ubMinTest then abortTest f .lowBusbar (some uAvg) (some ubAvg) s
  else
    let r := testRatio uAvg ubAvg
    let s1 := startCloseTimer f (offerSeq (.testContactor f false) s)
    let q := s1.sq f
    s1.setSq f
      { q with
        test :=
          { q.test with
            step := some .contactorOpening, count := 16, sumU := sumU, sumUb := sumUb
            pending := some { result := ratioClass row r, r := r, uAvg := uAvg, ubAvg := ubAvg } } }

/-- A sample of the summing window (R110). -/
def sumSample (f : FeederId) (x : FeederTaken) (s : State) : State :=
  let r := s.sq f
  if x.ubValid = false then abortTest f .noBusbar none none s
  else
    let sumU := r.test.sumU + x.u
    let sumUb := r.test.sumUb + x.ub
    if 16 ≤ r.test.count + 1 then sumsComplete f sumU sumUb s
    else
      s.setSq f
        { r with test := { r.test with count := r.test.count + 1, sumU := sumU, sumUb := sumUb } }

/-- A sample taken in TESTING, by step; none is counted during an OPEN wait (R81, R107 to R110). -/
def testSample (f : FeederId) (x : FeederTaken) (s : State) : State :=
  let r := s.sq f
  if r.openRequested then s
  else
    match r.test.step with
    | some .liveCheck => liveSample f x s
    | some .settling => settleSample f s
    | some .summing => sumSample f x s
    | some .contactorCheck | some .contactorClosing | some .contactorOpening | none => s

/-- The sequence unit takes an accepted sample (R41). -/
def sequenceSample (f : FeederId) (x : FeederTaken) (s : State) : State :=
  let r := s.sq f
  match r.state with
  | .deadTime => if r.phase = some .cooling then coolingSample f s else s
  | .testing => testSample f x s
  | .out | .opened | .closing | .closed | .opening | .tripping | .lockout => s

end Sys2Proof.Machine
end

