-- ==== Sys2Proof/Machine/Intake.lean ====
section
/-! DEFINITION. Sample intake (chapter 3): judging, saturation, the handing on of accepted samples, unit
faults, the blind watchdog's restart, frozen detection and clearing, the history ring, the placing of
crossings and the silence timer, with the decimated copies of R33. -/

namespace Sys2Proof.Machine

/-- The sequence judgement (R37): the gap of a sample that passes, `none` for a duplicate or a stale
one. -/
def judgeGap (last : Option Byte) (seq : Byte) : Option Nat :=
  match last with
  | none => some 1
  | some l =>
    let g := (seq - l).toNat
    if g = 0 ∨ 128 < g then none else some g

/-- The handed gap of an accepted sample (R38). -/
def handedGap (resumption : Bool) (g carry : Nat) : Nat :=
  if resumption then 1 else min 255 (g + carry)

/-- The missing carry after a sample recorded under a unit fault (R39). -/
def carryAfter (carry g : Nat) : Nat := min 255 (carry + g)

/-! Frozen samples -/

/-- Intake sets FROZEN (R45): both counts become 0, IOC and DDL are put at rest (R53), the report is made
and the sequence unit informed (R94). -/
def setFrozen (f : FeederId) (i : Int) (s : State) : State :=
  let u := s.feeder f
  let s1 :=
    s.setFeeder f
      { u with
        intake := { u.intake with frozenCount := 0, clearingCount := 0 }
        prot := u.prot.atRest
        sq := { u.sq with frozen := true } }
  flagAction f false (submit .frozen (.feeder f) none (some i) none s1)

/-- Whether frozen detection compares a sample, and finds it equal above the floor (R45). -/
def repeats (s : State) (f : FeederId) (x : FeederTaken) : Bool :=
  (s.sq f).state == .closed && (s.rect.state == .running || s.rect.state == .probe)
    && !x.resumption && decide ((s.feeder f).row.intake.iRippleMin ≤ x.i.natAbs)
    && x.i == x.previous

/-- Frozen detection, while FROZEN is clear (R45). -/
def detectFrozen (f : FeederId) (x : FeederTaken) (s : State) : State :=
  let u := s.feeder f
  let k := u.intake
  if repeats s f x then
    if u.row.intake.wF ≤ k.frozenCount + 1 then setFrozen f x.i s
    else s.setIntake f { k with frozenCount := k.frozenCount + 1 }
  else s.setIntake f { k with frozenCount := 0 }

/-- Frozen clearing, while FROZEN is set (R46). -/
def clearFrozen (f : FeederId) (x : FeederTaken) (s : State) : State :=
  let u := s.feeder f
  let k := u.intake
  match u.row.intake.policy with
  | .latch => s.setIntake f { k with clearingCount := 0 }
  | .auto =>
    if x.resumption ∨ x.i = x.previous then s.setIntake f { k with clearingCount := 0 }
    else if 32 ≤ k.clearingCount + 1 then
      submit .frozenClear (.feeder f) none none none
        (s.setFeeder f
          { u with intake := { k with clearingCount := 0 }, sq := { u.sq with frozen := false } })
    else s.setIntake f { k with clearingCount := k.clearingCount + 1 }

/-- Frozen supervision of an accepted sample (R45, R46). -/
def frozenSample (f : FeederId) (x : FeederTaken) (s : State) : State :=
  if (s.sq f).frozen then clearFrozen f x s else detectFrozen f x s

/-! Feeder samples -/

/-- The blind watchdog on an accepted sample (R43, R44): outside OUT the timer restarts, and a BLIND
feeder sees again with a SEEN report. -/
def watchSample (f : FeederId) (seq : Byte) (s : State) : State :=
  let u := s.feeder f
  if u.sq.state = .out then s
  else
    let s1 := s.setIntake f { u.intake with blindTimer := some (ms u.row.intake.tBlind) }
    if u.sq.blind then
      submit .seen (.feeder f) none (some seq.toNat) none (s1.setSq f { u.sq with blind := false })
    else s1

/-- A history ring after an entry joins: the oldest entry leaves a full ring (R42). -/
def pushRing (ring : List RingEntry) (e : RingEntry) : List RingEntry :=
  (if ring.length < Config.ringCapacity then ring else ring.drop 1) ++ [e]

/-- Record an accepted sample in the feeder's intake record and history ring (R37, R38, R39, R42). -/
def recordAccepted (f : FeederId) (seq : Byte) (x : FeederTaken) (s : State) : State :=
  let k := (s.feeder f).intake
  s.setIntake f
    { k with
      lastSeq := some seq
      resumption := false
      carry := 0
      lastAccepted := some (x.i, x.u)
      faultOnset := false
      ring :=
        pushRing k.ring
          { i := x.i, u := x.u, ub := x.ub, seq := seq
            gap := if 1 < x.gap then some x.gap else none } }

/-- The decimation count after an accepted field sample, and its copy when the count reaches D (R33). -/
def decimate (f : FeederId) (fr : RxFrame) (s : State) : State :=
  let u := s.feeder f
  let d := u.row.intake.decimation
  if d = 0 then s
  else if u.decim + 1 = d then
    offerForwarded .sp
      { kind := .sample, dest := stationAddress s, src := fr.src, seq := fr.seq
        payload := .bytes fr.payload }
      (s.setFeeder f { u with decim := 0 })
  else s.setFeeder f { u with decim := u.decim + 1 }

/-- The values an accepted feeder sample is handed on with (R38, R40, R41). -/
def handOn (s : State) (f : FeederId) (g : Nat) (x : FeederSample) : FeederTaken :=
  let k := (s.feeder f).intake
  let i := saturate x.iOver x.i
  { i := i
    u := saturateVoltage x.uOver x.u
    ub := s.rectIntake.ub
    ubValid := s.rectIntake.busbarValid
    gap := handedGap k.resumption g k.carry
    previous := if k.resumption then i else (k.lastAccepted.map fun y => y.1).getD i
    resumption := k.resumption }

/-- Accept a feeder sample (R41): the ring entry is made first; the filling capture, the decimated copy,
the blind watchdog, protection, frozen supervision and the sequence unit follow (log entry 12). The
sample that sets FROZEN has been evaluated before it, so IOC and DDL stand at rest until the next
accepted sample (R53). `copy` is the received frame of a field sample; an injected sample has none
(R33). -/
def acceptFeeder (f : FeederId) (seq : Byte) (g : Nat) (x : FeederSample) (copy : Option RxFrame)
    (s : State) : State :=
  let t := handOn s f g x
  let s1 := fillCapture f t.gap ⟨t.i, t.u, t.ub⟩ (recordAccepted f seq t s)
  let s2 := match copy with | some fr => decimate f fr s1 | none => s1
  sequenceSample f t (frozenSample f t (protectionSample f t (watchSample f seq s2)))

/-- Record a feeder sample under a unit fault (R39). -/
def recordFault (f : FeederId) (seq : Byte) (g : Nat) (s : State) : State :=
  let k := (s.feeder f).intake
  let s1 :=
    s.setIntake f
      { k with lastSeq := some seq, carry := carryAfter k.carry g, faultOnset := true }
  if k.faultOnset then s1 else submit .unitFault (.feeder f) none (some seq.toNat) none s1

/-- Orders 4 and 5 of R35 on a feeder sample with gap `g`. -/
def takeFeeder (f : FeederId) (seq : Byte) (g : Nat) (x : FeederSample) (copy : Option RxFrame)
    (s : State) : State :=
  if x.unitFault then recordFault f seq g s else acceptFeeder f seq g x copy s

/-- A SAMPLE of a feeder's measuring unit from the field port (R35): ignored in REPLAY, discarded when
malformed, duplicate or stale, each counted as rejected, else recorded or accepted. -/
def feederSample (f : FeederId) (fr : RxFrame) (s : State) : State :=
  if s.mode = .replay then reject .fp s
  else
    match readFeederSample fr.payload with
    | none => reject .fp s
    | some x =>
      match judgeGap (s.feeder f).intake.lastSeq fr.seq with
      | none => reject .fp s
      | some g => takeFeeder f fr.seq g x (some fr) s

/-- The sequence number of an injected sample (R50). -/
def injectedSeq (last : Option Byte) : Byte :=
  match last with
  | some l => l + 1#8
  | none => 0#8

/-- An injected sample of a feeder (R50). -/
def injectFeeder (f : FeederId) (x : FeederSample) (s : State) : State :=
  takeFeeder f (injectedSeq (s.feeder f).intake.lastSeq) 1 x none s

/-! Rectifier samples -/

/-- Record a rectifier sample under a unit fault (R47): busbar-valid is cleared too. -/
def recordRectFault (seq : Byte) (g : Nat) (s : State) : State :=
  let k := s.rectIntake
  let s1 :=
    s.setRectIntake
      { k with
        lastSeq := some seq, carry := carryAfter k.carry g, faultOnset := true
        busbarValid := false }
  if k.faultOnset then s1 else submit .unitFault .rect none (some seq.toNat) none s1

/-- Place a crossing in station time, `none` when it is absent or unplaced (R48). -/
def placeCrossing (k : RectIntake) (gap : Nat) (stamp : Stamp) (offset : Option Nat) : Option Stamp :=
  match offset, k.prevStamp with
  | some o, some p =>
    if k.resumption = false ∧ gap = 1 ∧ k.timeSet = false ∧ (o : Int) < stampDiff stamp p then
      some (stampAdd p o)
    else none
  | _, _ => none

/-- Accept a rectifier sample (R47, R48): the latest values, busbar-valid, arriving and the silence timer
are set, and the sample is handed to the controller. -/
def acceptRect (stamp : Stamp) (seq : Byte) (g : Nat) (x : RectSample) (s : State) : State :=
  let k := s.rectIntake
  let gap := handedGap k.resumption g k.carry
  let ub := saturateVoltage x.ubOver x.ub
  let ir := saturate x.irOver x.ir
  let s1 :=
    s.setRectIntake
      { lastSeq := some seq
        resumption := false
        carry := 0
        faultOnset := false
        ub := ub
        ir := ir
        temp := x.temp
        busbarValid := true
        prevStamp := some stamp
        timeSet := false
        silence := some Config.rectSilence
        arriving := true }
  rectSample
    { ub := ub, ir := ir, temp := x.temp, gap := gap, resumption := k.resumption
      placed := placeCrossing k gap stamp x.crossing }
    s1

/-- Orders 4 and 5 of R35 on a rectifier sample with gap `g` (R47). -/
def takeRect (stamp : Stamp) (seq : Byte) (g : Nat) (x : RectSample) (s : State) : State :=
  if x.unitFault then recordRectFault seq g s else acceptRect stamp seq g x s

/-- A SAMPLE of the RECT_MU node from the field port (R47). -/
def rectFieldSample (stamp : Stamp) (fr : RxFrame) (s : State) : State :=
  if s.mode = .replay then reject .fp s
  else
    match readRectSample fr.payload with
    | none => reject .fp s
    | some x =>
      match judgeGap s.rectIntake.lastSeq fr.seq with
      | none => reject .fp s
      | some g => takeRect stamp fr.seq g x s

/-- An injected sample of the rectifier unit, stamped with the station time of its taking (R50). -/
def injectRect (x : RectSample) (s : State) : State :=
  takeRect s.time (injectedSeq s.rectIntake.lastSeq) 1 x s

/-- The silence timer runs out (R49). -/
def silenceExpired (s : State) : State :=
  let k := s.rectIntake
  if k.silence = none then s
  else
    s.setRectIntake
      { k with
        silence := none, busbarValid := false, arriving := false, lastSeq := none
        resumption := true, carry := 0 }

end Sys2Proof.Machine
end

