-- ==== Sys2Proof/Machine/TieCtl.lean ====
section
/-! DEFINITION. The tie controller (chapter 8): supervision of the links (R146 to R149), repeats and
acknowledgements of intertrips (R151, R152, R159), intertrips received (R154, R155) and section messages
received (R105, R157). -/

namespace Sys2Proof.Machine

/-! Going DOWN -/

/-- Fail a feeder's outstanding entry on a tie that has gone DOWN (R148). -/
def failEntryOn (t : Tie) (f : FeederId) (s : State) : State :=
  match (s.feeder f).entry with
  | some e => if e.tie = t then intertripFail f e.cause e.sectionId .linkDown s else s
  | none => s

/-- The notice to a feeder's sequence unit that its tie has gone DOWN: it acts in AWAITING_FAR_END
(R104, R148). -/
def downNotice (t : Tie) (f : FeederId) (s : State) : State :=
  let r := s.sq f
  if sectionTie s f = some t ∧ r.state = .deadTime ∧ r.phase = some .awaitingFarEnd then
    farEndDown f s
  else s

/-- The link record of a tie that is DOWN, with nothing counted (R147, R148). -/
def TieRec.down (r : TieRec) : TieRec :=
  { r with up := false, beatCount := 0, gapTimer := none, silence := none, farMode := none }

/-- A tie goes DOWN from UP (R148): value1 of the report is 1 for silence, 2 for port loss. Outstanding
entries fail, but in REPLAY (R159); the mapped feeders are notified. R148 takes no order between the two:
that every entry fails first, so that an entry of a feeder in AWAITING_FAR_END locks it out without the test
its notice would make, is the model's choice (log entry 54). -/
def tieGoesDown (t : Tie) (why : Int) (s : State) : State :=
  let s1 := submit .tieDown (.tie t) none (some why) none (s.setTie t (s.tie t).down)
  let s2 := if s1.mode = .replay then s1 else forFeeders (failEntryOn t) s1
  forFeeders (downNotice t) s2

/-- The tie port has entered LOST (R147, R148): DOWN by port loss, or DOWN as before with its beat count
and gap timer cleared. -/
def tieLost (t : Tie) (s : State) : State :=
  let r := s.tie t
  if r.up then tieGoesDown t 2 s else s.setTie t { r with beatCount := 0, gapTimer := none }

/-- The silence timer runs out (R147, R148). -/
def tieSilenceExpiry (t : Tie) (s : State) : State :=
  let r := s.tie t
  if r.silence = none then s
  else if r.up then tieGoesDown t 1 s
  else s.setTie t { r with silence := none }

/-- The beat gap timer runs out in DOWN (R147). -/
def beatGapExpiry (t : Tie) (s : State) : State :=
  let r := s.tie t
  if r.gapTimer = none then s else s.setTie t { r with gapTimer := none, beatCount := 0 }

/-- The send timer expires (R146): it starts its next period, and a BEAT with the device mode is offered
unless the port is LOST. -/
def beatSendExpiry (t : Tie) (s : State) : State :=
  let s1 := s.setTie t { s.tie t with sendTimer := some Config.beatPeriod }
  if (s.port t.port).state = .lost then s1 else offerTie t (.beat s.mode) s1

/-! Beats -/

/-- A well-formed BEAT counted toward UP in DOWN (R147). -/
def countBeat (t : Tie) (s : State) : State :=
  let r := s.tie t
  if r.up then s
  else
    let count := if r.gapTimer.isSome then satInc 3 r.beatCount else 1
    if 3 ≤ count then
      submit .tieUp (.tie t) none none none
        (s.setTie t
          { r with
            up := true, beatCount := count, gapTimer := none, silence := some Config.tieSilence })
    else s.setTie t { r with beatCount := count, gapTimer := some Config.tieSilence }

/-- The far mode recorded from a BEAT, reported but for a change from UNKNOWN to SERVICE (R149). -/
def recordFarMode (t : Tie) (m : Mode) (s : State) : State :=
  let r := s.tie t
  if r.farMode = some m then s
  else
    let s1 := s.setTie t { r with farMode := some m }
    if r.farMode = none ∧ m = .service then s1
    else submit .farMode (.tie t) none (some (modeCode m)) (some (farModeCode r.farMode)) s1

/-! Intertrips sent: repeats and acknowledgements -/

/-- The repeat timer of an entry runs out (R151): the TRIP_REQ is repeated with its tag, or the intertrip
fails after the third send. In REPLAY the timer is a simulation timer and this expiry does not arise. -/
def repeatExpiry (f : FeederId) (s : State) : State :=
  if s.mode = .replay then s
  else
    let u := s.feeder f
    match u.entry with
    | none => s
    | some e =>
      if e.sends < 3 then
        offerTie e.tie (.tripReq (BitVec.ofNat 8 e.sectionId) e.cause e.tag)
          (s.setFeeder f
            { u with entry := some { e with sends := e.sends + 1, timer := Config.repeatInterval } })
      else intertripFail f e.cause e.sectionId .noAck s

/-- An entry is acknowledged (R152): it is removed and reported. -/
def entryAcked (f : FeederId) (e : Entry) (result : AckResult) (s : State) : State :=
  submit .intertripAcked (.feeder f) (some result.cause) (some e.sectionId) (some e.tag.toNat)
    (s.setFeeder f { s.feeder f with entry := none })

/-- In REPLAY the simulation timer of an entry runs out, served as an acknowledgement TRIPPED (R159). -/
def replayEntryExpiry (f : FeederId) (s : State) : State :=
  if s.mode = .replay then
    match (s.feeder f).entry with
    | some e => entryAcked f e .tripped s
    | none => s
  else s

/-- Whether a feeder's outstanding entry matches an acknowledgement (R152). -/
def ackMatches (s : State) (t : Tie) (sec tag : Byte) (f : FeederId) : Bool :=
  match (s.feeder f).entry with
  | some e => e.tie == t && e.sectionId == sec.toNat && e.tag == tag
  | none => false

/-- Serve an acknowledgement that matches an entry, by its result (R152). -/
def serveAck (f : FeederId) (e : Entry) (result : AckResult) (s : State) : State :=
  match result with
  | .tripped | .alreadyOpen | .outOfService => entryAcked f e result s
  | .unknownSection => intertripFail f e.cause e.sectionId .unknownSection s
  | .notInServiceMode => intertripFail f e.cause e.sectionId .notInServiceMode s

/-- A well-formed TRIP_ACK (R152); one that matches no entry is ignored. -/
def receiveAck (t : Tie) (sec tag : Byte) (result : AckResult) (s : State) : State :=
  match FeederId.all.find? (ackMatches s t sec tag) with
  | some f =>
    match (s.feeder f).entry with
    | some e => serveAck f e result s
    | none => s
  | none => s

/-! Intertrips received -/

/-- The feeder whose section map row names a tie and a section id, if any (R154, R157). -/
def mappedFeeder (s : State) (t : Tie) (sec : Byte) : Option FeederId :=
  FeederId.all.find? fun f =>
    (s.feeder f).section_.tie == some t && (s.feeder f).section_.sectionId == sec.toNat

/-- The result of a TRIP_REQ by feeder state (R155). -/
def interResult (st : FeederState) : AckResult :=
  match st with
  | .closed | .closing | .opening | .tripping => .tripped
  | .testing | .deadTime | .opened | .lockout => .alreadyOpen
  | .out => .outOfService

/-- A TRIP_REQ in DEAD_TIME (R155): the wait starts again and far-clear is cleared. -/
def interDeadTime (f : FeederId) (s : State) : State :=
  let r := s.sq f
  let row := (s.feeder f).row.test
  match r.phase with
  | some .timing =>
    s.setSq f { r with farClear := false, dead := some (ms (deadTime row (r.shotCount + 1))) }
  | some .awaitingFarEnd => s.setSq f { r with farClear := false, dead := some (ms row.tFollow) }
  | some .cooling | some .awaitingSupply | none => s.setSq f { r with farClear := false }

/-- The action of a TRIP_REQ on the mapped feeder by its state (R155). -/
def interAction (f : FeederId) (s : State) : State :=
  let r := s.sq f
  match r.state with
  | .closed | .closing | .opening | .tripping => requestTrip f (singleTrip s f .intertrip) s
  | .testing => if r.openRequested then s else abortTest f .intertrip none none s
  | .deadTime => interDeadTime f s
  | .opened | .lockout | .out => s

/-- The INTERTRIP_RECEIVED report and the TRIP_ACK that answer a TRIP_REQ (R154). -/
def answerTripReq (t : Tie) (sec : Byte) (cause : InterCause) (tag : Byte) (result : AckResult)
    (s : State) : State :=
  offerTie t (.tripAck sec tag result)
    (submit .intertripReceived (.tie t) (some cause.cause) (some sec.toNat)
      (some result.cause.code) s)

/-- A TRIP_REQ served at order 4 (R154, R155): the action, the repeat record, the report and the
acknowledgement. -/
def serveTripReq (t : Tie) (f : FeederId) (sec : Byte) (cause : InterCause) (tag : Byte)
    (s : State) : State :=
  let result := interResult (s.sq f).state
  let s1 := interAction f s
  answerTripReq t sec cause tag result
    (s1.setFeeder f
      { s1.feeder f with
        repeatRec := some { tag := tag, result := result, window := Config.repeatWindow } })

/-- The result a feeder's repeat record holds for a tag, if any (R154). -/
def heldResult (s : State) (f : FeederId) (tag : Byte) : Option AckResult :=
  match (s.feeder f).repeatRec with
  | some r => if r.tag = tag then some r.result else none
  | none => none

/-- A well-formed TRIP_REQ (R154). -/
def receiveTripReq (t : Tie) (sec : Byte) (cause : InterCause) (tag : Byte) (s : State) : State :=
  if s.mode ≠ .service then answerTripReq t sec cause tag .notInServiceMode s
  else
    match mappedFeeder s t sec with
    | none => answerTripReq t sec cause tag .unknownSection s
    | some f =>
      match heldResult s f tag with
      | some result => offerTie t (.tripAck sec tag result) s
      | none => serveTripReq t f sec cause tag s

/-- A repeat window runs out and the record is emptied (R154). -/
def windowExpiry (f : FeederId) (s : State) : State :=
  s.setFeeder f { s.feeder f with repeatRec := none }

/-! Section messages received -/

/-- A follower's sequence unit serves SECTION_CLEAR by phase (R104, R105). -/
def followerClear (f : FeederId) (s : State) : State :=
  let r := s.sq f
  match r.phase with
  | some .timing => s.setSq f { r with farClear := true }
  | some .awaitingFarEnd => testRequest f .awaitingFarEnd (s.setSq f { r with dead := none })
  | some .cooling | some .awaitingSupply | none => s

/-- A well-formed section message (R157): reported in every case; in SERVICE served by the FOLLOWER
feeder of the section in DEAD_TIME. -/
def receiveSection (t : Tie) (hold : Bool) (sec : Byte) (s : State) : State :=
  let s1 :=
    submit .sectionMsg (.tie t) none (some sec.toNat) (some (if hold then 2 else 1)) s
  match mappedFeeder s t sec with
  | none => s1
  | some f =>
    if s.mode = .service ∧ isFollower s f ∧ (s.sq f).state = .deadTime then
      (if hold then lockout f .farLockout false s1 else followerClear f s1)
    else s1

/-! Received TIE frames -/

/-- Serve a well-formed message (R147, R149, R152, R154, R157). -/
def serveTieMsg (t : Tie) (m : TieMsg) (s : State) : State :=
  match m with
  | .beat mode => recordFarMode t mode (countBeat t s)
  | .tripReq sec cause tag => receiveTripReq t sec cause tag s
  | .tripAck sec tag result => receiveAck t sec tag result s
  | .sectionClear sec => receiveSection t false sec s
  | .sectionHold sec => receiveSection t true sec s

/-- A TIE frame received in UP restarts the silence timer, well formed or not (R145, R147). -/
def restartSilence (t : Tie) (s : State) : State :=
  let r := s.tie t
  if r.up then s.setTie t { r with silence := some Config.tieSilence } else s

/-- A received TIE frame (R145): a malformed one is counted as rejected. -/
def tieFrame (t : Tie) (payload : List Byte) (s : State) : State :=
  let s1 := restartSilence t s
  match readTie payload with
  | some m => serveTieMsg t m s1
  | none => reject t.port s1

end Sys2Proof.Machine
end

