-- ==== Sys2Proof/Machine/Ports.lean ====
section
/-! DEFINITION. Reception (chapters 1 and 2): error confinement and recovery (R5 to R9), the frame switch
(R23 to R32), the entry of requests into the request queue (R175, R176), and the end of a transmission
(R11). -/

namespace Sys2Proof.Machine

/-! Error confinement -/

/-- The PORT_STATE report (R7). -/
def reportPort (p : Port) (new old : PortState) (s : State) : State :=
  submit .portState (.port p) none (some new.code) (some old.code) s

/-- The tie of a tie port. -/
def portTie : Port → Option Tie
  | .ta => some .a
  | .tb => some .b
  | .fp | .sp => none

/-- A port enters LOST (R7): the recovery count is 0, the urgent report carries the last reception error,
and a tie port tells the tie controller. -/
def portEntersLost (p : Port) (e : RxError) (s : State) : State :=
  let s1 :=
    submit .portLost (.port p) none (some e.code) none
      (s.setPort p { s.port p with state := .lost, recoveryCount := 0 })
  match portTie p with
  | some t => tieLost t s1
  | none => s1

/-- An error frame (R6, R7, R8). -/
def errorFrame (p : Port) (e : RxError) (s : State) : State :=
  let r := s.port p
  let count := min 256 (r.errorCount + 8)
  match r.state with
  | .good =>
    let s1 := s.setPort p { r with lastError := some e, errorCount := count }
    if 128 ≤ count then
      reportPort p .degraded .good (s1.setPort p { s1.port p with state := .degraded })
    else s1
  | .degraded =>
    let s1 := s.setPort p { r with lastError := some e, errorCount := count }
    if count = 256 then portEntersLost p e s1 else s1
  | .lost =>
    s.setPort p
      { r with
        lastError := some e
        recoveryCount := if r.recoveryCount = 128 then 128 else 0 }

/-- A LOST port returns to GOOD with both counts 0, and its arbiter resumes (R8 to R11). -/
def recoverPort (p : Port) (s : State) : State :=
  arbitrate p
    (reportPort p .good .lost
      (s.setPort p { s.port p with state := .good, errorCount := 0, recoveryCount := 0 }))

/-- A good frame on a LOST port (R8). -/
def lostGood (p : Port) (s : State) : State :=
  let r := s.port p
  let count := satInc 128 r.recoveryCount
  let s1 := s.setPort p { r with recoveryCount := count }
  if count = 128 ∧ r.recovery = .auto then recoverPort p s1 else s1

/-- A good frame on a GOOD or DEGRADED port lowers the error count (R5, R7). -/
def goodFrame (p : Port) (s : State) : State :=
  let r := s.port p
  let count := r.errorCount - 1
  let s1 := s.setPort p { r with errorCount := count }
  if r.state = .degraded ∧ count < 128 then
    reportPort p .good .degraded (s1.setPort p { s1.port p with state := .good })
  else s1

/-! Requests -/

/-- The request type that a REPLY echoes (Table 10-1). -/
def requestType : Request → RequestType
  | .bad (.malformed type) => .asReceived type
  | .bad .unknownReadTable => .readRow
  | .bad .unknownWriteTable => .writeRow
  | .bad .unknownRecord => .readRecord
  | .bad (.unknownFeederAction _) => .feederCmd
  | .bad .unknownRectAction => .rectCmd
  | .readRowNode _ | .readRowFeeder _ | .readRowRect _ | .readRowSection _ | .readRowPort _
  | .readRowReport _ => .readRow
  | .readRecordFeeder _ | .readRecordRect | .readRecordPort _ | .readRecordTie _
  | .readRecordDevice => .readRecord
  | .writeRowNode _ _ | .writeRowFeeder _ _ | .writeRowRect _ _ | .writeRowSection _ _
  | .writeRowPort _ _ | .writeRowReport _ _ => .writeRow
  | .inService _ | .outOfService _ | .closeFeeder _ | .openFeeder _ | .resetLockout _ => .feederCmd
  | .rectRun | .rectRest | .rectReset => .rectCmd
  | .setMode _ => .setMode
  | .setTime _ => .setTime
  | .captureStart _ => .captureStart
  | .captureRead _ _ => .captureRead
  | .captureRelease _ => .captureRelease
  | .inject _ _ => .inject
  | .portRecover _ => .portRecover
  | .restart => .restart

/-- The reply port of a request: that of its source (R26, R29). -/
def replyPort : ReqSource → Port
  | .fromPanel => .fp
  | .fromStation => .sp

/-- One REPLY frame to a requester (R175). -/
def sendReply (k : Ticket) (type : RequestType) (status : Status) (part parts : Nat)
    (body : ReplyBody) (s : State) : State :=
  offerReplyFrame (replyPort k.source) k.requester
    { type := type, number := k.number, status := status, part := part, parts := parts
      body := body }
    s

/-- A REPLY with a status and no results (R175). -/
def answer (k : Ticket) (type : RequestType) (status : Status) (s : State) : State :=
  sendReply k type status 0 1 .empty s

/-- The request number of a MANAGE payload, 0 when it carries none (R175). -/
def requestNumber : List Byte → Byte
  | _ :: n :: _ => n
  | _ => 0#8

/-- The type byte of a MANAGE payload, 0 when it carries none (log entry 6). -/
def requestTypeByte : List Byte → Byte
  | type :: _ => type
  | [] => 0#8

/-- The request of a MANAGE payload; a payload shorter than 2 bytes, of unknown type or of wrong length
is bad, and keeps its type byte for the reply (R175). The codes and layouts are a free function of
Config (log entry 6). -/
def readRequest (payload : List Byte) : Request :=
  let bad := Request.bad (.malformed (requestTypeByte payload))
  match payload with
  | type :: _ :: fields =>
    match Config.requestOf type fields with
    | some (.bad (.malformed _)) => bad
    | some r => r
    | none => bad
  | _ => bad

/-- A MANAGE frame handed to the agent (R176): it joins the request queue, or is answered BUSY at once
when 8 requests are queued. -/
def manageFrame (source : ReqSource) (fr : RxFrame) (s : State) : State :=
  let k : Ticket := { source := source, requester := fr.src, number := requestNumber fr.payload }
  let r := readRequest fr.payload
  if s.requests.length < Config.requestCapacity then
    { s with requests := s.requests ++ [{ ticket := k, request := r }] }
  else answer k (requestType r) .busy s

/-! The frame switch -/

/-- A received frame as forwarded, to a destination (R27, R30). -/
def forwardedFrame (fr : RxFrame) (dest : Byte) : Frame where
  kind := fr.kind
  dest := dest
  src := fr.src
  seq := fr.seq
  payload := .bytes fr.payload

/-- Offer a copy of a field frame to the station port NORMAL queue (R27). -/
def forwardUpFrame (fr : RxFrame) (s : State) : State :=
  offerForwarded .sp (forwardedFrame fr (stationAddress s)) s

/-- Forward a field frame up if its row permits it, else reject it (R27, R31). -/
def forwardOrReject (permitted : Bool) (fr : RxFrame) (s : State) : State :=
  if permitted then forwardUpFrame fr s else reject .fp s

/-- A SAMPLE from the field port (R24). -/
def switchSample (row : NodeRow) (stamp : Stamp) (fr : RxFrame) (s : State) : State :=
  match row.role, row.binding with
  | .feederMu, some f => feederSample f fr s
  | .rectMu, _ => rectFieldSample stamp fr s
  | _, _ => reject .fp s

/-- Hand a well-formed STATUS payload to its block; a malformed one is counted as rejected (R74, R137,
R138). -/
def handStatus {α : Type} (x : Option α) (serve : α → State → State) (s : State) : State :=
  match x with
  | some v => serve v s
  | none => reject .fp s

/-- The consumption of a STATUS by the block its role names (R25). -/
def consumeStatus (row : NodeRow) (payload : List Byte) (s : State) : State :=
  match row.role, row.binding with
  | .breaker, some f => handStatus (readBreakerStatus payload) (breakerStatus f) s
  | .acBreaker, _ => handStatus (readAcStatus payload) acStatus s
  | .firing, _ => handStatus (readFiringStatus payload) firingStatus s
  | _, _ => s

/-- Roles whose STATUS a block consumes (R25). -/
def roleSendsStatus : Role → Bool
  | .breaker | .acBreaker | .firing => true
  | .unused | .feederMu | .rectMu | .panel | .gateway => false

/-- A STATUS from the field port (R25): consumed outside REPLAY, and forwarded up if permitted; one that
is neither is rejected, unless REPLAY alone keeps it from its block. -/
def switchStatus (row : NodeRow) (fr : RxFrame) (s : State) : State :=
  if roleSendsStatus row.role then
    let s1 := if s.mode = .replay then s else consumeStatus row fr.payload s
    if row.upStatus then forwardUpFrame fr s1 else s1
  else forwardOrReject row.upStatus fr s

/-- A good frame from the field port (R23 to R27). -/
def switchField (stamp : Stamp) (fr : RxFrame) (s : State) : State :=
  let row := s.nodeRow fr.src
  if row.role = .unused ∨ row.side = .station then reject .fp s
  else
    match fr.kind with
    | .sample => switchSample row stamp fr s
    | .status => switchStatus row fr s
    | .manage =>
      if row.role = .panel ∧ fr.dest = s.ownByte then manageFrame .fromPanel fr s else reject .fp s
    | .reply => forwardOrReject row.upReply fr s
    | .report => forwardOrReject row.upReport fr s
    | .command | .tie => reject .fp s

/-- Field roles (section 2.1). -/
def roleIsField : Role → Bool
  | .feederMu | .rectMu | .breaker | .acBreaker | .firing | .panel => true
  | .unused | .gateway => false

/-- Forward a COMMAND or MANAGE of the gateway down to a field node whose down-pass set holds its kind,
else reject it (R28, R30). -/
def forwardDownFrame (permitted : Bool) (fr : RxFrame) (s : State) : State :=
  if roleIsField (s.nodeRow fr.dest).role && permitted then
    offerForwarded .fp (forwardedFrame fr fr.dest) s
  else reject .sp s

/-- A good frame from the station port (R28 to R30). -/
def switchStation (fr : RxFrame) (s : State) : State :=
  if (s.nodeRow fr.src).role ≠ .gateway then reject .sp s
  else
    match fr.kind with
    | .manage =>
      if fr.dest = s.ownByte then manageFrame .fromStation fr s
      else forwardDownFrame (s.nodeRow fr.dest).downManage fr s
    | .command =>
      if fr.dest = s.ownByte then reject .sp s
      else forwardDownFrame (s.nodeRow fr.dest).downCommand fr s
    | .sample | .status | .reply | .report | .tie => reject .sp s

/-- A good frame from a tie port (R32). -/
def switchTie (t : Tie) (fr : RxFrame) (s : State) : State :=
  if fr.kind = .tie then tieFrame t fr.payload s else reject t.port s

/-- Switch a good frame by its port of arrival (R23 to R32). -/
def switchFrame (p : Port) (stamp : Stamp) (fr : RxFrame) (s : State) : State :=
  match p with
  | .fp => switchField stamp fr s
  | .sp => switchStation fr s
  | .ta => switchTie .a fr s
  | .tb => switchTie .b fr s

/-- A received frame has ended (R1, R4): an error frame goes to error confinement; a good frame serves
recovery on a LOST port and else lowers the error count and is switched. In reset the part receives
nothing (R190, log entry 4). `stamp` is the reception stamp a rectifier sample carries (R47). -/
def receive (p : Port) (stamp : Stamp) (bytes : List Byte) (s : State) : State :=
  if s.inReset then s
  else
    match classify bytes with
    | .error e => errorFrame p e s
    | .good fr =>
      if (s.port p).state = .lost then lostGood p s else switchFrame p stamp fr (goodFrame p s)

/-- A port's transmitter finishes a frame and its arbiter chooses the next (R11). -/
def transmitDone (p : Port) (s : State) : State :=
  let r := s.port p
  if r.sending.isSome then arbitrate p (s.setPort p { r with sending := none }) else s

end Sys2Proof.Machine
end

