-- ==== Sys2Proof/Machine/Modes.lean ====
section
/-! DEFINITION. Device modes and resets: the transitions of SET_MODE (R182, R183), entry to and exit from
SHADOW and REPLAY (R50, R97, R98, R141, R142, R159), warm restart (R186), cold reset and its release
(R187, R190), the key and the emergency stop (R178, R190, R191), and the simulated plant (R184). -/

namespace Sys2Proof.Machine

/-! Transitions -/

/-- Whether every feeder satisfies a test on its record. -/
def allFeeders (s : State) (p : FeederRec → Bool) : Bool := FeederId.all.all fun f => p (s.sq f)

/-- Feeders that let the device leave SERVICE for CONFIG: OUT, OPEN, or LOCKOUT with a cause other than
BREAKER_FAILURE (R182). -/
def FeederRec.restsForConfig (r : FeederRec) : Bool :=
  r.state == .out || r.state == .opened
    || (r.state == .lockout && r.lockoutCause != some .breakerFailure)

/-- The condition of a transition, `none` for one that is not in the table of R182. -/
def transitionAllowed (s : State) (new : Mode) : Option Bool :=
  match s.mode, new with
  | .config, .service => some s.rectValid
  | .config, .shadow => some s.rectValid
  | .config, .replay =>
    some (allFeeders s (fun r => r.state == .out) && s.rect.state == .parked)
  | .service, .config =>
    some
      (allFeeders s FeederRec.restsForConfig
        && (s.rect.state == .hold || s.rect.state == .parked || s.rect.state == .faulted))
  | .shadow, .service => some true
  | .shadow, .config => some (allFeeders s fun r => r.state != .closed)
  | .replay, .config => some true
  | .config, .config | .service, .service | .shadow, .shadow | .replay, .replay
  | .service, .shadow | .service, .replay | .shadow, .replay | .replay, .service
  | .replay, .shadow => none

/-! What the blocks do with a change of mode (R183) -/

/-- Every change of mode, for one feeder: IOC and DDL at rest, the trip hold clear, the repeat record
emptied (R53, R69, R158). -/
def FeederUnit.modeChanged (u : FeederUnit) : FeederUnit :=
  { u with prot := u.prot.disarmed, repeatRec := none }

/-- An intake record that starts again on entry to and exit from REPLAY (R50). -/
def FeederIntake.startAgain (k : FeederIntake) : FeederIntake :=
  { k with lastSeq := none, resumption := true, ring := [] }

/-- The rectifier intake record on entry to and exit from REPLAY (R50). -/
def RectIntake.startAgain (k : RectIntake) : RectIntake :=
  { k with
    lastSeq := none, resumption := true, silence := none, arriving := false, busbarValid := false }

/-- A simulated device with the simulation not running or just started (R184). -/
def FeederUnit.simReset (u : FeederUnit) : FeederUnit :=
  { u with simBreaker := SimDevice.start, simContactor := SimDevice.start }

/-- A feeder's part of the entry to REPLAY: intake and thermal image start again, the positions are the
simulation's, the entry is removed (R50, R67, R98, R159, R184). -/
def FeederUnit.enterReplay (u : FeederUnit) : FeederUnit :=
  { u.simReset with
    intake := u.intake.startAgain
    prot := { u.prot with theta := 0, alarm := false }
    sq := { u.sq with breaker := .opened, contactor := .opened, spring := true }
    entry := none }

/-- A feeder's part of the exit from REPLAY, it being in OUT: intake and thermal image start again, the
positions are unknown, the entry is removed (R50, R67, R98, R159, R184). -/
def FeederUnit.exitReplay (u : FeederUnit) : FeederUnit :=
  { u.simReset with
    intake := u.intake.startAgain
    prot := { u.prot with theta := 0, alarm := false }
    sq := { u.sq with breaker := .unknown, contactor := .unknown, spring := false }
    entry := none }

/-- The group's part of the entry to REPLAY (R142). -/
def RectRec.enterReplay (r : RectRec) : RectRec :=
  { r with
    acPos := .opened
    firing := .healthy
    syncValid := false
    watch := none
    latched := PerFeeder.const false
    testers := PerFeeder.const false }

/-- The group's part of the exit from REPLAY: PARKED with cause REPLAY_END, with no report and no command
(R142). -/
def RectRec.exitReplay (r : RectRec) : RectRec :=
  { r.clearSums with
    state := .parked
    cause := .replayEnd
    faults := FaultCauses.empty
    firstFault := none
    runPending := false
    retryPending := false
    firstCrossingWait := false
    syncValid := false
    missed := 0
    watch := none
    limitHold := 0
    overcurrent := 0
    latched := PerFeeder.const false
    testers := PerFeeder.const false
    acPos := .unknown
    firing := .unknown
    acTimer := none
    acTrip := false }

/-- A feeder in OPEN takes the mirrored state of its position on entry to SHADOW (R97). -/
def mirrorOnEntry (f : FeederId) (s : State) : State :=
  if (s.sq f).state = .opened ∧ (s.sq f).breaker = .closed then
    reportFeederState f .closed .opened (enterClosedComplete f s)
  else s

/-- The group takes its mirrored state on entry to SHADOW, and its AC timer stops, unless it is FAULTED
(R141, log entry 18). -/
def mirrorGroupOnEntry (s : State) : State :=
  if s.rect.state = .faulted then s
  else
    let s1 := s.setRect { s.rect with acTimer := none }
    match s.rect.acPos with
    | .closed => mirrorRunning s1
    | .opened | .travelling | .disagree | .unknown => mirrorParked s1

/-- Entry to SHADOW (R97, R141). -/
def enterShadow (s : State) : State := mirrorGroupOnEntry (forFeeders mirrorOnEntry s)

/-- A mirrored CLOSED feeder becomes CLOSED in SERVICE, and the blind action applies to flags already
set (R97). -/
def mirrorBecomesReal (f : FeederId) (s : State) : State :=
  let r := s.sq f
  if r.state = .closed then
    closedFlags f (s.setSq f { r with reclaim := none, shotCount := 0 })
  else s

/-- The mirrored group becomes real on the change from SHADOW to SERVICE: RUNNING with sync-valid set
stays, RUNNING without it becomes STARTING in its first-crossing wait (R141, log entry 41). -/
def groupBecomesReal (s : State) : State :=
  if s.rect.state = .running ∧ s.rect.syncValid = false then beginCrossingWait (enterStarting s)
  else s

/-- The change from SHADOW to SERVICE (R97, R141). -/
def shadowToService (s : State) : State := forFeeders mirrorBecomesReal (groupBecomesReal s)

/-- The change from SHADOW to CONFIG: a mirrored RUNNING group becomes HOLD (R141). -/
def shadowToConfig (s : State) : State :=
  if s.rect.state = .running then rectMove .hold .rest s else s

/-- Entry to REPLAY (R50, R67, R98, R142, R159, R184). -/
def enterReplay (s : State) : State :=
  { s with
    feeders := s.feeders.map FeederUnit.enterReplay
    rectIntake := s.rectIntake.startAgain
    rect := s.rect.enterReplay
    simAc := SimDevice.start }

/-- Exit from REPLAY (R50, R67, R98, R142, R159, R170, R184). -/
def exitReplay (s : State) : State :=
  let s1 := forFeeders enterOut { s with rect := s.rect.exitReplay }
  { s1 with
    feeders := s1.feeders.map FeederUnit.exitReplay
    rectIntake := s1.rectIntake.startAgain
    simAc := SimDevice.start }

/-- What a transition does beside what every change of mode does (R183). The emergency stop, if it counts
asserted at the changes R191 names, is served after the other effects. -/
def transitionEffects (old new : Mode) (s : State) : State :=
  let again (x : State) : State := if x.estop then serveEstop x else x
  match old, new with
  | .config, .shadow => enterShadow s
  | .config, .replay => enterReplay s
  | .shadow, .service => again (shadowToService s)
  | .shadow, .config => again (shadowToConfig s)
  | .replay, .config => again (exitReplay s)
  | .config, .service | .service, .config => s
  | .config, .config | .service, .service | .shadow, .shadow | .replay, .replay
  | .service, .shadow | .service, .replay | .shadow, .replay | .replay, .service
  | .replay, .shadow => s

/-- Change the device mode (R182, R183): the MODE_CHANGE report, then what the blocks do. -/
def changeMode (new : Mode) (s : State) : State :=
  let old := s.mode
  let s1 :=
    submit .modeChange .device none (some (modeCode new)) (some (modeCode old)) { s with mode := new }
  transitionEffects old new { s1 with feeders := s1.feeders.map FeederUnit.modeChanged }

/-! Warm restart -/

/-- A port after warm restart: as after cold reset, the recovery setting kept and a frame being sent sent
to its end (R18). -/
def PortRec.warm (r : PortRec) : PortRec :=
  { PortRec.cold with recovery := r.recovery, sending := r.sending }

/-- A feeder after warm restart: the dynamic state as after cold reset, the settings, their valid flag
and the section map row kept (R34, R51, R72, R99, R118, R160). -/
def FeederUnit.warm (u : FeederUnit) : FeederUnit :=
  { FeederUnit.cold with row := u.row, valid := u.valid, section_ := u.section_ }

/-- The rectifier record after warm restart (R143). -/
def RectRec.warm (r : RectRec) : RectRec :=
  { r.clearSums with
    runPending := false
    retryPending := false
    limitHold := 0
    overcurrent := 0
    latched := PerFeeder.const false
    testers := PerFeeder.const false }

/-- A tie after warm restart: as after cold reset, the tag counter kept (R160). -/
def TieRec.warm (r : TieRec) : TieRec := { TieRec.cold with tag := r.tag }

/-- Every block takes its warm-restart values, the queued requests are discarded, and RESTART is reported
(R186). -/
def warmRestart (s : State) : State :=
  submit .restart .device none (some 2) none
    { s with
      ports := s.ports.map PortRec.warm
      feeders := s.feeders.map FeederUnit.warm
      rectIntake := RectIntake.fresh
      rect := s.rect.warm
      ties := s.ties.map TieRec.warm
      reports := []
      loss := 0
      slots := PerSlot.const Slot.free
      requests := []
      simAc := SimDevice.start }

/-! Cold reset, key and emergency stop -/

/-- RESET_N counts low: every block takes its cold-reset values and the part stays in reset (R190). The
waiting commands and the free-value counter are the model's own and stay. -/
def coldReset (s : State) : State :=
  { State.reset with pending := s.pending, freeCount := s.freeCount }

/-- The node number in use, from the straps: 63 is taken as 62 (R22, R190). -/
def ownFromStraps (straps : BitVec 6) : BitVec 6 := if straps = 63#6 then 62#6 else straps

/-- The provisional gateway row (R187). -/
def gatewayRow : NodeRow := { unusedRow with role := .gateway, side := .station }

/-- RESET_N counts high: the straps are sampled, the provisional gateway row is written, and RESTART is
reported (R187, R190). -/
def releaseReset (strapRest : RestState) (strapNode : BitVec 6) (s : State) : State :=
  if s.inReset then
    let own := ownFromStraps strapNode
    let gateway : Nat := if own = 1#6 then 2 else 1
    submit .restart .device none (some 1) none
      { s with
        inReset := false
        strapRest := strapRest
        strapNode := strapNode
        ownNode := own
        rest := strapRest
        rect := { s.rect with probeTarget := strapRest }
        nodes := s.nodes.setIfInBounds gateway gatewayRow }
  else s

/-- The KEY input's first counted level: it is the settled position, and is not reported (R178, R190). A
settled key settles no more (log entry 32). -/
def settleKey (pos : KeyPos) (s : State) : State :=
  if s.keySettled then s else { s with key := pos, keySettled := true }

/-- A change of the counted key position (R178): it is reported, and governs later requests. A change
before the first settling is that settling (log entry 32). -/
def changeKey (pos : KeyPos) (s : State) : State :=
  if s.keySettled then
    if pos = s.key then s
    else submit .keyChange .device none (some (keyCode pos)) none { s with key := pos }
  else settleKey pos s

/-- ESTOP_N counts low (R191): feeders and group act, and EMERGENCY is reported with value1 1. A level
already counted is no event (log entry 32). -/
def assertEstop (s : State) : State :=
  if s.estop then s
  else submit .emergency .device none (some 1) none (serveEstop { s with estop := true })

/-- ESTOP_N counts high after an assertion (R191): EMERGENCY is reported with value1 0. -/
def releaseEstop (s : State) : State :=
  if s.estop then submit .emergency .device none (some 0) none { s with estop := false } else s

/-! The simulated plant -/

/-- The recorded position that a simulated position stands for. -/
def SimPos.breaker : SimPos → BreakerPos
  | .opened => .opened
  | .closed => .closed

/-- The recorded contactor position that a simulated position stands for. -/
def SimPos.contactor : SimPos → ContactorPos
  | .opened => .opened
  | .closed => .closed

/-- A simulated device takes its target position (R184). -/
def SimDevice.complete (d : SimDevice) (op : SimOp) : SimDevice :=
  { d with pos := op.target, op := none }

/-- The simulated STATUS of a feeder's breaker unit: its two positions, the spring charged (R184). -/
def simStatus (f : FeederId) (s : State) : State :=
  let u := s.feeder f
  breakerStatus f
    { breaker := u.simBreaker.pos.breaker, contactor := u.simContactor.pos.contactor, spring := true }
    s

/-- A simulated device's timer runs out: it takes its target, and a simulated STATUS is delivered
(R184). -/
def simComplete (d : SimDeviceId) (s : State) : State :=
  match d with
  | .breaker f =>
    let u := s.feeder f
    match u.simBreaker.op with
    | some op => simStatus f (s.setFeeder f { u with simBreaker := u.simBreaker.complete op })
    | none => s
  | .contactor f =>
    let u := s.feeder f
    match u.simContactor.op with
    | some op => simStatus f (s.setFeeder f { u with simContactor := u.simContactor.complete op })
    | none => s
  | .acBreaker =>
    match s.simAc.op with
    | some op =>
      let d := s.simAc.complete op
      acStatus d.pos.breaker { s with simAc := d }
    | none => s

end Sys2Proof.Machine
end

