-- ==== Sys2Proof/Machine/Rows.lean ====
section
/-! DEFINITION. The settings tables (section 10.3): rounding, ranges and cross-checks of written rows
(R10, R20, R54, R119, R144, R167, R180), and what an accepted write does (R21, R34, R49, R179). -/

namespace Sys2Proof.Machine

/-- Whether a number lies in a range that includes both ends. -/
def within (lo hi n : Nat) : Bool := decide (lo ≤ n) && decide (n ≤ hi)

/-- Round a time in milliseconds down to a resolution (R180). -/
def roundDown (res n : Nat) : Nat := n / res * res

/-! NODE -/

/-- Roles that serve one feeder (R20). -/
def bindsFeeder : Role → Bool
  | .feederMu | .breaker => true
  | .unused | .rectMu | .acBreaker | .firing | .panel | .gateway => false

/-- Whether two stored rows could not stand together: two measuring or breaker units of one feeder, or
two rows of a group role (R20). -/
def rowsClash (a b : NodeRow) : Bool :=
  a.role == b.role && a.role != .unused && (!bindsFeeder a.role || a.binding == b.binding)

/-- Role and binding agree (R20). -/
def bindingOk (r : NodeRow) : Bool := r.binding.isSome == bindsFeeder r.role

/-- Role and side agree (R20). -/
def sideOk (r : NodeRow) : Bool :=
  match r.role with
  | .gateway => r.side == .station
  | .unused => true
  | .feederMu | .rectMu | .breaker | .acBreaker | .firing | .panel => r.side == .field

/-- Whether any pass flag is set. -/
def passesAny (r : NodeRow) : Bool :=
  r.downCommand || r.downManage || r.upStatus || r.upReply || r.upReport

/-- Role and pass sets agree (R20). -/
def passOk (r : NodeRow) : Bool :=
  match r.role with
  | .unused | .gateway => !passesAny r
  | .breaker | .acBreaker | .firing => !r.downCommand
  | .feederMu | .rectMu | .panel => true

/-- The value checks of a node row write (R20). -/
def nodeRowOk (s : State) (row : Nat) (w : RowWrite NodeRow) : Bool :=
  !w.outOfSet && row != 63 && row != s.ownNode.toNat && bindingOk w.value && sideOk w.value
    && passOk w.value
    && nodeNumbers.all fun n => n == row || !rowsClash w.value (s.nodeRow (BitVec.ofNat 8 n))

/-- The feeder bindings that a row stands for: its role and feeder, for a measuring or breaker unit. -/
def boundAs (r : NodeRow) : Option (Role × FeederId) :=
  if bindsFeeder r.role then r.binding.map fun f => (r.role, f) else none

/-- The bindings that a write changes: the old one removed and the new one added, unless they are the
same (R21). -/
def changedBindings (old new : NodeRow) : List (Role × FeederId) :=
  if boundAs old = boundAs new then [] else (boundAs old).toList ++ (boundAs new).toList

/-- The state check of a node row write: every feeder whose binding changes is OUT (R21). -/
def bindingsFree (s : State) (old new : NodeRow) : Bool :=
  (changedBindings old new).all fun x => (s.sq x.2).state == .out

/-- The effect of a changed binding on its feeder (R21, R34, R42). -/
def bindingChanged (x : Role × FeederId) (s : State) : State :=
  let u := s.feeder x.2
  if x.1 = .feederMu then s.setFeeder x.2 { u with intake := FeederIntake.fresh, decim := 0 }
  else
    s.setFeeder x.2
      { u with sq := { u.sq with breaker := .unknown, contactor := .unknown, spring := false } }

/-- The rectifier intake record after a change of the RECT_MU binding: the latest values are kept
(R49). -/
def RectIntake.rebound (k : RectIntake) : RectIntake :=
  { k with
    lastSeq := none, resumption := true, carry := 0, faultOnset := false, busbarValid := false
    timeSet := false, prevStamp := none, silence := none, arriving := false }

/-- Whether a write adds, moves or removes the row of a group role (R21). -/
def groupRoleChanged (role : Role) (old new : NodeRow) : Bool :=
  (old.role == role) != (new.role == role)

/-- The effects of a changed RECT_MU, AC_BREAKER or FIRING row (R21, R49). -/
def groupRowChanged (old new : NodeRow) (s : State) : State :=
  let s1 :=
    if groupRoleChanged .rectMu old new then s.setRectIntake s.rectIntake.rebound else s
  let s2 :=
    if groupRoleChanged .acBreaker old new then s1.setRect { s1.rect with acPos := .unknown } else s1
  if groupRoleChanged .firing old new then s2.setRect { s2.rect with firing := .unknown } else s2

/-- A row as stored: an UNUSED row is stored with side FIELD (R20). -/
def storedRow (r : NodeRow) : NodeRow := if r.role = .unused then { r with side := .field } else r

/-- Store a node row, with the effects of the bindings it changes (R20, R21). -/
def writeNode (row : Nat) (new : NodeRow) (s : State) : State :=
  let old := s.nodeRow (BitVec.ofNat 8 row)
  let s1 := { s with nodes := s.nodes.setIfInBounds row (storedRow new) }
  groupRowChanged old new ((changedBindings old new).foldl (fun st x => bindingChanged x st) s1)

/-! FEEDER -/

/-- A FEEDER row with its time fields rounded down (R180): the dead times and t_follow to 10 ms,
t_reclaim to 1 s, the others being whole milliseconds. -/
def roundFeeder (r : FeederRow) : FeederRow :=
  { r with
    brk := { r.brk with tReclaim := roundDown 1000 r.brk.tReclaim }
    test :=
      { r.test with
        dead1 := roundDown 10 r.test.dead1
        dead2 := roundDown 10 r.test.dead2
        dead3 := roundDown 10 r.test.dead3
        tFollow := roundDown 10 r.test.tFollow } }

/-- The ranges of the intake settings (section 3.1, R33). -/
def intakeOk (r : IntakeSettings) : Bool :=
  within 2 100 r.tBlind && within 10 5000 r.iRippleMin && (r.wF == 32 || r.wF == 512)
    && within 0 200 r.decimation

/-- The ranges and cross-checks of the protection settings (section 4.1, R54). -/
def protOk (r : ProtSettings) : Bool :=
  within 500 32000 r.iIoc && within 1 4 r.c && within 20 4000 r.sStart && decide (r.sEnd < r.sStart)
    && within 1 8 r.e && within 200 30000 r.dISet && within 1 200 r.dMin && within 1 400 r.dMax
    && decide (r.dMin < r.dMax) && within 8 24 r.k && within 16 32767 r.iReclose
    && within 16 32767 r.iAlarm && within 16 32767 r.iTrip && decide (r.iReclose < r.iAlarm)
    && decide (r.iAlarm ≤ r.iTrip)

/-- The ranges of the breaker settings, in milliseconds (section 5.1). -/
def breakerOk (r : BreakerSettings) : Bool :=
  within 20 500 r.tOpenMax && within 50 1000 r.tCloseMax && within 100 2000 r.tSotf
    && within 1000 300000 r.tReclaim

/-- The ranges and the cross-check of the reclosing and test settings (section 6.1). -/
def testOk (r : TestSettings) : Bool :=
  within 1 3 r.shots && within 100 60000 r.dead1 && within 100 60000 r.dead2
    && within 100 60000 r.dead3 && within 1000 120000 r.tFollow && within 20 400 r.wSettle
    && within 0 1023 r.rLive && within 0 1023 r.rShort && within 0 1023 r.rLoad
    && decide (r.rShort < r.rLoad) && within 200 900 r.ubMinTest

/-- The value checks of a FEEDER row, as rounded (R54, R180). -/
def feederRowOk (r : FeederRow) : Bool :=
  intakeOk r.intake && protOk r.prot && breakerOk r.brk && testOk r.test

/-- The intake record under the reclose policy of a FEEDER row just written: under LATCH the clearing
count stays at 0 (R46). -/
def FeederIntake.underPolicy (policy : Policy) (k : FeederIntake) : FeederIntake :=
  match policy with
  | .latch => { k with clearingCount := 0 }
  | .auto => k

/-- Store a FEEDER row: settings-valid is set and the decimation count is 0 (R34, R179), and a clearing
count begun under AUTO ends under LATCH (R46). -/
def writeFeeder (f : FeederId) (r : FeederRow) (s : State) : State :=
  let u := s.feeder f
  s.setFeeder f
    { u with row := r, valid := true, decim := 0, intake := u.intake.underPolicy r.intake.policy }

/-! RECT, SECTION, PORT and REPORT -/

/-- The ranges and cross-checks of the RECT row (Table 7-2, R119). -/
def rectRowOk (r : RectRow) : Bool :=
  (r.freq == 50 || r.freq == 60) && within 600 900 r.uSet && within 0 50 r.db
    && within 0 300 r.alphaMin && within 300 1500 r.alphaMax && decide (r.alphaMin < r.alphaMax)
    && within 1 50 r.alphaStep && within 10 300 r.alphaClStep && within 1 16 r.h
    && within 500 12000 r.iLim && within r.iLim 20000 r.iRectTrip && within 1 4 r.cRect
    && within 1 500 r.j && within 40 120 r.tWarn && within (r.tWarn + 5) 130 r.tTrip
    && within 2 20 r.hysteresis && within 400 700 r.uWake

/-- The state check of a RECT write: a change of the mains frequency needs the group PARKED or FAULTED
(R119). -/
def rectWriteBlocked (s : State) (r : RectRow) : Bool :=
  r.freq != s.rectRow.freq && !(s.rect.state == .parked || s.rect.state == .faulted)

/-- Store a RECT row (R119): settings-valid is set, a changed frequency sets T to its nominal period and
clears sync-valid, and α is clamped. -/
def writeRect (r : RectRow) (s : State) : State :=
  let q := s.rect
  let changed := r.freq != s.rectRow.freq
  { s with
    rectRow := r
    rectValid := true
    rect :=
      { q with
        t := if changed then nominalPeriod r else q.t
        syncValid := if changed then false else q.syncValid
        alpha := clampAlpha r q.alpha } }

/-- The value checks of a SECTION row write for a feeder (R144). -/
def sectionOk (s : State) (f : FeederId) (w : RowWrite SectionRow) : Bool :=
  !w.outOfSet && decide (w.value.sectionId ≤ 255)
    && FeederId.all.all fun g =>
      g == f || w.value.tie.isNone || (s.feeder g).section_.tie != w.value.tie
        || (s.feeder g).section_.sectionId != w.value.sectionId

/-- The state check of a SECTION row write: a feeder with an outstanding entry keeps its tie and section
id (R144). -/
def sectionBlocked (s : State) (f : FeederId) (r : SectionRow) : Bool :=
  let u := s.feeder f
  u.entry.isSome && (r.tie != u.section_.tie || r.sectionId != u.section_.sectionId)

/-- Store a SECTION row (R144). -/
def writeSection (f : FeederId) (r : SectionRow) (s : State) : State :=
  s.setFeeder f { s.feeder f with section_ := r }

/-- The port of a PORT row number (Table 10-3). -/
def portOfRow (row : Nat) : Option Port :=
  if row = 0 then some .fp else if row = 1 then some .sp else if row = 2 then some .ta
  else if row = 3 then some .tb else none

/-- The value checks of a PORT row write: the station port stays AUTO (R10). -/
def portRowOk (p : Port) (w : RowWrite Recovery) : Bool :=
  !w.outOfSet && !(p == .sp && w.value == .manual)

/-- Store a PORT row (R10): MANUAL changed to AUTO returns a LOST port whose recovery count is held to
GOOD. -/
def writePort (p : Port) (v : Recovery) (s : State) : State :=
  let r := s.port p
  let s1 := s.setPort p { r with recovery := v }
  if r.recovery = .manual ∧ v = .auto ∧ r.state = .lost ∧ r.recoveryCount = 128 then recoverPort p s1
  else s1

/-- The ranges of the REPORT row (R167). -/
def reportRowOk (r : ReportRow) : Bool :=
  within 1 4 r.level && within 1 50 r.batchTimeout && within 10 200 r.replayTime

end Sys2Proof.Machine
end

