-- ==== Sys2Proof/Machine/Views.lean ====
section
/-! DEFINITION. What READ_RECORD and CAPTURE_READ return (R17, R72, R73, R117, R120, R160, R172, R173,
R181). -/

namespace Sys2Proof.Machine

/-- READ_RECORD FEEDER: the feeder record with protection, test and intake state, and the thresholds of
θ (R72, R73, R117, R181; log entry 35). -/
def feederView (s : State) (f : FeederId) : FeederView :=
  let u := s.feeder f
  { sq := u.sq
    prot := u.prot
    intake := u.intake
    valid := u.valid
    thetaReclose := thetaOf u.row.prot.iReclose
    thetaAlarm := thetaOf u.row.prot.iAlarm
    thetaTrip := thetaOf u.row.prot.iTrip }

/-- READ_RECORD RECT: the record, the settings in force and the rest state (R120). -/
def rectView (s : State) : RectView where
  record := s.rect
  row := s.rectRow
  valid := s.rectValid
  rest := s.rest

/-- READ_RECORD PORT (R17). -/
def portView (s : State) (p : Port) : PortView :=
  let r := s.port p
  { state := r.state
    recovery := r.recovery
    errorCount := r.errorCount
    recoveryCount := r.recoveryCount
    lastError := r.lastError
    rejected := r.rejected
    forwardedDrop := r.forwardedDrop
    urgentOccupancy := r.urgent.length
    normalOccupancy := r.normal.length
    nextSeq := r.nextSeq }

/-- READ_RECORD TIE: the link record, the outstanding entries on the tie and the repeat records of the
feeders mapped to it (R160). -/
def tieView (s : State) (t : Tie) : TieView where
  link := s.tie t
  entries :=
    FeederId.all.filterMap fun f =>
      match (s.feeder f).entry with
      | some e => if e.tie = t then some (f, e) else none
      | none => none
  repeats :=
    FeederId.all.filterMap fun f =>
      if sectionTie s f = some t then some (f, (s.feeder f).repeatRec) else none

/-- The next position of a slot: its positions filled so far (section 9.4). -/
def slotView (c : Slot) : SlotView where
  state := c.state
  feeder := c.feeder
  trigger := c.trigger
  nextPosition := c.positions.length

/-- READ_RECORD DEVICE (R173, R181, R190). -/
def deviceView (s : State) : DeviceView where
  mode := s.mode
  key := s.key
  estop := s.estop
  strapRest := s.strapRest
  strapNode := s.strapNode
  ownNode := s.ownNode
  time := s.time
  timeValid := s.timeValid
  queuedRequests := s.requests.length
  queuedReports := s.reports.length
  loss := s.loss
  slots :=
    { s0 := slotView s.slots.s0, s1 := slotView s.slots.s1, s2 := slotView s.slots.s2
      s3 := slotView s.slots.s3 }

/-- A position of a slot as a reply carries it: an absent one carries zeros in its three fields, with
its presence flag clear (R172). -/
def positionView : Option Point → PositionView
  | some p => { present := true, i := p.i, u := p.u, ub := p.ub }
  | none => { present := false, i := 0, u := 0, ub := 0 }

/-- Part `part` of the readout of a segment of a slot: four positions, and in part 0 the slot's feeder,
trigger kind, trigger time and time-valid flag (R172). -/
def capturePart (c : Slot) (slot segment part : Nat) : ReplyBody :=
  .capturePart slot segment
    (((c.positions.drop (16 * segment + 4 * part)).take 4).map positionView)
    (if part = 0 then
      some
        { feeder := c.feeder, trigger := c.trigger, time := c.time, timeValid := c.timeValid }
    else none)

end Sys2Proof.Machine
end

