-- ==== Sys2Proof/Machine/Manage.lean ====
section
/-! DEFINITION. The management agent (chapter 10): the taking of a request from the queue (R176), the
order of its checks (R175), authority (R177), the several parts of a reply (R181), and the requests
themselves. -/

namespace Sys2Proof.Machine

/-! Taking and checking -/

/-- The taking of a request (R176): a request that stands at the head of the queue leaves it. A request
command that is not the queue's head is served directly (log entry 11). -/
def takeRequest (k : Ticket) (r : Request) (s : State) : State :=
  match s.requests with
  | q :: rest => if q.ticket = k ∧ q.request = r then { s with requests := rest } else s
  | [] => s

/-- The status of the first check that fails, in order (R175). -/
def firstRefusal : List (Bool × Status) → Option Status
  | [] => none
  | (bad, status) :: rest => if bad then some status else firstRefusal rest

/-- Serve a checked request: a refused one changes nothing and is answered with the status of the first
check that fails; an accepted one takes its effect and is answered DONE (R175). -/
def checked (k : Ticket) (type : RequestType) (checks : List (Bool × Status))
    (effect : State → State) (s : State) : State :=
  match firstRefusal checks with
  | some status => answer k type status s
  | none => answer k type .done (effect s)

/-- The authority check of a request for the station source alone (R177). -/
def stationOnly (k : Ticket) : Bool × Status := (k.source != .fromStation, .refusedAuthority)

/-- The authority check of a request that follows the key (R177). -/
def byKey (k : Ticket) (s : State) : Bool × Status :=
  ((match s.key, k.source with
    | .atRemote, .fromStation => false
    | .atLocal, .fromPanel => false
    | .atRemote, .fromPanel => true
    | .atLocal, .fromStation => true), .refusedAuthority)

/-- A reply of one frame or of several, in part order, each taken from the record as it stood (R181). How
many frames a result takes is a free value (log entry 8). -/
def answerBody (k : Ticket) (type : RequestType) (body : ReplyBody) (s : State) : State :=
  let parts := 1 + Config.extraParts body
  (List.range parts).foldl (fun st n => sendReply k type .done n parts body st) s

/-! Reads (R181) -/

/-- A row number of a table with rows 0 only. -/
def serveReadSingle (k : Ticket) (row : Nat) (body : ReplyBody) (s : State) : State :=
  if row = 0 then answerBody k .readRow body s else answer k .readRow .badRow s

/-- READ_ROW NODE (R19). -/
def serveReadNode (k : Ticket) (row : Nat) (s : State) : State :=
  if row ≤ 63 then answerBody k .readRow (.nodeRow (s.nodeRow (BitVec.ofNat 8 row))) s
  else answer k .readRow .badRow s

/-- READ_ROW FEEDER (R181, R187). -/
def serveReadFeederRow (k : Ticket) (row : Nat) (s : State) : State :=
  match FeederId.ofNum row with
  | some f => answerBody k .readRow (.feederRow (s.feeder f).row (s.feeder f).valid) s
  | none => answer k .readRow .badRow s

/-- READ_ROW RECT (R181, R187). -/
def serveReadRectRow (k : Ticket) (row : Nat) (s : State) : State :=
  serveReadSingle k row (.rectRow s.rectRow s.rectValid) s

/-- READ_ROW SECTION (R144). -/
def serveReadSection (k : Ticket) (row : Nat) (s : State) : State :=
  match FeederId.ofNum row with
  | some f => answerBody k .readRow (.sectionRow (s.feeder f).section_) s
  | none => answer k .readRow .badRow s

/-- READ_ROW PORT (R181). -/
def serveReadPortRow (k : Ticket) (row : Nat) (s : State) : State :=
  match portOfRow row with
  | some p => answerBody k .readRow (.portRow (s.port p).recovery) s
  | none => answer k .readRow .badRow s

/-- READ_ROW REPORT (R167). -/
def serveReadReport (k : Ticket) (row : Nat) (s : State) : State :=
  serveReadSingle k row (.reportRow s.reportRow) s

/-- READ_RECORD FEEDER (R73, R181). -/
def serveReadFeeder (k : Ticket) (n : Nat) (s : State) : State :=
  match FeederId.ofNum n with
  | some f => answerBody k .readRecord (.feederRecord (feederView s f)) s
  | none => answer k .readRecord .badValue s

/-- READ_RECORD RECT (R120). -/
def serveReadRect (k : Ticket) (s : State) : State :=
  answerBody k .readRecord (.rectRecord (rectView s)) s

/-- READ_RECORD PORT (R17, R181). -/
def serveReadPort (k : Ticket) (p : Option Port) (s : State) : State :=
  match p with
  | some p => answerBody k .readRecord (.portRecord (portView s p)) s
  | none => answer k .readRecord .badValue s

/-- READ_RECORD TIE (R160, R181). -/
def serveReadTie (k : Ticket) (t : Option Tie) (s : State) : State :=
  match t with
  | some t => answerBody k .readRecord (.tieRecord (tieView s t)) s
  | none => answer k .readRecord .badValue s

/-- READ_RECORD DEVICE (R173, R181). -/
def serveReadDevice (k : Ticket) (s : State) : State :=
  answerBody k .readRecord (.deviceRecord (deviceView s)) s

/-! Writes (R179, R180) -/

/-- The mode check of a write that is made in CONFIG alone (R179). -/
def configOnly (s : State) : Bool × Status := (s.mode != .config, .refusedMode)

/-- WRITE_ROW NODE (R20, R21). -/
def serveWriteNode (k : Ticket) (row : Nat) (w : RowWrite NodeRow) (s : State) : State :=
  checked k .writeRow
    [stationOnly k, configOnly s, (decide (63 < row), .badRow), (!nodeRowOk s row w, .badValue),
      (!bindingsFree s (s.nodeRow (BitVec.ofNat 8 row)) w.value, .refusedState)]
    (writeNode row w.value) s

/-- WRITE_ROW FEEDER (R179, R180). -/
def serveWriteFeeder (k : Ticket) (row : Nat) (w : RowWrite FeederRow) (s : State) : State :=
  match FeederId.ofNum row with
  | some f =>
    checked k .writeRow
      [stationOnly k, (w.outOfSet || !feederRowOk (roundFeeder w.value), .badValue),
        ((s.sq f).state != .out, .refusedState)]
      (writeFeeder f (roundFeeder w.value)) s
  | none => checked k .writeRow [stationOnly k, (true, .badRow)] id s

/-- WRITE_ROW RECT (R119). -/
def serveWriteRect (k : Ticket) (row : Nat) (w : RowWrite RectRow) (s : State) : State :=
  checked k .writeRow
    [stationOnly k, configOnly s, (row != 0, .badRow),
      (w.outOfSet || !rectRowOk w.value, .badValue),
      (rectWriteBlocked s w.value, .refusedState)]
    (writeRect w.value) s

/-- WRITE_ROW SECTION (R144). -/
def serveWriteSection (k : Ticket) (row : Nat) (w : RowWrite SectionRow) (s : State) : State :=
  match FeederId.ofNum row with
  | some f =>
    checked k .writeRow
      [stationOnly k, configOnly s, (!sectionOk s f w, .badValue),
        (sectionBlocked s f w.value, .refusedState)]
      (writeSection f w.value) s
  | none => checked k .writeRow [stationOnly k, configOnly s, (true, .badRow)] id s

/-- WRITE_ROW PORT (R10). -/
def serveWritePort (k : Ticket) (row : Nat) (w : RowWrite Recovery) (s : State) : State :=
  match portOfRow row with
  | some p =>
    checked k .writeRow [stationOnly k, configOnly s, (!portRowOk p w, .badValue)]
      (writePort p w.value) s
  | none => checked k .writeRow [stationOnly k, configOnly s, (true, .badRow)] id s

/-- WRITE_ROW REPORT (R167): the conditions of R165 are read against the new row from then on. -/
def serveWriteReport (k : Ticket) (row : Nat) (w : RowWrite ReportRow) (s : State) : State :=
  checked k .writeRow
    [stationOnly k, (row != 0, .badRow), (w.outOfSet || !reportRowOk w.value, .badValue)]
    (fun st => { st with reportRow := w.value }) s

/-! Feeder commands (R77 to R82) -/

/-- The mode check of a feeder command that SHADOW refuses (R77). -/
def notShadow (s : State) : Bool × Status := (s.mode == .shadow, .refusedMode)

/-- A feeder command, its feeder number checked first (R77). -/
def feederCommand (k : Ticket) (n : Nat) (checks : FeederId → List (Bool × Status))
    (effect : FeederId → State → State) (s : State) : State :=
  match FeederId.ofNum n with
  | some f => checked k .feederCmd (checks f) (effect f) s
  | none => answer k .feederCmd .badValue s

/-- The state checks of IN_SERVICE (R78). -/
def inServiceOk (s : State) (f : FeederId) : Bool :=
  let u := s.feeder f
  u.sq.state == .out && u.valid
    && (findNode s .feederMu (some f)).isSome && (findNode s .breaker (some f)).isSome
    && (u.sq.breaker == .opened || u.sq.breaker == .closed)
    && !(s.mode == .config && u.sq.breaker == .closed)

/-- The record as IN_SERVICE clears it (R78). -/
def FeederRec.clearedForService (r : FeederRec) : FeederRec :=
  { r with
    shotCount := 0
    sotfMark := false
    intertripFailed := false
    openRequested := false
    shotTaken := false
    pendingTest := false
    farClear := false }

/-- Start a feeder's blind timer with t_blind (R43). -/
def startBlindTimer (f : FeederId) (s : State) : State :=
  let u := s.feeder f
  s.setIntake f { u.intake with blindTimer := some (ms u.row.intake.tBlind) }

/-- IN_SERVICE, accepted (R78). -/
def serveInService (f : FeederId) (s : State) : State :=
  let s1 := startBlindTimer f (s.setSq f (s.sq f).clearedForService)
  if (s1.sq f).breaker = .closed then
    closedFlags f (reportFeederState f .closed .out (enterClosedComplete f s1))
  else reportFeederState f .opened .out (enterState f .opened none s1)

/-- The state check of OUT_OF_SERVICE (R79). -/
def outOfServiceOk (r : FeederRec) : Bool :=
  r.state == .opened || (r.state == .lockout && r.lockoutCause != some .breakerFailure)

/-- OUT_OF_SERVICE, accepted (R79). -/
def serveOutOfService (f : FeederId) (s : State) : State :=
  reportFeederState f .out (s.sq f).state (enterOut f s)

/-- Rectifier states in which CLOSE is accepted (R80). -/
def RectState.supplies : RectState → Bool
  | .running | .probe | .hold => true
  | .parked | .starting | .faulted => false

/-- The state checks of CLOSE (R80). -/
def closeOk (s : State) (f : FeederId) : Bool :=
  let r := s.sq f
  r.state == .opened && !s.estop && r.spring && r.breaker == .opened && r.contactor == .opened
    && !r.blind && !r.frozen && decide ((s.feeder f).prot.theta ≤ thetaReclose s f)
    && s.rect.state.supplies

/-- OPEN in CLOSED and CLOSING (R81). -/
def openRunning (f : FeederId) (s : State) : State :=
  let old := (s.sq f).state
  let s1 := enterState f .opening none (offerSeq (.breaker f .opened) s)
  reportFeederState f .opening old
    (s1.setSq f
      { s1.sq f with
        closeTimer := none
        sotf := none
        reclaim := none
        shotCount := 0
        openTimer := some (ms (s1.feeder f).row.brk.tOpenMax) })

/-- OPEN in DEAD_TIME cancels the sequence (R81). -/
def openDeadTime (f : FeederId) (s : State) : State :=
  reportFeederState f .opened .deadTime
    (enterState f .opened none (s.setSq f { s.sq f with shotCount := 0 }))

/-- OPEN in TESTING aborts the test (R81): the feeder enters OPEN at once on a contactor OPEN, else it
waits for the contactor with the close timer and the open-requested mark. -/
def openTesting (f : FeederId) (s : State) : State :=
  let s1 := abortForGood f .opened s
  let r := s1.sq f
  if r.contactor = .opened then
    reportFeederState f .opened .testing
      (enterState f .opened none (s1.setSq f { r with shotCount := 0 }))
  else
    startCloseTimer f (s1.setSq f { r with openRequested := true, test := r.test.ended })

/-- OPEN in SHADOW: for a feeder mirrored CLOSED, OPEN is offered and the feeder stays (R75, R81). -/
def openShadow (f : FeederId) (s : State) : State :=
  if (s.sq f).state = .closed then offerField (.breaker f .opened) s else s

/-- OPEN, by state (R81). -/
def serveOpen (f : FeederId) (s : State) : State :=
  if s.mode = .shadow then openShadow f s
  else
    let r := s.sq f
    match r.state with
    | .closed | .closing => openRunning f s
    | .deadTime => openDeadTime f s
    | .testing => if r.openRequested then s else openTesting f s
    | .out | .opened | .opening | .tripping | .lockout => s

/-- The state check of RESET_LOCKOUT (R82). -/
def resetLockoutOk (r : FeederRec) : Bool := r.state == .lockout && r.breaker == .opened

/-- RESET_LOCKOUT, accepted (R46, R82): FROZEN is cleared without a report, the marks are cleared, and
the feeder enters OPEN, which releases the trip line. -/
def serveResetLockout (f : FeederId) (s : State) : State :=
  let u := s.feeder f
  let s1 :=
    s.setFeeder f
      { u with
        intake := { u.intake with clearingCount := 0 }
        sq := { u.sq with frozen := false, shotCount := 0, sotfMark := false, shotTaken := false } }
  reportFeederState f .opened .lockout (enterState f .opened none s1)

/-- FEEDER_CMD IN_SERVICE (R77, R78). -/
def requestInService (k : Ticket) (n : Nat) (s : State) : State :=
  feederCommand k n (fun f => [byKey k s, notShadow s, (!inServiceOk s f, .refusedState)])
    serveInService s

/-- FEEDER_CMD OUT_OF_SERVICE (R77, R79). -/
def requestOutOfService (k : Ticket) (n : Nat) (s : State) : State :=
  feederCommand k n (fun f => [byKey k s, notShadow s, (!outOfServiceOk (s.sq f), .refusedState)])
    serveOutOfService s

/-- FEEDER_CMD CLOSE (R77, R80). -/
def requestClose (k : Ticket) (n : Nat) (s : State) : State :=
  feederCommand k n
    (fun f => [byKey k s, notShadow s, (s.mode == .config, .refusedMode), (!closeOk s f, .refusedState)])
    manualRequest s

/-- FEEDER_CMD OPEN (R77, R81). -/
def requestOpen (k : Ticket) (n : Nat) (s : State) : State :=
  feederCommand k n (fun _ => []) serveOpen s

/-- FEEDER_CMD RESET_LOCKOUT (R77, R82). -/
def requestResetLockout (k : Ticket) (n : Nat) (s : State) : State :=
  feederCommand k n (fun f => [byKey k s, notShadow s, (!resetLockoutOk (s.sq f), .refusedState)])
    serveResetLockout s

/-! Rectifier commands (R121 to R123) -/

/-- RECT_CMD RUN (R121). -/
def requestRun (k : Ticket) (s : State) : State :=
  checked k .rectCmd
    [byKey k s, notShadow s, (s.mode == .config, .refusedMode), (runRefused s, .refusedState)]
    serveRun s

/-- RECT_CMD REST (R122). -/
def requestRest (k : Ticket) (s : State) : State :=
  checked k .rectCmd [byKey k s, notShadow s, (s.rect.state == .faulted, .refusedState)] serveRest s

/-- RECT_CMD RESET (R123). -/
def requestReset (k : Ticket) (s : State) : State :=
  checked k .rectCmd [byKey k s, notShadow s, (resetRefused s, .refusedState)] serveReset s

/-! The device -/

/-- SET_MODE (R182): a mode outside the four is refused; the mode in force is answered DONE with no
effect; else the transition is checked. -/
def requestMode (k : Ticket) (m : Option Mode) (s : State) : State :=
  match m with
  | none => checked k .setMode [stationOnly k, (true, .badValue)] id s
  | some new =>
    if new = s.mode then checked k .setMode [stationOnly k] id s
    else
      checked k .setMode
        [stationOnly k, ((transitionAllowed s new).isNone, .refusedMode),
          (transitionAllowed s new == some false, .refusedState)]
        (changeMode new) s

/-- A new station time, handed to the blocks that hold station times (R48, R125, R188). A SET_TIME that
writes the present time only sets time-valid: the time-set marker stays (R188's last words, log entry
48). -/
def setTime (t : Stamp) (s : State) : State :=
  if t = s.time then { s with timeValid := true }
  else
    let s1 := moveReference s.time t s
    { s1 with
      time := t
      timeValid := true
      rectIntake := { s1.rectIntake with timeSet := true } }

/-- SET_TIME (R188). -/
def requestTime (k : Ticket) (t : Nat) (s : State) : State :=
  checked k .setTime [stationOnly k, (decide (2 ^ 48 ≤ t), .badValue)] (setTime (BitVec.ofNat 48 t)) s

/-- PORT_RECOVER (R9). -/
def requestRecover (k : Ticket) (p : Option Port) (s : State) : State :=
  match p with
  | none => checked k .portRecover [stationOnly k, (true, .badValue)] id s
  | some p =>
    let r := s.port p
    checked k .portRecover
      [stationOnly k, (!(r.state == .lost && r.recoveryCount == 128), .refusedState)]
      (recoverPort p) s

/-- Whether a warm restart is refused: a feeder TRIPPING or in a BREAKER_FAILURE lockout (R99, R186). -/
def restartBlocked (s : State) : Bool :=
  !allFeeders s fun r =>
    r.state != .tripping && !(r.state == .lockout && r.lockoutCause == some .breakerFailure)

/-- RESTART (R186). -/
def requestRestart (k : Ticket) (s : State) : State :=
  checked k .restart [stationOnly k, configOnly s, (restartBlocked s, .refusedState)] warmRestart s

/-! Captures (R171 to R173) -/

/-- Answer a capture trigger: DONE with the slot that took or absorbed it, REFUSED_STATE when it is lost
(R171). -/
def answerTrigger (k : Ticket) (x : Triggered) (s : State) : State :=
  match x with
  | .took slot | .absorbed slot =>
    sendReply k .captureStart .done 0 1 (.captureSlot slot.num) s
  | .lost => answer k .captureStart .refusedState s

/-- CAPTURE_START (R171). -/
def requestCapture (k : Ticket) (n : Nat) (s : State) : State :=
  match firstRefusal [stationOnly k], FeederId.ofNum n with
  | some status, _ => answer k .captureStart status s
  | none, none => answer k .captureStart .badValue s
  | none, some f => answerTrigger k (triggerOutcome s f) (trigger f .manual s)

/-- The four parts of a capture readout, in part order (R172). -/
def answerCapture (k : Ticket) (c : Slot) (slot segment : Nat) (s : State) : State :=
  [0, 1, 2, 3].foldl
    (fun st part => sendReply k .captureRead .done part 4 (capturePart c slot segment part) st) s

/-- CAPTURE_READ (R172). -/
def requestCaptureRead (k : Ticket) (slot segment : Nat) (s : State) : State :=
  match firstRefusal [stationOnly k, (decide (31 < segment), .badValue)], SlotId.ofNum slot with
  | some status, _ => answer k .captureRead status s
  | none, none => answer k .captureRead .badValue s
  | none, some id =>
    let c := s.slots.get id
    match c.state with
    | .filling => answer k .captureRead .busy s
    | .free => answer k .captureRead .refusedState s
    | .ready => answerCapture k c slot segment s

/-- CAPTURE_RELEASE (R173). -/
def requestCaptureRelease (k : Ticket) (slot : Nat) (s : State) : State :=
  match SlotId.ofNum slot with
  | none => checked k .captureRelease [stationOnly k, (true, .badValue)] id s
  | some id =>
    let c := s.slots.get id
    checked k .captureRelease
      [stationOnly k, (c.state == .filling, .busy), (c.state == .free, .refusedState)]
      (fun st => st.setSlot id Slot.free) s

/-! INJECT and bad requests -/

/-- What an INJECT payload is for the node it names: a sample of its feeder, a sample of the rectifier
unit, or a bad value (R50, R185). -/
def injection (s : State) (node : Nat) (payload : List Byte) : Option (State → State) :=
  if 62 < node then none
  else
    let row := s.nodeRow (BitVec.ofNat 8 node)
    match row.role, row.binding with
    | .feederMu, some f => (readFeederSample payload).map (injectFeeder f)
    | .rectMu, _ => (readRectSample payload).map injectRect
    | _, _ => none

/-- INJECT (R185). -/
def requestInject (k : Ticket) (node : Nat) (payload : List Byte) (s : State) : State :=
  let x := injection s node payload
  checked k .inject
    [stationOnly k, (s.mode != .replay, .refusedMode), (x.isNone, .badValue)] (x.getD id) s

/-- The answer to a request that no other command serves: an unknown type or wrong length, whose type
byte is echoed (R175), an unknown table (R175, R179), and an unknown record or action (R77, R175, R181;
log entry 37). -/
def requestBad (k : Ticket) (why : BadRequest) (s : State) : State :=
  match why with
  | .malformed type => answer k (.asReceived type) .badRequest s
  | .unknownReadTable => answer k .readRow .badTable s
  | .unknownWriteTable => answer k .writeRow .badTable s
  | .unknownRecord => answer k .readRecord .badValue s
  | .unknownFeederAction _ => answer k .feederCmd .badValue s
  | .unknownRectAction => checked k .rectCmd [byKey k s, notShadow s, (true, .badValue)] id s

end Sys2Proof.Machine
end

