-- ==== Sys2Proof/Machine/Reports.lean ====
section
/-! DEFINITION. The building of REPORT frames from the report queue (R165, R166) and the batch timeout. -/

namespace Sys2Proof.Machine

/-- The oldest records that fit, in queue order, within `room` payload bytes (R165). -/
def takeBatch (room : Nat) : List QueuedReport → List QueuedReport
  | [] => []
  | q :: rest =>
    if q.record.size ≤ room then q :: takeBatch (room - q.record.size) rest else []

/-- The records the next REPORT frame would hold: those that fit within 48 bytes (R165). -/
def nextBatch (s : State) : List QueuedReport := takeBatch 48 s.reports

/-- Whether any of some queued records is URGENT. -/
def anyUrgent (q : List QueuedReport) : Bool := q.any fun x => x.record.urgent

/-- Whether the oldest queued record has waited for the batch timeout (R165). -/
def oldestDue (s : State) : Bool :=
  match s.reports with
  | q :: _ => decide (ms s.reportRow.batchTimeout ≤ q.age)
  | [] => false

/-- Whether a REPORT frame is due: the queue not empty, the station port not LOST, and L records queued,
the batch timeout reached or an URGENT record queued (R165). -/
def reportDue (s : State) : Bool :=
  !s.reports.isEmpty && (s.port .sp).state != .lost
    && (decide (s.reportRow.level ≤ s.reports.length) || oldestDue s || anyUrgent s.reports)

/-- Whether the station port can take the next frame: one with an URGENT record needs room in the URGENT
queue (R15, R165). -/
def batchTakeable (s : State) : Bool :=
  !anyUrgent (nextBatch s) || decide ((s.port .sp).urgent.length < Config.urgentCapacity)

/-- Whether a REPORT frame can be built now (R165). -/
def reportReady (s : State) : Bool := reportDue s && batchTakeable s

/-- Offer a REPORT frame of URGENT or routine records to its queue of the station port (R165); a routine
frame that finds the NORMAL queue full is dropped and its records counted as lost (R164). -/
def offerReports (urgent : Bool) (frame : Frame) (count : Nat) (s : State) : State :=
  let r := s.port .sp
  if urgent then s.setPort .sp { r with urgent := r.urgent ++ [frame] }
  else if r.normal.length < Config.normalCapacity then
    s.setPort .sp { r with normal := r.normal ++ [frame] }
  else { s with loss := min 255 (s.loss + count) }

/-- Build one REPORT frame from the oldest records, when one is due and can be taken (R165). -/
def buildReport (s : State) : State :=
  if reportReady s then
    let batch := nextBatch s
    let frame :=
      originated s .sp .report (stationAddress s) (.reports (batch.map QueuedReport.record))
    arbitrate .sp
      (advanceSeq .sp
        (offerReports (anyUrgent batch) frame batch.length
          { s with reports := s.reports.drop batch.length }))
  else s

/-- The oldest queued record reaches the batch timeout, and so becomes due (R165). -/
def reachBatchTimeout (s : State) : State :=
  match s.reports with
  | q :: rest =>
    { s with reports := { q with age := max q.age (ms s.reportRow.batchTimeout) } :: rest }
  | [] => s

end Sys2Proof.Machine
end

