-- ==== Sys2Proof/Machine/ExecBase.lean ====
section
/-! DEFINITION. The form every command takes: it always answers a next state, and in reset the part
takes no command but the release (R190, log entry 4). -/

namespace Sys2Proof.Machine

/-- A command taken outside reset; in reset it has no effect (R190, log entry 4). -/
def outOfReset (g : State → State) (s : State) : Host.Outcome State Fault Refusal :=
  .next (if s.inReset then s else g s)

end Sys2Proof.Machine
end

