-- ==== Sys2Proof/Machine/ExecField.lean ====
section
/-! DEFINITION. The commands that are frames of the field units: samples and STATUS (chapters 3, 5
and 7). -/

namespace Sys2Proof.Machine

/-- FEEDER_SAMPLE_RECEIVED (R41): a SAMPLE of a feeder's measuring unit. -/
def execFeederSampleReceived (bytes : List Byte) (s : State) : Host.Outcome State Fault Refusal :=
  .next (receive .fp s.time bytes s)

/-- RECT_SAMPLE_RECEIVED (R47): a SAMPLE of the RECT_MU node, with its reception stamp (log entry
31). -/
def execRectSampleReceived (stamp : Stamp) (bytes : List Byte)
    (s : State) : Host.Outcome State Fault Refusal :=
  .next (receive .fp stamp bytes s)

/-- BREAKER_STATUS_RECEIVED (R74): a STATUS of a feeder's breaker unit. -/
def execBreakerStatusReceived (bytes : List Byte) (s : State) : Host.Outcome State Fault Refusal :=
  .next (receive .fp s.time bytes s)

/-- AC_BREAKER_STATUS_RECEIVED (R138): a STATUS of the AC breaker unit. -/
def execAcBreakerStatusReceived (bytes : List Byte)
    (s : State) : Host.Outcome State Fault Refusal :=
  .next (receive .fp s.time bytes s)

/-- FIRING_STATUS_RECEIVED (R137): a STATUS of the firing unit. -/
def execFiringStatusReceived (bytes : List Byte) (s : State) : Host.Outcome State Fault Refusal :=
  .next (receive .fp s.time bytes s)

end Sys2Proof.Machine
end

