-- ==== Sys2Proof/Machine/ExecLines.lean ====
section
/-! DEFINITION. The commands that are events of the discrete lines, as counted by the part (chapter
11; log entry 27). -/

namespace Sys2Proof.Machine

/-- KEY_CHANGE (R178): the counted key position changes. -/
def execKeyChange (pos : KeyPos) (s : State) : Host.Outcome State Fault Refusal :=
  outOfReset (changeKey pos) s

/-- ESTOP_ASSERTED (R191): ESTOP_N counts low. -/
def execEstopAsserted (s : State) : Host.Outcome State Fault Refusal :=
  outOfReset assertEstop s

/-- ESTOP_RELEASED (R191): ESTOP_N counts high. -/
def execEstopReleased (s : State) : Host.Outcome State Fault Refusal :=
  outOfReset releaseEstop s

/-- COLD_RESET (R190): RESET_N counts low, in reset or not. -/
def execColdReset (s : State) : Host.Outcome State Fault Refusal :=
  .next (coldReset s)

/-- RESET_RELEASE (R190): RESET_N counts high. -/
def execResetRelease (strapRest : RestState) (strapNode : BitVec 6)
    (s : State) : Host.Outcome State Fault Refusal :=
  .next (releaseReset strapRest strapNode s)

/-- KEY_FIRST_SETTLING (R178): the KEY input settles for the first time. -/
def execKeyFirstSettling (pos : KeyPos) (s : State) : Host.Outcome State Fault Refusal :=
  outOfReset (settleKey pos) s

end Sys2Proof.Machine
end

