-- ==== Sys2Proof/Machine/ExecLink.lean ====
section
/-! DEFINITION. The commands of the ports and the frame switch: received frames by their outcome, and
the end of a transmission. Each reception runs the whole path of reception on its bytes (log entry 1). -/

namespace Sys2Proof.Machine

/-- ERROR_FRAME_RECEIVED (R6): an error frame on a port. -/
def execErrorFrameReceived (p : Port) (bytes : List Byte)
    (s : State) : Host.Outcome State Fault Refusal :=
  .next (receive p s.time bytes s)

/-- LOST_PORT_GOOD_FRAME (R8): a good frame on a LOST port. -/
def execLostPortGoodFrame (p : Port) (bytes : List Byte)
    (s : State) : Host.Outcome State Fault Refusal :=
  .next (receive p s.time bytes s)

/-- FRAME_REJECTED (R31): a good frame that no rule of the frame switch takes. -/
def execFrameRejected (p : Port) (bytes : List Byte)
    (s : State) : Host.Outcome State Fault Refusal :=
  .next (receive p s.time bytes s)

/-- FORWARD_UP (R27): a field frame forwarded to the station port. -/
def execForwardUp (bytes : List Byte) (s : State) : Host.Outcome State Fault Refusal :=
  .next (receive .fp s.time bytes s)

/-- FORWARD_DOWN (R30): a frame of the gateway forwarded to a field node. -/
def execForwardDown (bytes : List Byte) (s : State) : Host.Outcome State Fault Refusal :=
  .next (receive .sp s.time bytes s)

/-- MANAGE_RECEIVED (R176): a MANAGE frame addressed to the part. -/
def execManageReceived (p : Port) (bytes : List Byte)
    (s : State) : Host.Outcome State Fault Refusal :=
  .next (receive p s.time bytes s)

/-- TRANSMIT_END (R11): a transmitter has finished its frame. -/
def execTransmitEnd (p : Port) (s : State) : Host.Outcome State Fault Refusal :=
  outOfReset (transmitDone p) s

end Sys2Proof.Machine
end

