-- ==== Sys2Proof/Machine/ExecRequests.lean ====
section
/-! DEFINITION. The commands that are the taking of a management request: the request leaves the
head of the request queue and is served (R175, R176; log entry 11). -/

namespace Sys2Proof.Machine

/-- Take a request and serve it, outside reset (R176). -/
def taking (k : Ticket) (r : Request) (serve : State → State) (s : State) :
    Host.Outcome State Fault Refusal :=
  outOfReset (fun st => serve (takeRequest k r st)) s

/-- READ_ROW_NODE (R19): READ_ROW of the NODE table. -/
def execReadRowNode (k : Ticket) (row : Nat) (s : State) : Host.Outcome State Fault Refusal :=
  taking k (.readRowNode row) (serveReadNode k row) s

/-- READ_ROW_FEEDER (R181): READ_ROW of the FEEDER table. -/
def execReadRowFeeder (k : Ticket) (row : Nat) (s : State) : Host.Outcome State Fault Refusal :=
  taking k (.readRowFeeder row) (serveReadFeederRow k row) s

/-- READ_ROW_RECT (R181): READ_ROW of the RECT table. -/
def execReadRowRect (k : Ticket) (row : Nat) (s : State) : Host.Outcome State Fault Refusal :=
  taking k (.readRowRect row) (serveReadRectRow k row) s

/-- READ_ROW_SECTION (R144): READ_ROW of the SECTION table. -/
def execReadRowSection (k : Ticket) (row : Nat) (s : State) : Host.Outcome State Fault Refusal :=
  taking k (.readRowSection row) (serveReadSection k row) s

/-- READ_ROW_PORT (R181): READ_ROW of the PORT table. -/
def execReadRowPort (k : Ticket) (row : Nat) (s : State) : Host.Outcome State Fault Refusal :=
  taking k (.readRowPort row) (serveReadPortRow k row) s

/-- READ_ROW_REPORT (R167): READ_ROW of the REPORT table. -/
def execReadRowReport (k : Ticket) (row : Nat) (s : State) : Host.Outcome State Fault Refusal :=
  taking k (.readRowReport row) (serveReadReport k row) s

/-- READ_RECORD_FEEDER (R73): READ_RECORD of a feeder. -/
def execReadRecordFeeder (k : Ticket) (n : Nat) (s : State) : Host.Outcome State Fault Refusal :=
  taking k (.readRecordFeeder n) (serveReadFeeder k n) s

/-- READ_RECORD_RECT (R120): READ_RECORD of the rectifier. -/
def execReadRecordRect (k : Ticket) (s : State) : Host.Outcome State Fault Refusal :=
  taking k .readRecordRect (serveReadRect k) s

/-- READ_RECORD_PORT (R17): READ_RECORD of a port. -/
def execReadRecordPort (k : Ticket) (p : Option Port)
    (s : State) : Host.Outcome State Fault Refusal :=
  taking k (.readRecordPort p) (serveReadPort k p) s

/-- READ_RECORD_TIE (R160): READ_RECORD of a tie. -/
def execReadRecordTie (k : Ticket) (t : Option Tie)
    (s : State) : Host.Outcome State Fault Refusal :=
  taking k (.readRecordTie t) (serveReadTie k t) s

/-- READ_RECORD_DEVICE (R181): READ_RECORD of the device. -/
def execReadRecordDevice (k : Ticket) (s : State) : Host.Outcome State Fault Refusal :=
  taking k .readRecordDevice (serveReadDevice k) s

/-- WRITE_ROW_NODE (R20): WRITE_ROW of the NODE table. -/
def execWriteRowNode (k : Ticket) (row : Nat) (w : RowWrite NodeRow)
    (s : State) : Host.Outcome State Fault Refusal :=
  taking k (.writeRowNode row w) (serveWriteNode k row w) s

/-- WRITE_ROW_FEEDER (R179): WRITE_ROW of the FEEDER table. -/
def execWriteRowFeeder (k : Ticket) (row : Nat) (w : RowWrite FeederRow)
    (s : State) : Host.Outcome State Fault Refusal :=
  taking k (.writeRowFeeder row w) (serveWriteFeeder k row w) s

/-- WRITE_ROW_RECT (R119): WRITE_ROW of the RECT table. -/
def execWriteRowRect (k : Ticket) (row : Nat) (w : RowWrite RectRow)
    (s : State) : Host.Outcome State Fault Refusal :=
  taking k (.writeRowRect row w) (serveWriteRect k row w) s

/-- WRITE_ROW_SECTION (R144): WRITE_ROW of the SECTION table. -/
def execWriteRowSection (k : Ticket) (row : Nat) (w : RowWrite SectionRow)
    (s : State) : Host.Outcome State Fault Refusal :=
  taking k (.writeRowSection row w) (serveWriteSection k row w) s

/-- WRITE_ROW_PORT (R10): WRITE_ROW of the PORT table. -/
def execWriteRowPort (k : Ticket) (row : Nat) (w : RowWrite Recovery)
    (s : State) : Host.Outcome State Fault Refusal :=
  taking k (.writeRowPort row w) (serveWritePort k row w) s

/-- WRITE_ROW_REPORT (R167): WRITE_ROW of the REPORT table. -/
def execWriteRowReport (k : Ticket) (row : Nat) (w : RowWrite ReportRow)
    (s : State) : Host.Outcome State Fault Refusal :=
  taking k (.writeRowReport row w) (serveWriteReport k row w) s

/-- IN_SERVICE (R78): FEEDER_CMD IN_SERVICE. -/
def execInService (k : Ticket) (n : Nat) (s : State) : Host.Outcome State Fault Refusal :=
  taking k (.inService n) (requestInService k n) s

/-- OUT_OF_SERVICE (R79): FEEDER_CMD OUT_OF_SERVICE. -/
def execOutOfService (k : Ticket) (n : Nat) (s : State) : Host.Outcome State Fault Refusal :=
  taking k (.outOfService n) (requestOutOfService k n) s

/-- CLOSE (R80): FEEDER_CMD CLOSE. -/
def execCloseFeeder (k : Ticket) (n : Nat) (s : State) : Host.Outcome State Fault Refusal :=
  taking k (.closeFeeder n) (requestClose k n) s

/-- OPEN (R81): FEEDER_CMD OPEN. -/
def execOpenFeeder (k : Ticket) (n : Nat) (s : State) : Host.Outcome State Fault Refusal :=
  taking k (.openFeeder n) (requestOpen k n) s

/-- RESET_LOCKOUT (R82): FEEDER_CMD RESET_LOCKOUT. -/
def execResetLockout (k : Ticket) (n : Nat) (s : State) : Host.Outcome State Fault Refusal :=
  taking k (.resetLockout n) (requestResetLockout k n) s

/-- RUN (R121): RECT_CMD RUN. -/
def execRectRun (k : Ticket) (s : State) : Host.Outcome State Fault Refusal :=
  taking k .rectRun (requestRun k) s

/-- REST (R122): RECT_CMD REST. -/
def execRectRest (k : Ticket) (s : State) : Host.Outcome State Fault Refusal :=
  taking k .rectRest (requestRest k) s

/-- RESET (R123): RECT_CMD RESET. -/
def execRectReset (k : Ticket) (s : State) : Host.Outcome State Fault Refusal :=
  taking k .rectReset (requestReset k) s

/-- SET_MODE (R182). -/
def execSetMode (k : Ticket) (m : Option Mode) (s : State) : Host.Outcome State Fault Refusal :=
  taking k (.setMode m) (requestMode k m) s

/-- SET_TIME (R188). -/
def execSetTime (k : Ticket) (t : Nat) (s : State) : Host.Outcome State Fault Refusal :=
  taking k (.setTime t) (requestTime k t) s

/-- CAPTURE_START (R171). -/
def execCaptureStart (k : Ticket) (n : Nat) (s : State) : Host.Outcome State Fault Refusal :=
  taking k (.captureStart n) (requestCapture k n) s

/-- CAPTURE_READ (R172). -/
def execCaptureRead (k : Ticket) (slot segment : Nat)
    (s : State) : Host.Outcome State Fault Refusal :=
  taking k (.captureRead slot segment) (requestCaptureRead k slot segment) s

/-- CAPTURE_RELEASE (R173). -/
def execCaptureRelease (k : Ticket) (slot : Nat) (s : State) : Host.Outcome State Fault Refusal :=
  taking k (.captureRelease slot) (requestCaptureRelease k slot) s

/-- INJECT (R185). -/
def execInject (k : Ticket) (node : Nat) (payload : List Byte)
    (s : State) : Host.Outcome State Fault Refusal :=
  taking k (.inject node payload) (requestInject k node payload) s

/-- PORT_RECOVER (R9). -/
def execPortRecover (k : Ticket) (p : Option Port) (s : State) : Host.Outcome State Fault Refusal :=
  taking k (.portRecover p) (requestRecover k p) s

/-- RESTART (R186). -/
def execRestart (k : Ticket) (s : State) : Host.Outcome State Fault Refusal :=
  taking k .restart (requestRestart k) s

/-- BAD_REQUEST (R175). -/
def execBadRequest (k : Ticket) (why : BadRequest) (s : State) : Host.Outcome State Fault Refusal :=
  taking k (.bad why) (requestBad k why) s

end Sys2Proof.Machine
end

