-- ==== Sys2Proof/Machine/ExecTie.lean ====
section
/-! DEFINITION. The commands of the ties: received TIE frames and the timers of the links and of the
intertrips (chapter 8). -/

namespace Sys2Proof.Machine

/-- BEAT_SEND (R146): a send timer expires. -/
def execBeatSend (t : Tie) (s : State) : Host.Outcome State Fault Refusal :=
  outOfReset (beatSendExpiry t) s

/-- BEAT_RECEIVED (R147): a well-formed BEAT. -/
def execBeatReceived (t : Tie) (bytes : List Byte) (s : State) : Host.Outcome State Fault Refusal :=
  .next (receive t.port s.time bytes s)

/-- BEAT_GAP_EXPIRED (R147): a gap timer runs out. -/
def execBeatGapExpired (t : Tie) (s : State) : Host.Outcome State Fault Refusal :=
  outOfReset (beatGapExpiry t) s

/-- TIE_SILENCE_EXPIRED (R148): a silence timer runs out. -/
def execTieSilenceExpired (t : Tie) (s : State) : Host.Outcome State Fault Refusal :=
  outOfReset (tieSilenceExpiry t) s

/-- TIE_FRAME_MALFORMED (R145): a malformed TIE frame. -/
def execTieFrameMalformed (t : Tie) (bytes : List Byte)
    (s : State) : Host.Outcome State Fault Refusal :=
  .next (receive t.port s.time bytes s)

/-- TRIP_REQ_RECEIVED (R154): a well-formed TRIP_REQ. -/
def execTripReqReceived (t : Tie) (bytes : List Byte)
    (s : State) : Host.Outcome State Fault Refusal :=
  .next (receive t.port s.time bytes s)

/-- TRIP_ACK_RECEIVED (R152): a well-formed TRIP_ACK. -/
def execTripAckReceived (t : Tie) (bytes : List Byte)
    (s : State) : Host.Outcome State Fault Refusal :=
  .next (receive t.port s.time bytes s)

/-- REPEAT_TIMER_EXPIRED (R151): the repeat timer of an outstanding entry runs out. -/
def execRepeatTimerExpired (f : FeederId) (s : State) : Host.Outcome State Fault Refusal :=
  outOfReset (repeatExpiry f) s

/-- REPLAY_INTERTRIP_TIMEOUT (R159): the simulation timer of an entry runs out. -/
def execReplayIntertripTimeout (f : FeederId) (s : State) : Host.Outcome State Fault Refusal :=
  outOfReset (replayEntryExpiry f) s

/-- REPEAT_WINDOW_EXPIRED (R154): the window of a repeat record runs out. -/
def execRepeatWindowExpired (f : FeederId) (s : State) : Host.Outcome State Fault Refusal :=
  outOfReset (windowExpiry f) s

/-- SECTION_CLEAR_RECEIVED (R157): a well-formed SECTION_CLEAR. -/
def execSectionClearReceived (t : Tie) (bytes : List Byte)
    (s : State) : Host.Outcome State Fault Refusal :=
  .next (receive t.port s.time bytes s)

/-- SECTION_HOLD_RECEIVED (R157): a well-formed SECTION_HOLD. -/
def execSectionHoldReceived (t : Tie) (bytes : List Byte)
    (s : State) : Host.Outcome State Fault Refusal :=
  .next (receive t.port s.time bytes s)

end Sys2Proof.Machine
end

