-- ==== Sys2Proof/Machine/ExecTimers.lean ====
section
/-! DEFINITION. The commands that are timer expiries of feeders, the rectifier group and the report
unit, with REPORT_BUILD. Each is the expiry whatever time is left (log entry 3). -/

namespace Sys2Proof.Machine

/-- BLIND (R43): a blind timer runs out. -/
def execBlind (f : FeederId) (s : State) : Host.Outcome State Fault Refusal :=
  outOfReset (blindExpired f) s

/-- RECT_SILENCE_EXPIRED (R49): the silence timer of the rectifier unit runs out. -/
def execRectSilenceExpired (s : State) : Host.Outcome State Fault Refusal :=
  outOfReset silenceExpired s

/-- OPEN_TIMER_EXPIRED (R87): an open timer runs out. -/
def execOpenTimerExpired (f : FeederId) (s : State) : Host.Outcome State Fault Refusal :=
  outOfReset (openExpired f) s

/-- CLOSE_TIMER_EXPIRED (R89): a close timer runs out. -/
def execCloseTimerExpired (f : FeederId) (s : State) : Host.Outcome State Fault Refusal :=
  outOfReset (closeExpired f) s

/-- SOTF_TIMER_EXPIRED (R90): a switch-onto-fault timer runs out. -/
def execSotfTimerExpired (f : FeederId) (s : State) : Host.Outcome State Fault Refusal :=
  outOfReset (sotfExpired f) s

/-- RECLAIM_EXPIRED (R90): a reclaim timer runs out. -/
def execReclaimExpired (f : FeederId) (s : State) : Host.Outcome State Fault Refusal :=
  outOfReset (reclaimExpired f) s

/-- DEAD_TIME_EXPIRED (R102): the dead time runs out in TIMING. -/
def execDeadTimeExpired (f : FeederId) (s : State) : Host.Outcome State Fault Refusal :=
  outOfReset (deadTimeExpired f) s

/-- ACTING_MASTER (R104): t_follow runs out in AWAITING_FAR_END. -/
def execActingMaster (f : FeederId) (s : State) : Host.Outcome State Fault Refusal :=
  outOfReset (followExpired f) s

/-- AC_TIMER_EXPIRED (R138): the AC timer runs out. -/
def execAcTimerExpired (s : State) : Host.Outcome State Fault Refusal :=
  outOfReset acTimerExpired s

/-- CROSSING_WATCH_EXPIRED (R127): the crossing watch runs out. -/
def execCrossingWatchExpired (s : State) : Host.Outcome State Fault Refusal :=
  outOfReset watchExpired s

/-- REPORT_BUILD (R165): a due REPORT frame is built. -/
def execReportBuild (s : State) : Host.Outcome State Fault Refusal :=
  outOfReset buildReport s

/-- BATCH_TIMEOUT (R165): the oldest queued record reaches the batch timeout. -/
def execBatchTimeout (s : State) : Host.Outcome State Fault Refusal :=
  outOfReset reachBatchTimeout s

/-- SIM_OPERATION_COMPLETE (R184): the timer of a simulated device runs out. -/
def execSimOperationComplete (d : SimDeviceId) (s : State) : Host.Outcome State Fault Refusal :=
  outOfReset (simComplete d) s

end Sys2Proof.Machine
end

