-- ==== Sys2Proof/Machine/Dispatch.lean ====
section
/-! DEFINITION. The meaning of every command: one arm per row of spec/opcode_table.json. -/

namespace Sys2Proof.Machine

/-- A command's effect on everything but the waiting queue. -/
def exec (i : Instr) (s : State) : Host.Outcome State Fault Refusal :=
  match i with
  | .errorFrameReceived p bytes => Sys2Proof.Machine.execErrorFrameReceived p bytes s
  | .lostPortGoodFrame p bytes => Sys2Proof.Machine.execLostPortGoodFrame p bytes s
  | .frameRejected p bytes => Sys2Proof.Machine.execFrameRejected p bytes s
  | .forwardUp bytes => Sys2Proof.Machine.execForwardUp bytes s
  | .forwardDown bytes => Sys2Proof.Machine.execForwardDown bytes s
  | .manageReceived p bytes => Sys2Proof.Machine.execManageReceived p bytes s
  | .transmitEnd p => Sys2Proof.Machine.execTransmitEnd p s
  | .feederSampleReceived bytes => Sys2Proof.Machine.execFeederSampleReceived bytes s
  | .blind f => Sys2Proof.Machine.execBlind f s
  | .rectSampleReceived stamp bytes => Sys2Proof.Machine.execRectSampleReceived stamp bytes s
  | .rectSilenceExpired => Sys2Proof.Machine.execRectSilenceExpired s
  | .breakerStatusReceived bytes => Sys2Proof.Machine.execBreakerStatusReceived bytes s
  | .openTimerExpired f => Sys2Proof.Machine.execOpenTimerExpired f s
  | .closeTimerExpired f => Sys2Proof.Machine.execCloseTimerExpired f s
  | .sotfTimerExpired f => Sys2Proof.Machine.execSotfTimerExpired f s
  | .reclaimExpired f => Sys2Proof.Machine.execReclaimExpired f s
  | .deadTimeExpired f => Sys2Proof.Machine.execDeadTimeExpired f s
  | .actingMaster f => Sys2Proof.Machine.execActingMaster f s
  | .acTimerExpired => Sys2Proof.Machine.execAcTimerExpired s
  | .crossingWatchExpired => Sys2Proof.Machine.execCrossingWatchExpired s
  | .acBreakerStatusReceived bytes => Sys2Proof.Machine.execAcBreakerStatusReceived bytes s
  | .firingStatusReceived bytes => Sys2Proof.Machine.execFiringStatusReceived bytes s
  | .beatSend t => Sys2Proof.Machine.execBeatSend t s
  | .beatReceived t bytes => Sys2Proof.Machine.execBeatReceived t bytes s
  | .beatGapExpired t => Sys2Proof.Machine.execBeatGapExpired t s
  | .tieSilenceExpired t => Sys2Proof.Machine.execTieSilenceExpired t s
  | .tieFrameMalformed t bytes => Sys2Proof.Machine.execTieFrameMalformed t bytes s
  | .tripReqReceived t bytes => Sys2Proof.Machine.execTripReqReceived t bytes s
  | .tripAckReceived t bytes => Sys2Proof.Machine.execTripAckReceived t bytes s
  | .repeatTimerExpired f => Sys2Proof.Machine.execRepeatTimerExpired f s
  | .replayIntertripTimeout f => Sys2Proof.Machine.execReplayIntertripTimeout f s
  | .repeatWindowExpired f => Sys2Proof.Machine.execRepeatWindowExpired f s
  | .sectionClearReceived t bytes => Sys2Proof.Machine.execSectionClearReceived t bytes s
  | .sectionHoldReceived t bytes => Sys2Proof.Machine.execSectionHoldReceived t bytes s
  | .reportBuild => Sys2Proof.Machine.execReportBuild s
  | .batchTimeout => Sys2Proof.Machine.execBatchTimeout s
  | .simOperationComplete d => Sys2Proof.Machine.execSimOperationComplete d s
  | .readRowNode k row => Sys2Proof.Machine.execReadRowNode k row s
  | .readRowFeeder k row => Sys2Proof.Machine.execReadRowFeeder k row s
  | .readRowRect k row => Sys2Proof.Machine.execReadRowRect k row s
  | .readRowSection k row => Sys2Proof.Machine.execReadRowSection k row s
  | .readRowPort k row => Sys2Proof.Machine.execReadRowPort k row s
  | .readRowReport k row => Sys2Proof.Machine.execReadRowReport k row s
  | .readRecordFeeder k n => Sys2Proof.Machine.execReadRecordFeeder k n s
  | .readRecordRect k => Sys2Proof.Machine.execReadRecordRect k s
  | .readRecordPort k p => Sys2Proof.Machine.execReadRecordPort k p s
  | .readRecordTie k t => Sys2Proof.Machine.execReadRecordTie k t s
  | .readRecordDevice k => Sys2Proof.Machine.execReadRecordDevice k s
  | .writeRowNode k row w => Sys2Proof.Machine.execWriteRowNode k row w s
  | .writeRowFeeder k row w => Sys2Proof.Machine.execWriteRowFeeder k row w s
  | .writeRowRect k row w => Sys2Proof.Machine.execWriteRowRect k row w s
  | .writeRowSection k row w => Sys2Proof.Machine.execWriteRowSection k row w s
  | .writeRowPort k row w => Sys2Proof.Machine.execWriteRowPort k row w s
  | .writeRowReport k row w => Sys2Proof.Machine.execWriteRowReport k row w s
  | .inService k n => Sys2Proof.Machine.execInService k n s
  | .outOfService k n => Sys2Proof.Machine.execOutOfService k n s
  | .closeFeeder k n => Sys2Proof.Machine.execCloseFeeder k n s
  | .openFeeder k n => Sys2Proof.Machine.execOpenFeeder k n s
  | .resetLockout k n => Sys2Proof.Machine.execResetLockout k n s
  | .rectRun k => Sys2Proof.Machine.execRectRun k s
  | .rectRest k => Sys2Proof.Machine.execRectRest k s
  | .rectReset k => Sys2Proof.Machine.execRectReset k s
  | .setMode k m => Sys2Proof.Machine.execSetMode k m s
  | .setTime k t => Sys2Proof.Machine.execSetTime k t s
  | .captureStart k n => Sys2Proof.Machine.execCaptureStart k n s
  | .captureRead k slot segment => Sys2Proof.Machine.execCaptureRead k slot segment s
  | .captureRelease k slot => Sys2Proof.Machine.execCaptureRelease k slot s
  | .inject k node payload => Sys2Proof.Machine.execInject k node payload s
  | .portRecover k p => Sys2Proof.Machine.execPortRecover k p s
  | .restart k => Sys2Proof.Machine.execRestart k s
  | .badRequest k why => Sys2Proof.Machine.execBadRequest k why s
  | .keyChange pos => Sys2Proof.Machine.execKeyChange pos s
  | .estopAsserted => Sys2Proof.Machine.execEstopAsserted s
  | .estopReleased => Sys2Proof.Machine.execEstopReleased s
  | .coldReset => Sys2Proof.Machine.execColdReset s
  | .resetRelease strapRest strapNode => Sys2Proof.Machine.execResetRelease strapRest strapNode s
  | .keyFirstSettling pos => Sys2Proof.Machine.execKeyFirstSettling pos s

end Sys2Proof.Machine
end

