-- ==== Sys2Proof/Machine/Idle.lean ====
section
/-! DEFINITION. What the part does by itself when no command waits (log entry 2): it serves a timer that
has run out, takes the request at the head of its queue (R176), builds a due REPORT frame (R165), or lets
one microsecond pass (R188, R189). -/

namespace Sys2Proof.Machine

/-- Whether a timer has run out. -/
def expired (t : Timer) : Bool := t == some 0

/-- The expiry of a feeder's dead-time timer, by phase (R102, R104). -/
def deadExpiry (f : FeederId) (r : FeederRec) : Option Instr :=
  if expired r.dead then
    match r.phase with
    | some .timing => some (.deadTimeExpired f)
    | some .awaitingFarEnd => some (.actingMaster f)
    | some .cooling | some .awaitingSupply | none => none
  else none

/-- The expiry of a feeder's intertrip timers: the repeat or simulation timer of its entry and the window
of its repeat record (R151, R154, R159). -/
def intertripExpiry (m : Mode) (f : FeederId) (u : FeederUnit) : Option Instr :=
  if (u.entry.map Entry.timer) == some 0 then
    some (if m = .replay then .replayIntertripTimeout f else .repeatTimerExpired f)
  else if (u.repeatRec.map RepeatRec.window) == some 0 then some (.repeatWindowExpired f)
  else none

/-- The first expiry that stands for a feeder, if any. -/
def feederExpiry (m : Mode) (f : FeederId) (u : FeederUnit) : Option Instr :=
  let r := u.sq
  if expired u.intake.blindTimer then some (.blind f)
  else if expired r.openTimer then some (.openTimerExpired f)
  else if expired r.closeTimer then some (.closeTimerExpired f)
  else if expired r.sotf then some (.sotfTimerExpired f)
  else if expired r.reclaim then some (.reclaimExpired f)
  else
    match deadExpiry f r with
    | some c => some c
    | none => intertripExpiry m f u

/-- The first expiry that stands for the rectifier group, if any. -/
def rectExpiry (s : State) : Option Instr :=
  if expired s.rectIntake.silence then some .rectSilenceExpired
  else if expired s.rect.acTimer then some .acTimerExpired
  else if expired s.rect.watch then some .crossingWatchExpired
  else none

/-- The first expiry that stands for a tie, if any. -/
def tieExpiry (t : Tie) (r : TieRec) : Option Instr :=
  if expired r.gapTimer then some (.beatGapExpired t)
  else if expired r.silence then some (.tieSilenceExpired t)
  else if expired r.sendTimer then some (.beatSend t)
  else none

/-- Whether the pending operation of a simulated device has run its time. -/
def simDue (d : SimDevice) : Bool := (d.op.map SimOp.timer) == some 0

/-- The completions that stand for a feeder's simulated devices. -/
def simFeederExpiry (f : FeederId) (u : FeederUnit) : Option Instr :=
  if simDue u.simBreaker then some (.simOperationComplete (.breaker f))
  else if simDue u.simContactor then some (.simOperationComplete (.contactor f))
  else none

/-- The first timer of the part that has run out: feeders in feeder order, then the group, the ties and
the simulated devices. Timers that run out together may be taken in any order; this is the model's
(log entry 2). -/
def nextExpiry (s : State) : Option Instr :=
  (FeederId.all.findSome? fun f => feederExpiry s.mode f (s.feeder f)) <|>
    rectExpiry s <|>
    tieExpiry .a s.ties.a <|>
    tieExpiry .b s.ties.b <|>
    (FeederId.all.findSome? fun f => simFeederExpiry f (s.feeder f)) <|>
    (if simDue s.simAc then some (.simOperationComplete .acBreaker) else none)

/-- A timer one microsecond on. -/
def Timer.tick (t : Timer) : Timer := t.map fun n => n - 1

/-- A simulated device one microsecond on. -/
def SimDevice.tick (d : SimDevice) : SimDevice :=
  { d with op := d.op.map fun op => { op with timer := op.timer - 1 } }

/-- The feeder record one microsecond on. -/
def FeederRec.tick (r : FeederRec) : FeederRec :=
  { r with
    reclaim := Timer.tick r.reclaim
    sotf := Timer.tick r.sotf
    openTimer := Timer.tick r.openTimer
    closeTimer := Timer.tick r.closeTimer
    dead := Timer.tick r.dead }

/-- A feeder one microsecond on. -/
def FeederUnit.tick (u : FeederUnit) : FeederUnit :=
  { u with
    intake := { u.intake with blindTimer := Timer.tick u.intake.blindTimer }
    sq := u.sq.tick
    entry := u.entry.map fun e => { e with timer := e.timer - 1 }
    repeatRec := u.repeatRec.map fun r => { r with window := r.window - 1 }
    simBreaker := u.simBreaker.tick
    simContactor := u.simContactor.tick }

/-- A tie one microsecond on. -/
def TieRec.tick (r : TieRec) : TieRec :=
  { r with
    gapTimer := Timer.tick r.gapTimer
    silence := Timer.tick r.silence
    sendTimer := Timer.tick r.sendTimer }

/-- One microsecond passes: station time rises modulo 2^48 (R188), every running timer comes one
microsecond nearer its end (R189), and the queued reports age (R161). -/
def tick (s : State) : State :=
  { s with
    time := s.time + 1#48
    feeders := s.feeders.map FeederUnit.tick
    rectIntake := { s.rectIntake with silence := Timer.tick s.rectIntake.silence }
    rect :=
      { s.rect with watch := Timer.tick s.rect.watch, acTimer := Timer.tick s.rect.acTimer }
    ties := s.ties.map TieRec.tick
    reports := s.reports.map fun q => { q with age := q.age + 1 }
    simAc := s.simAc.tick }

/-- What the part takes next by itself: an expiry, the request at the head of the queue, or a due REPORT
frame; `none` when only time can pass. -/
def ownWork (s : State) : Option Instr :=
  match nextExpiry s with
  | some c => some c
  | none =>
    match s.requests with
    | q :: _ => some (q.request.toInstr q.ticket)
    | [] => if reportReady s then some .reportBuild else none

/-- A step with no command waiting (log entry 2). In reset the part does nothing (R190, log entry 4). -/
def idle (s : State) : Host.Outcome State Fault Refusal :=
  if s.inReset then .next s
  else
    match ownWork s with
    | some c => exec c s
    | none => .next (tick s)

end Sys2Proof.Machine
end

