-- ==== Sys2Proof/Machine/Flags.lean ====
section
/-! DEFINITION. The discrete outputs and the conditions behind them (R192), computed from the state: the
trip outputs, the summary alarm and the ALARM output. -/

namespace Sys2Proof.Machine

/-- The level of trip output FTRIPn: conducting while the feeder's trip line level is asserted (R192). -/
def feederTripOutput (s : State) (f : FeederId) : Bool := (s.feeders.get f).sq.tripLine

/-- The level of the ACTRIP output: conducting while the AC trip line level is asserted (R192). -/
def acTripOutput (s : State) : Bool := s.rect.acTrip

/-- The ports, in the order of the PORT table. -/
def allPorts : List Port := [.fp, .sp, .ta, .tb]

/-- The summary alarm condition: a feeder in LOCKOUT, the group FAULTED, a port LOST or the emergency
stop asserted (R192). -/
def summaryAlarm (s : State) : Bool :=
  FeederId.all.any (fun f => (s.feeders.get f).sq.state == .lockout)
    || s.rect.state == .faulted
    || allPorts.any (fun p => (s.ports.get p).state == .lost)
    || s.estop

/-- The ALARM output conducts when the alarm is released, and never in reset (R190, R192). -/
def alarmConducts (s : State) : Bool := !s.inReset && !summaryAlarm s

end Sys2Proof.Machine
end

