-- ==== Sys2Proof/Safety.lean ====
section
/-! DEFINITION. What a safe part is, in the terms the claims use: the bounds and laws that the manual
states of the whole part, as predicates on a state, and the words for "nothing else changed". -/

namespace Sys2Proof.Machine

/-! Nothing else changed: put a part of an older state back -/

/-- `t` with the port record of `s` put back. -/
def State.putPort (t : State) (p : Port) (s : State) : State := t.setPort p (s.port p)

/-- `t` with all that `s` holds for a feeder put back. -/
def State.putFeeder (t : State) (f : FeederId) (s : State) : State := t.setFeeder f (s.feeder f)

/-- `t` with the report queue and loss count of `s` put back. -/
def State.putReports (t s : State) : State := { t with reports := s.reports, loss := s.loss }

/-- `t` with the rectifier record of `s` put back. -/
def State.putRect (t s : State) : State := { t with rect := s.rect }

/-- `t` with the link record of a tie of `s` put back. -/
def State.putTie (t : State) (k : Tie) (s : State) : State := t.setTie k (s.tie k)

/-- What an accepted frame on a port lets the rest of the part see: a good frame `fr` outside reset on a
port that is not LOST (R4, R5). -/
def Arrives (p : Port) (bytes : List Byte) (fr : RxFrame) (s : State) : Prop :=
  s.inReset = false ∧ classify bytes = .good fr ∧ (s.port p).state ≠ .lost

/-- A frame from a field node outside reset and REPLAY: it arrives on the field port, and its source's row
has a role, a binding and side FIELD (R23). -/
def FromField (role : Role) (binding : Option FeederId) (bytes : List Byte) (fr : RxFrame)
    (s : State) : Prop :=
  Arrives .fp bytes fr s ∧ (s.nodeRow fr.src).role = role ∧ (s.nodeRow fr.src).binding = binding
    ∧ (s.nodeRow fr.src).side = .field ∧ s.mode ≠ .replay

/-- A good frame of the field port that no rule of the frame switch takes (R23 to R27). -/
def fieldRejects (s : State) (fr : RxFrame) : Prop :=
  let row := s.nodeRow fr.src
  row.role = .unused ∨ row.side = .station ∨ fr.kind = .command ∨ fr.kind = .tie
    ∨ (fr.kind = .sample ∧ row.role ≠ .rectMu ∧ ¬ (row.role = .feederMu ∧ row.binding.isSome = true))
    ∨ (fr.kind = .status ∧ roleSendsStatus row.role = false ∧ row.upStatus = false)
    ∨ (fr.kind = .manage ∧ ¬ (row.role = .panel ∧ fr.dest = s.ownByte))
    ∨ (fr.kind = .reply ∧ row.upReply = false) ∨ (fr.kind = .report ∧ row.upReport = false)

/-- A good frame of the station port that no rule of the frame switch takes (R28 to R30). -/
def stationRejects (s : State) (fr : RxFrame) : Prop :=
  let row := s.nodeRow fr.dest
  (s.nodeRow fr.src).role ≠ .gateway ∨ (fr.kind ≠ .manage ∧ fr.kind ≠ .command)
    ∨ (fr.kind = .command ∧ fr.dest = s.ownByte)
    ∨ (fr.kind = .command ∧ ¬ (roleIsField row.role = true ∧ row.downCommand = true))
    ∨ (fr.kind = .manage ∧ fr.dest ≠ s.ownByte
        ∧ ¬ (roleIsField row.role = true ∧ row.downManage = true))

/-- A good frame that the frame switch rejects, by its port of arrival (R31, R32). -/
def switchRejects (p : Port) (s : State) (fr : RxFrame) : Prop :=
  match p with
  | .fp => fieldRejects s fr
  | .sp => stationRejects s fr
  | .ta | .tb => fr.kind ≠ .tie

/-! Words for what a command meets and leaves -/

/-- A SAMPLE of a feeder's measuring unit that intake accepts: `x` is its payload and `g` its gap (R35). -/
def TakesSample (f : FeederId) (bytes : List Byte) (fr : RxFrame) (x : FeederSample) (g : Nat)
    (s : State) : Prop :=
  FromField .feederMu (some f) bytes fr s ∧ fr.kind = .sample
    ∧ readFeederSample fr.payload = some x
    ∧ judgeGap (s.feeder f).intake.lastSeq fr.seq = some g ∧ x.unitFault = false

/-- A SAMPLE of the rectifier's measuring unit that intake accepts (R47). -/
def TakesRectSample (bytes : List Byte) (fr : RxFrame) (x : RectSample) (g : Nat) (s : State) : Prop :=
  (∃ binding, FromField .rectMu binding bytes fr s) ∧ fr.kind = .sample
    ∧ readRectSample fr.payload = some x
    ∧ judgeGap s.rectIntake.lastSeq fr.seq = some g ∧ x.unitFault = false

/-- A well-formed STATUS of a feeder's breaker unit (R74). -/
def TakesStatus (f : FeederId) (bytes : List Byte) (fr : RxFrame) (x : BreakerStatus)
    (s : State) : Prop :=
  FromField .breaker (some f) bytes fr s ∧ fr.kind = .status
    ∧ readBreakerStatus fr.payload = some x

/-- A record with these fields stands in the report queue (section 9.1). -/
def Reported (t : State) (kind : ReportKind) (source : Source) (cause : Option Cause)
    (v1 v2 : Option Int) : Prop :=
  ∃ q ∈ t.reports, q.record.kind = kind ∧ q.record.source = source ∧ q.record.cause = cause
    ∧ q.record.value1 = v1 ∧ q.record.value2 = v2

/-- A command stands on the field port, queued or being sent (R13). -/
def Commanded (t : State) (c : FieldCommand) : Prop :=
  ∃ q ∈ (t.port .fp).urgent ++ (t.port .fp).sending.toList, q.payload = .command c

/-- A FIRING_SET that the controller offers from `s` stands on the field port in `t` (R128): outside SHADOW
and REPLAY, with a FIRING node and room in the queue. In SHADOW and REPLAY no port changes. -/
def FiringOffered (s t : State) (x : FiringSet) : Prop :=
  (s.mode ≠ .shadow → s.mode ≠ .replay → (findNode s .firing none).isSome = true →
    (s.port .fp).urgent.length < 10 → Commanded t (.firingSet x))
    ∧ (s.mode = .shadow → t.ports = s.ports) ∧ (s.mode = .replay → t.ports = s.ports)

/-- The crossing watch runs out at P + T / 2, held as the interval left (R127, R189). -/
def WatchSet (s t : State) : Prop :=
  ∃ p, t.rect.p = some p
    ∧ t.rect.watch = some (stampAdd p (t.rect.t / 2 : Nat) - s.time).toInt.toNat

/-- The Ir of a rectifier sample after saturation (R40). -/
def saturatedIr (x : RectSample) : Int :=
  if x.irOver then (if 0 ≤ x.ir then 32767 else -32768) else x.ir

/-- An accepted rectifier sample that brings no overcurrent and no change of the stack trip flag (R135,
R136). -/
def QuietRect (x : RectSample) (s : State) : Prop :=
  saturatedIr x < (s.rectRow.iRectTrip : Int)
    ∧ (s.rectValid = false ∨ (s.rect.stackTrip = false ∧ x.temp < (s.rectRow.tTrip : Int)))

/-- What such a sample, received at a stamp with a sequence number and a gap, makes of the rest of the part
(R40, R47, R48, R129, R135, R136): the intake record, the accumulators, the overcurrent count and the stack
warning with its report; then the crossing, if it is placed, is taken (log entry 13). -/
def afterRectSample (stamp : Stamp) (seq : Byte) (g : Nat) (x : RectSample) (s : State) : State :=
  let k := s.rectIntake
  let r := s.rect
  let row := s.rectRow
  let h := handedGap k.resumption g k.carry
  let ub := if x.ubOver then 4095 else x.ub
  let ir := saturatedIr x
  let fills := r.state = .running ∨ r.state = .probe ∨ r.state = .hold
  let warns :=
    if s.rectValid = false then r.stackWarn
    else if r.stackWarn then !decide (x.temp < (row.tWarn : Int) - row.hysteresis)
    else decide ((row.tWarn : Int) ≤ x.temp)
  let taken :=
    { s with
      rectIntake :=
        { lastSeq := some seq, resumption := false, carry := 0, faultOnset := false
          ub := ub, ir := ir, temp := x.temp, busbarValid := true, prevStamp := some stamp
          timeSet := false, silence := some 20000, arriving := true }
      rect :=
        { r with
          sumUb := if fills ∧ r.n < 65535 then r.sumUb + ub else r.sumUb
          n := if fills then min 65535 (r.n + 1) else r.n
          peakIr := if fills then (if r.n = 0 then ir else max r.peakIr ir) else r.peakIr
          overcurrent := if r.state = .parked ∨ r.state = .faulted then r.overcurrent else 0
          stackWarn := warns } }
  let heard :=
    if warns = r.stackWarn then taken
    else submit (if r.stackWarn then .stackClear else .stackWarn) .rect none (some x.temp) none taken
  match x.crossing, k.prevStamp with
  | some o, some prev =>
    if k.resumption = false ∧ h = 1 ∧ k.timeSet = false ∧ (o : Int) < (stamp - prev).toInt then
      takeCrossing (stampAdd prev (o : Int)) heard
    else heard
  | _, _ => heard

/-- A TIE message stands on a tie's port, queued or being sent (R14). -/
def TieOffered (t : State) (k : Tie) (m : TieMsg) : Prop :=
  ∃ q ∈ (t.port k.port).urgent ++ (t.port k.port).sending.toList, q.payload = .tie m

/-- What an aborted test of `s` leaves of a feeder in `t` (R115 to R117): its report, TEST_OPEN where the
contactor is not OPEN, and, unless the return to AWAITING_FAR_END on a DOWN tie makes the next request at
once (R104), the last result, a test record at rest, and the state that the test's kind, shot-taken mark
and origin send it to. -/
def AbortedTo (f : FeederId) (reason : AbortReason) (uAvg ubAvg : Option Nat) (s t : State) : Prop :=
  let r := s.sq f
  let r' := t.sq f
  let row := (s.feeder f).row.test
  let asksAgain := r.test.kind ≠ some .manual ∧ r.shotTaken = false
    ∧ r.test.origin = some .awaitingFarEnd ∧ tieDown s f = true
  Reported t .lineTest (.feeder f) (some reason.cause) none
      (match uAvg, ubAvg with
       | some u, some ub => some (u * 4096 + ub)
       | _, _ => none)
    ∧ (r.contactor ≠ .opened → s.mode = .service → (findNode s .breaker (some f)).isSome = true →
        (s.port .fp).urgent.length < 10 → Commanded t (.testContactor f false))
    ∧ (¬ asksAgain →
        r'.test.last = some { outcome := .aborted reason, r := none, uAvg := uAvg, ubAvg := ubAvg }
          ∧ r'.test.step = none ∧ r'.test.pending = none ∧ r'.test.count = 0 ∧ r'.test.sumU = 0
          ∧ r'.test.sumUb = 0 ∧ (r.farClear = false → r'.farClear = false) ∧ r'.tripLine = false
          ∧ (r.test.kind = some .manual → r'.state = .opened ∧ r'.shotCount = r.shotCount)
          ∧ (r.test.kind = some .auto → r.shotTaken = true →
              r'.state = .deadTime ∧ r'.phase = some .timing ∧ r'.shotTaken = false
                ∧ r'.shotCount = r.shotCount - 1
                ∧ r'.dead = some (deadTime row (r.shotCount - 1 + 1) * 1000))
          ∧ (r.test.kind = some .auto → r.shotTaken = false → r.test.origin = some .cooling →
              r'.state = .deadTime ∧ r'.phase = some .cooling ∧ r'.dead = none
                ∧ r'.shotCount = r.shotCount)
          ∧ (r.test.kind = some .auto → r.shotTaken = false →
              r.test.origin = some .awaitingFarEnd →
              r'.state = .deadTime ∧ r'.phase = some .awaitingFarEnd
                ∧ r'.dead = some (row.tFollow * 1000) ∧ r'.shotCount = r.shotCount))

/-- What an entry to RUNNING leaves of the tests that were latched (R106, R107, R132): every latched feeder
is in the tester set and in TESTING with its latched kind and origin, or aborted at once where BLIND or
FROZEN is set; the latched set is empty and no other feeder's record changes. -/
def LatchedStarted (s t : State) : Prop :=
  (∀ f, t.rect.latched.get f = false)
    ∧ (∀ f, s.rect.latched.get f = false → t.sq f = s.sq f)
    ∧ (∀ f, s.rect.latched.get f = true → (s.sq f).blind = false → (s.sq f).frozen = false →
        (t.sq f).state = .testing ∧ (t.sq f).test.kind = some .auto
          ∧ (t.sq f).test.origin = (s.sq f).test.origin
          ∧ (t.sq f).pendingTest = false ∧ (t.sq f).shotTaken = (s.sq f).shotTaken
          ∧ (t.sq f).farClear = false ∧ t.rect.testers.get f = true)
    ∧ (∀ f, s.rect.latched.get f = true → ((s.sq f).blind = true ∨ (s.sq f).frozen = true) →
        (s.sq f).test.kind = some .auto →
          t.rect.testers.get f = false ∧ (t.sq f).pendingTest = false
            ∧ AbortedTo f (if (s.sq f).blind = true then .blind else .frozen) none none s t)

/-- What an intertrip asked for a feeder with a cause leaves (R150, R153; in REPLAY R159). Without a tie
nothing. On an UP link: an outstanding entry with the tie's tag, the tag counter advanced, the TRIP_REQ
offered and INTERTRIP_SENT reported. On a DOWN link: no entry, INTERTRIP_FAILED reported with LINK_DOWN,
and a TRIP_REQ still sent and reported unless the port is LOST. In REPLAY: the entry with its simulation
timer and the report, and no frame. -/
def Intertripped (f : FeederId) (cause : InterCause) (s t : State) : Prop :=
  let u := s.feeder f
  let sec := u.section_.sectionId
  (u.section_.tie = none → (t.feeder f).entry = u.entry ∧ t.ties = s.ties)
    ∧ ∀ k, u.section_.tie = some k →
        let tag := (s.tie k).tag
        let entry := fun timer : Nat =>
          some
            { tie := k, sectionId := sec, cause := cause, tag := tag, sends := 1, timer := timer : Entry }
        let sent := t.tie k = { s.tie k with tag := tag + 1#8 }
          ∧ Reported t .intertripSent (.feeder f) (some cause.cause) (some sec) (some tag.toNat)
        let offered := TieOffered t k (.tripReq (BitVec.ofNat 8 sec) cause tag)
        let failed := (t.feeder f).entry = none
          ∧ Reported t .intertripFailed (.feeder f) (some cause.cause) (some sec) (some 2)
        (s.mode = .replay →
            (t.feeder f).entry = entry 5000 ∧ sent ∧ t.port k.port = s.port k.port)
          ∧ (s.mode ≠ .replay → (s.tie k).up = true →
              (t.feeder f).entry = entry 10000 ∧ sent ∧ offered)
          ∧ (s.mode ≠ .replay → (s.tie k).up = false → (s.port k.port).state ≠ .lost →
              failed ∧ sent ∧ offered)
          ∧ (s.mode ≠ .replay → (s.tie k).up = false → (s.port k.port).state = .lost →
              failed ∧ t.tie k = s.tie k)

/-! Bounds -/

/-- A port's queues are within their capacities and its counts within their ranges (section 1.6, R17). -/
def PortRec.bounded (r : PortRec) : Prop :=
  r.urgent.length ≤ Config.urgentCapacity ∧ r.normal.length ≤ Config.normalCapacity
    ∧ r.errorCount ≤ 256 ∧ r.recoveryCount ≤ 128 ∧ r.rejected ≤ 65535 ∧ r.forwardedDrop ≤ 65535

/-- Every queue of the part is within its capacity (section 1.6, R14 to R17, R164, R176). -/
def QueuesBounded (s : State) : Prop :=
  (∀ p, (s.port p).bounded) ∧ s.requests.length ≤ Config.requestCapacity
    ∧ s.reports.length ≤ Config.reportCapacity ∧ s.loss ≤ 255

/-- Whether two queued frames are commands of one class of R13's table. -/
def sameCommandClass (a b : Frame) : Prop :=
  ∃ c d, a.payload = .command c ∧ b.payload = .command d ∧ sameClass c d = true

/-- The field port URGENT queue holds at most one command of each class (R13). -/
def OnePerClass (s : State) : Prop :=
  (s.port .fp).urgent.Pairwise fun a b => ¬ sameCommandClass a b

/-- The stamps of queued records never fall from one record to the next (R161, R164). -/
def stampsRise : List QueuedReport → Prop
  | a :: b :: rest => 0 ≤ stampDiff b.record.time a.record.time ∧ stampsRise (b :: rest)
  | _ => True

/-- Every thermal image lies between 0 and 4,194,304 (R63). -/
def ThetaBounded (s : State) : Prop := ∀ f, (s.feeder f).prot.theta ≤ 4194304

/-- The firing delay lies within the rectifier settings in force (R130). -/
def AlphaInRange (s : State) : Prop :=
  s.rectValid = true → s.rectRow.alphaMin ≤ s.rect.alpha ∧ s.rect.alpha ≤ s.rectRow.alphaMax

/-! Lines -/

/-- Each feeder's trip line is asserted exactly in TRIPPING and in a BREAKER_FAILURE lockout outside
REPLAY (R76). -/
def TripLineLaw (s : State) : Prop :=
  ∀ f, (s.sq f).tripLine = true ↔
    s.mode ≠ .replay ∧
      ((s.sq f).state = .tripping
        ∨ ((s.sq f).state = .lockout ∧ (s.sq f).lockoutCause = some .breakerFailure))

/-- The AC trip line is asserted exactly while the group is FAULTED outside REPLAY (R139), and no
crossing watch runs in FAULTED (R120). -/
def AcTripLaw (s : State) : Prop :=
  (s.rect.acTrip = true ↔ s.mode ≠ .replay ∧ s.rect.state = .faulted)
    ∧ (s.rect.state = .faulted → s.rect.watch = none)

/-! States -/

/-- The states a feeder can have while the device is in CONFIG or SHADOW: no line test, dead time or
closing runs, CLOSED is a mirrored state of SHADOW alone, and a trip is one of an uncommanded close
(R73, R92, R97). A dead-time phase and a latched test belong to DEAD_TIME in every mode (R100, R106). -/
def ModeStatesLaw (s : State) : Prop :=
  ∀ f,
    ((s.mode = .config ∨ s.mode = .shadow) →
      ((s.sq f).state = .out ∨ (s.sq f).state = .opened ∨ (s.sq f).state = .lockout
        ∨ ((s.sq f).state = .tripping ∧ (s.sq f).primary = some .uncommandedClose)
        ∨ ((s.sq f).state = .closed ∧ s.mode = .shadow)))
    ∧ ((s.sq f).phase ≠ none → (s.sq f).state = .deadTime)
    ∧ (s.rect.latched.get f = true → (s.sq f).pendingTest = true ∧ (s.sq f).state = .deadTime)

end Sys2Proof.Machine
end

