-- ==== Sys2Proof/WellFormed.lean ====
section
/-! DEFINITION. Well-formed commands: the bytes of a received frame end as the row of the table says (an
error frame, a good frame, a good frame of the row's kind whose payload reads as the row's message), and
the numbers of a request fit the widths the manual gives them. `exec` gives every command a meaning,
well formed or not (log entry 1). -/

namespace Sys2Proof

open Sys2Proof.Machine

/-- The bytes end as a good frame that satisfies a test. -/
def goodWith (test : RxFrame → Bool) (bytes : List Byte) : Bool :=
  match classify bytes with
  | .good fr => test fr
  | .error _ => false

/-- The bytes end as an error frame (R4). -/
def endsInError (bytes : List Byte) : Bool :=
  match classify bytes with
  | .good _ => false
  | .error _ => true

/-- A TIE frame whose payload reads as a message that satisfies a test (R145). -/
def tieWith (test : TieMsg → Bool) (bytes : List Byte) : Bool :=
  goodWith (fun fr => fr.kind == .tie && (readTie fr.payload).any test) bytes

/-- A STATUS or SAMPLE whose payload a reader of Operands.lean reads. -/
def fieldWith {α : Type} (kind : Kind) (read : List Byte → Option α) (bytes : List Byte) : Bool :=
  goodWith (fun fr => fr.kind == kind && (read fr.payload).isSome) bytes

/-- Whether a command is well formed. -/
def Instr.wellFormed : Instr → Bool
  | .errorFrameReceived _ bytes => endsInError bytes
  | .lostPortGoodFrame _ bytes => goodWith (fun _ => true) bytes
  | .frameRejected _ bytes => goodWith (fun _ => true) bytes
  | .forwardUp bytes =>
    goodWith (fun fr => fr.kind == .status || fr.kind == .reply || fr.kind == .report) bytes
  | .forwardDown bytes => goodWith (fun fr => fr.kind == .command || fr.kind == .manage) bytes
  | .manageReceived p bytes =>
    (p == .fp || p == .sp) && goodWith (fun fr => fr.kind == .manage) bytes
  | .transmitEnd _ => true
  | .feederSampleReceived bytes => fieldWith .sample readFeederSample bytes
  | .blind _ => true
  | .rectSampleReceived _ bytes => fieldWith .sample readRectSample bytes
  | .rectSilenceExpired => true
  | .breakerStatusReceived bytes => fieldWith .status readBreakerStatus bytes
  | .openTimerExpired _ => true
  | .closeTimerExpired _ => true
  | .sotfTimerExpired _ => true
  | .reclaimExpired _ => true
  | .deadTimeExpired _ => true
  | .actingMaster _ => true
  | .acTimerExpired => true
  | .crossingWatchExpired => true
  | .acBreakerStatusReceived bytes => fieldWith .status readAcStatus bytes
  | .firingStatusReceived bytes => fieldWith .status readFiringStatus bytes
  | .beatSend _ => true
  | .beatReceived _ bytes => tieWith (fun m => match m with | .beat _ => true | _ => false) bytes
  | .beatGapExpired _ => true
  | .tieSilenceExpired _ => true
  | .tieFrameMalformed _ bytes =>
    goodWith (fun fr => fr.kind == .tie && (readTie fr.payload).isNone) bytes
  | .tripReqReceived _ bytes =>
    tieWith (fun m => match m with | .tripReq _ _ _ => true | _ => false) bytes
  | .tripAckReceived _ bytes =>
    tieWith (fun m => match m with | .tripAck _ _ _ => true | _ => false) bytes
  | .repeatTimerExpired _ => true
  | .replayIntertripTimeout _ => true
  | .repeatWindowExpired _ => true
  | .sectionClearReceived _ bytes =>
    tieWith (fun m => match m with | .sectionClear _ => true | _ => false) bytes
  | .sectionHoldReceived _ bytes =>
    tieWith (fun m => match m with | .sectionHold _ => true | _ => false) bytes
  | .reportBuild => true
  | .batchTimeout => true
  | .simOperationComplete _ => true
  | .readRowNode _ row => decide (row < 256)
  | .readRowFeeder _ row => decide (row < 256)
  | .readRowRect _ row => decide (row < 256)
  | .readRowSection _ row => decide (row < 256)
  | .readRowPort _ row => decide (row < 256)
  | .readRowReport _ row => decide (row < 256)
  | .readRecordFeeder _ n => decide (n < 256)
  | .readRecordRect _ => true
  | .readRecordPort _ _ => true
  | .readRecordTie _ _ => true
  | .readRecordDevice _ => true
  | .writeRowNode _ row _ => decide (row < 256)
  | .writeRowFeeder _ row _ => decide (row < 256)
  | .writeRowRect _ row _ => decide (row < 256)
  | .writeRowSection _ row _ => decide (row < 256)
  | .writeRowPort _ row _ => decide (row < 256)
  | .writeRowReport _ row _ => decide (row < 256)
  | .inService _ n => decide (n < 256)
  | .outOfService _ n => decide (n < 256)
  | .closeFeeder _ n => decide (n < 256)
  | .openFeeder _ n => decide (n < 256)
  | .resetLockout _ n => decide (n < 256)
  | .rectRun _ => true
  | .rectRest _ => true
  | .rectReset _ => true
  | .setMode _ _ => true
  | .setTime _ _ => true
  | .captureStart _ n => decide (n < 256)
  | .captureRead _ slot segment => decide (slot < 256) && decide (segment < 256)
  | .captureRelease _ slot => decide (slot < 256)
  | .inject _ node payload => decide (node < 256) && decide (payload.length ≤ 48)
  | .portRecover _ _ => true
  | .restart _ => true
  | .badRequest _ _ => true
  | .keyChange _ => true
  | .estopAsserted => true
  | .estopReleased => true
  | .coldReset => true
  | .resetRelease _ _ => true
  | .keyFirstSettling _ => true

end Sys2Proof
end

