-- ==== Sys2Proof/Certificates/Slice0/Obligations.lean ====
section
/-! DEFINITION. The statements for the provers. Each docstring names the rules of spec/ it rests on, or
the log entry when it states a choice of the model. -/

section

open Sys2Proof Sys2Proof.Machine

/-! ## The machine -/

/-- Section 95: each command is one whole step. A step with a command at the front of the waiting queue
is that command on the state with the queue's rest. -/
def Obligations.StepTakesFrontCommand : Prop :=
  ∀ (c : Instr) (rest : List Instr) (s : State), s.pending = c :: rest →
    step s = exec c { s with pending := rest }

/-- Log entry 2 (the model's choice), with R176, R188 and R189: with nothing waiting the part in reset
stays as it is, serves its own work if it has some, and otherwise one microsecond passes: station time
rises by 1, every running timer comes 1 nearer its end (those of the feeders, of intertrip entries and
repeat records, of the group, the ties and the simulated devices), queued reports age, and nothing else
changes. -/
def Obligations.StepWithNothingWaiting : Prop :=
  ∀ s : State, s.pending = [] →
    (s.inReset = true → step s = .next s)
    ∧ (∀ c, s.inReset = false → ownWork s = some c → step s = exec c s)
    ∧ (s.inReset = false → ownWork s = none →
        let less : Timer → Timer := Option.map (· - 1)
        let device := fun d : SimDevice =>
          { d with op := d.op.map fun o => { o with timer := o.timer - 1 } }
        step s =
          .next
            { s with
              time := s.time + 1#48
              feeders :=
                s.feeders.map fun u =>
                  { u with
                    intake := { u.intake with blindTimer := less u.intake.blindTimer }
                    sq :=
                      { u.sq with
                        openTimer := less u.sq.openTimer, closeTimer := less u.sq.closeTimer
                        sotf := less u.sq.sotf, reclaim := less u.sq.reclaim
                        dead := less u.sq.dead }
                    entry := u.entry.map fun e => { e with timer := e.timer - 1 }
                    repeatRec := u.repeatRec.map fun r => { r with window := r.window - 1 }
                    simBreaker := device u.simBreaker
                    simContactor := device u.simContactor }
              rectIntake := { s.rectIntake with silence := less s.rectIntake.silence }
              rect := { s.rect with acTimer := less s.rect.acTimer, watch := less s.rect.watch }
              ties :=
                s.ties.map fun r =>
                  { r with
                    gapTimer := less r.gapTimer, silence := less r.silence
                    sendTimer := less r.sendTimer }
              reports := s.reports.map fun q => { q with age := q.age + 1 }
              simAc := device s.simAc })

/-- The state right after reset meets every law of Safety.lean. -/
def Obligations.ResetMeetsEveryLaw : Prop :=
  QueuesBounded State.reset ∧ OnePerClass State.reset
    ∧ stampsRise State.reset.reports ∧ ThetaBounded State.reset ∧ AlphaInRange State.reset
    ∧ TripLineLaw State.reset ∧ AcTripLaw State.reset ∧ ModeStatesLaw State.reset

/-- Sections 1.6 and 1.7, R14 to R17, R164, R176: every step keeps every queue within its capacity and
every port count within its range. -/
def Obligations.StepKeepsQueuesBounded : Prop :=
  ∀ s t : State, QueuesBounded s → step s = .next t → QueuesBounded t

/-- R13: the field port's URGENT queue holds at most one breaker command per feeder, one test-contactor
command per feeder, one FIRING_SET and one AC breaker command, whatever step is taken. -/
def Obligations.StepKeepsOneCommandPerClass : Prop :=
  ∀ s t : State, OnePerClass s → step s = .next t → OnePerClass t

/-- R161, R164: the report queue holds its records in order of submission with non-decreasing stamps,
whatever step is taken. -/
def Obligations.StepKeepsReportOrder : Prop :=
  ∀ s t : State, stampsRise s.reports → step s = .next t → stampsRise t.reports

/-- R63: every feeder's thermal image stays between 0 and 4,194,304, whatever step is taken. -/
def Obligations.StepKeepsThetaBounded : Prop :=
  ∀ s t : State, ThetaBounded s → step s = .next t → ThetaBounded t

/-- R130: the firing delay stays within the settings in force, whatever step is taken. -/
def Obligations.StepKeepsAlphaInRange : Prop :=
  ∀ s t : State, AlphaInRange s → step s = .next t → AlphaInRange t

/-- R76: outside REPLAY a feeder's trip line is asserted exactly in TRIPPING and in a BREAKER_FAILURE
lockout, in REPLAY never, and the trip output follows the line, whatever step is taken. -/
def Obligations.StepKeepsTripLineLaw : Prop :=
  ∀ s t : State, TripLineLaw s → step s = .next t →
    TripLineLaw t ∧ ∀ f, feederTripOutput t f = (t.sq f).tripLine

/-- R139: the AC trip line is asserted exactly while the group is FAULTED outside REPLAY, whatever step
is taken. -/
def Obligations.StepKeepsAcTripLaw : Prop :=
  ∀ s t : State, AcTripLaw s → step s = .next t → AcTripLaw t ∧ acTripOutput t = t.rect.acTrip

/-- R73, R92, R97: a feeder is in CLOSING or CLOSED only in SERVICE, SHADOW or REPLAY, and no line test,
dead time or closing runs in CONFIG or SHADOW, whatever step is taken. -/
def Obligations.StepKeepsModeStates : Prop :=
  ∀ s t : State, ModeStatesLaw s → step s = .next t → ModeStatesLaw t

/-! ## Ports and the frame switch -/

/-- R3: the check over the nine bytes of the manual's example is 29B1, and the check register is 0 after a
frame's bytes and its own check.

R2: a frame that the part transmits, of up to 48 payload bytes, is classified good where it arrives,
with the fields it was sent with; a COMMAND, a REPLY or a TIE frame that the part originates never has
more. -/
def Obligations.FrameCheck : Prop :=
  (crc16 [0x31#8, 0x32#8, 0x33#8, 0x34#8, 0x35#8, 0x36#8, 0x37#8, 0x38#8, 0x39#8] = 0x29B1#16
     ∧ ∀ bytes : List Byte, crc16 (bytes ++ bytes16 (crc16 bytes)) = 0#16)
  ∧ (∀ f : Frame, f.payload.toBytes.length ≤ 48 →
       classify f.wire =
         .good { kind := f.kind, dest := f.dest, src := f.src, seq := f.seq
                 payload := f.payload.toBytes })
  ∧ (∀ (f : Frame),
       ((∃ c, f.payload = .command c) ∨ (∃ r, f.payload = .reply r) ∨ (∃ m, f.payload = .tie m)) →
         f.payload.toBytes.length ≤ 48 ∧ f.wire.length ≤ 55
           ∧ classify f.wire =
               .good { kind := f.kind, dest := f.dest, src := f.src, seq := f.seq
                       payload := f.payload.toBytes })

/-- R4 and its table: the classification by the received byte count n, the length field, the check and
the kind, in the order of the rows. -/
def Obligations.ReceivedFrameClassification : Prop :=
  ∀ bytes : List Byte,
    let n := bytes.length
    let len := (bytes.getD 4 0#8).toNat
    classify bytes =
      if n < 5 then .error .abort
      else if 48 < len then .error .length
      else if n < 7 + len then .error .abort
      else if 7 + len < n then .error .length
      else if bytes.drop (5 + len) ≠ bytes16 (crc16 (bytes.take (5 + len))) then .error .check
      else
        match Kind.ofCode (bytes.getD 0 0#8) with
        | none => .error .kind
        | some k =>
          .good
            { kind := k, dest := bytes.getD 1 0#8, src := bytes.getD 2 0#8, seq := bytes.getD 3 0#8
              payload := (bytes.drop 5).take len }

/-- R6, R7, R8: an error frame replaces the last reception error; on a GOOD or DEGRADED port it raises
the error count by 8 up to 256 and the state follows the count with its report; on a LOST port it clears
the recovery count unless that is held at 128.

R147, R148, R153, R104: a tie port's entry to LOST with its link DOWN clears the beat count and the gap
timer and nothing more. With its link UP the link goes DOWN with TIE_DOWN of value1 2 and far mode
UNKNOWN; outside REPLAY its outstanding intertrip entries are removed, a TRIPPING feeder that had one is
marked, and a feeder that waits for the far end on it, without an entry, asks for its test, which a group
RUNNING starts. (Latched tests belong to DEAD_TIME: StepKeepsModeStates.) Every other port changes nothing
but its record and the reports. -/
def Obligations.ErrorFrameServed : Prop :=
  (∀ (p : Port) (bytes : List Byte) (e : RxError) (s : State),
    s.inReset = false → classify bytes = .error e →
      ∃ t, exec (.errorFrameReceived p bytes) s = .next t ∧
        let r := s.port p
        let n := min 256 (r.errorCount + 8)
        let counted := { r with lastError := some e, errorCount := n }
        match r.state with
        | .good =>
          if 128 ≤ n then
            t.port p = { counted with state := .degraded }
              ∧ t.reports = (submit .portState (.port p) none (some 2) (some 1) s).reports
              ∧ (t.putPort p s).putReports s = s
          else t = s.setPort p counted
        | .degraded =>
          if n = 256 then
            t = portEntersLost p e (s.setPort p counted)
              ∧ ((p = .fp ∨ p = .sp) →
                  t.port p = { counted with state := .lost, recoveryCount := 0 }
                    ∧ t.reports = (submit .portLost (.port p) none (some e.code) none s).reports
                    ∧ (t.putPort p s).putReports s = s)
          else t = s.setPort p counted
        | .lost =>
          t = s.setPort p
            { r with
              lastError := some e
              recoveryCount := if r.recoveryCount = 128 then 128 else 0 })
  ∧ (∀ (k : Tie) (bytes : List Byte) (e : RxError) (s : State),
       s.inReset = false → classify bytes = .error e → (s.port k.port).state = .degraded →
       248 ≤ (s.port k.port).errorCount → s.reports.length < 30 →
         ∃ t, exec (.errorFrameReceived k.port bytes) s = .next t ∧
           let lost :=
             { s.port k.port with
               lastError := some e, errorCount := 256, state := .lost, recoveryCount := 0 }
           let reported := submit .portLost (.port k.port) none (some e.code) none s
           t.port k.port = lost
             ∧ ((s.tie k).up = false →
                 t.tie k = { s.tie k with beatCount := 0, gapTimer := none }
                   ∧ t.reports = reported.reports
                   ∧ ((t.putTie k s).putPort k.port s).putReports s = s)
             ∧ ((s.tie k).up = true →
                 (∀ f, s.rect.latched.get f = true → (s.sq f).state = .deadTime) →
                 t.tie k =
                     { s.tie k with
                       up := false, beatCount := 0, gapTimer := none, silence := none
                       farMode := none }
                   ∧ Reported t .portLost (.port k.port) none (some e.code) none
                   ∧ Reported t .tieDown (.tie k) none (some 2) none
                   ∧ (s.mode ≠ .replay → ∀ f x, (t.feeder f).entry = some x → x.tie ≠ k)
                   ∧ (s.mode ≠ .replay → ∀ f x, (s.feeder f).entry = some x → x.tie = k →
                       (s.sq f).state = .tripping → (t.sq f).intertripFailed = true)
                   ∧ (∀ f, (s.feeder f).section_.tie = some k → (s.feeder f).entry = none →
                       (s.sq f).state = .deadTime → (s.sq f).phase = some .awaitingFarEnd →
                       (s.sq f).blind = false → (s.sq f).frozen = false →
                       (s.feeder f).prot.theta ≤ thetaReclose s f →
                       s.rect.state = .running →
                         (t.sq f).state = .testing ∧ (t.sq f).test.kind = some .auto
                           ∧ (t.sq f).test.origin = some .awaitingFarEnd
                           ∧ (t.sq f).dead = none)))

/-- R8: a good frame on a LOST port is not switched; it raises the recovery count, and at 128 under AUTO
the port returns to GOOD with both counts 0, a PORT_STATE report, and its arbiter at work again.

R5, R7: a good frame on a port that is not LOST lowers its error count by 1, down to 0, and a
DEGRADED port below 128 is GOOD again with a PORT_STATE report. -/
def Obligations.GoodFrameCounted : Prop :=
  (∀ (p : Port) (bytes : List Byte) (fr : RxFrame) (s : State),
     s.inReset = false → classify bytes = .good fr → (s.port p).state = .lost →
     (s.port p).recoveryCount ≤ 128 →
       ∃ t, exec (.lostPortGoodFrame p bytes) s = .next t ∧
         let r := s.port p
         let n := min 128 (r.recoveryCount + 1)
         if n = 128 ∧ r.recovery = .auto then
           t.port p =
               { r with state := .good, errorCount := 0, recoveryCount := 0 }.arbitrate
             ∧ t.reports = (submit .portState (.port p) none (some 1) (some 3) s).reports
             ∧ (t.putPort p s).putReports s = s
         else t = s.setPort p { r with recoveryCount := n })
  ∧ (∀ (p : Port) (s : State),
       let r := s.port p
       let n := r.errorCount - 1
       let t := goodFrame p s
       if r.state = .degraded ∧ n < 128 then
         t.port p = { r with errorCount := n, state := .good }
           ∧ t.reports = (submit .portState (.port p) none (some 1) (some 2) s).reports
           ∧ (t.putPort p s).putReports s = s
       else t = s.setPort p { r with errorCount := n })

/-- R31, R32: a good frame that no rule of the frame switch takes is counted in its port's rejected-frame
count, which stops at 65535, and has no other effect.

R27: a REPLY, REPORT or STATUS of a field node whose up-pass set holds its kind, and which no block
consumes, is offered to the station port NORMAL queue with the station address as destination.

R30: a COMMAND or MANAGE of the gateway for a field node whose down-pass set holds its kind is offered
to the field port NORMAL queue as it came.

R16: a forwarded frame joins the tail of a NORMAL queue that holds fewer than 32 frames, and is
otherwise dropped and counted; nothing else of the part changes.

R33: an accepted field sample counts toward D; the D-th is copied to the station port NORMAL queue as
it came, with the station address as destination, and the count starts again; with D = 0 nothing is
counted or copied. -/
def Obligations.FramesSwitched : Prop :=
  (∀ (p : Port) (bytes : List Byte) (fr : RxFrame) (s : State),
     Arrives p bytes fr s → (s.port p).rejected ≤ 65535 → switchRejects p s fr →
       ∃ t, exec (.frameRejected p bytes) s = .next t
         ∧ (t.port p).rejected = min 65535 ((s.port p).rejected + 1)
         ∧ t.putPort p (goodFrame p s) = goodFrame p s
         ∧ { t.port p with rejected := (s.port p).rejected } = (goodFrame p s).port p)
  ∧ (∀ (bytes : List Byte) (fr : RxFrame) (s : State),
       let row := s.nodeRow fr.src
       Arrives .fp bytes fr s → row.role ≠ .unused → row.side = .field →
       ((fr.kind = .reply ∧ row.upReply = true) ∨ (fr.kind = .report ∧ row.upReport = true)
         ∨ (fr.kind = .status ∧ row.upStatus = true ∧ roleSendsStatus row.role = false)) →
         exec (.forwardUp bytes) s =
           .next
             (offerForwarded .sp
               { kind := fr.kind, dest := (findNode s .gateway none).getD 63#8, src := fr.src
                 seq := fr.seq, payload := .bytes fr.payload }
               (goodFrame .fp s)))
  ∧ (∀ (bytes : List Byte) (fr : RxFrame) (s : State),
       let row := s.nodeRow fr.dest
       Arrives .sp bytes fr s → (s.nodeRow fr.src).role = .gateway → fr.dest ≠ s.ownByte →
       roleIsField row.role = true →
       ((fr.kind = .command ∧ row.downCommand = true) ∨ (fr.kind = .manage ∧ row.downManage = true)) →
         exec (.forwardDown bytes) s =
           .next
             (offerForwarded .fp
               { kind := fr.kind, dest := fr.dest, src := fr.src, seq := fr.seq
                 payload := .bytes fr.payload }
               (goodFrame .sp s)))
  ∧ (∀ (p : Port) (frame : Frame) (s : State),
       let r := s.port p
       let t := offerForwarded p frame s
       (r.normal.length < 32 → t.port p = { r with normal := r.normal ++ [frame] }.arbitrate)
       ∧ (32 ≤ r.normal.length → r.forwardedDrop ≤ 65535 →
           t.port p = { r with forwardedDrop := min 65535 (r.forwardedDrop + 1) })
       ∧ t.putPort p s = s)
  ∧ (∀ (f : FeederId) (fr : RxFrame) (s : State),
       let u := s.feeder f
       let d := u.row.intake.decimation
       (d = 0 → decimate f fr s = s)
       ∧ (d ≠ 0 → u.decim + 1 ≠ d →
           decimate f fr s = s.setFeeder f { u with decim := u.decim + 1 })
       ∧ (d ≠ 0 → u.decim + 1 = d →
           decimate f fr s =
             offerForwarded .sp
               { kind := .sample, dest := stationAddress s, src := fr.src, seq := fr.seq
                 payload := .bytes fr.payload }
               (s.setFeeder f { u with decim := 0 })))

/-- R26, R29, R176: a MANAGE frame of the gateway or of the panel for the part joins the request queue
with its source, requester and request number, or is answered BUSY when 8 requests are queued.

R175: a payload shorter than 2 bytes, an unknown request type or a wrong length is queued as a bad
request that keeps the type byte received (0 where the payload is empty: log entry 6). -/
def Obligations.ManageFrameQueued : Prop :=
  (∀ (p : Port) (bytes : List Byte) (fr : RxFrame) (s : State) (source : ReqSource),
    Arrives p bytes fr s → fr.kind = .manage → fr.dest = s.ownByte →
    ((p = .sp ∧ source = .fromStation ∧ (s.nodeRow fr.src).role = .gateway)
      ∨ (p = .fp ∧ source = .fromPanel ∧ (s.nodeRow fr.src).role = .panel
          ∧ (s.nodeRow fr.src).side = .field)) →
      let k : Ticket :=
        { source := source, requester := fr.src, number := fr.payload.getD 1 0#8 }
      let r := readRequest fr.payload
      exec (.manageReceived p bytes) s =
        if s.requests.length < 8 then
          .next { goodFrame p s with requests := s.requests ++ [{ ticket := k, request := r }] }
        else .next (answer k (requestType r) .busy (goodFrame p s)))
  ∧ readRequest [] = .bad (.malformed 0#8)
  ∧ (∀ type : Byte, readRequest [type] = .bad (.malformed type))
  ∧ (∀ (type number : Byte) (fields : List Byte),
       (Config.requestOf type fields = none →
         readRequest (type :: number :: fields) = .bad (.malformed type))
       ∧ (∀ r, Config.requestOf type fields = some r → (∀ x, r ≠ .bad (.malformed x)) →
           readRequest (type :: number :: fields) = r))

/-- R12, R175: a REPLY goes out on the port of its request's source, to the requester, with the part's
own node and the port's next originated number; it joins the NORMAL queue or is dropped when that holds
32 frames, and the number advances in either case.

R181: a reply of several parts changes nothing but the reply port, whatever its result, and its
originated number advances once for each part. -/
def Obligations.RepliesOffered : Prop :=
  (∀ (k : Ticket) (type : RequestType) (status : Status) (part parts : Nat) (body : ReplyBody)
     (s : State),
     let p : Port := match k.source with | .fromStation => .sp | .fromPanel => .fp
     let r := s.port p
     let frame : Frame :=
       { kind := .reply, dest := k.requester, src := s.ownNode.setWidth 8, seq := r.nextSeq
         payload :=
           .reply
             { type := type, number := k.number, status := status, part := part, parts := parts
               body := body } }
     let t := sendReply k type status part parts body s
     t.port p =
         PortRec.arbitrate
           { r with
             nextSeq := r.nextSeq + 1#8
             normal := if r.normal.length < 32 then r.normal ++ [frame] else r.normal }
       ∧ t.putPort p s = s)
  ∧ (∀ (k : Ticket) (type : RequestType) (body : ReplyBody) (s : State),
       let t := answerBody k type body s
       let p := replyPort k.source
       t.putPort p s = s
         ∧ (t.port p).nextSeq = (s.port p).nextSeq + BitVec.ofNat 8 (1 + Config.extraParts body)
         ∧ (t.port p).urgent.length ≤ (s.port p).urgent.length
         ∧ (t.port p).state = (s.port p).state)

/-- R13: an offered command replaces the queued command of its class in place, and otherwise joins the
tail of the field port URGENT queue.

R14: an offered TIE frame replaces a queued one of its kind and section in place; else it joins a
queue of fewer than 24 frames; on a full queue a BEAT is dropped, and another frame removes the oldest
BEAT, or the oldest TRIP_ACK where no BEAT is queued, and joins the tail.

R12, R145: a TIE frame is offered with destination 63, the part's own node and the port's next
originated number, which advances whatever becomes of the frame. -/
def Obligations.UrgentQueuesResolve : Prop :=
  (∀ (c : FieldCommand) (frame : Frame) (a b : List Frame) (old : Frame),
     (∀ x ∈ a, isClass c x = false) →
       (isClass c old = true → offeredCommand c frame (a ++ old :: b) = a ++ frame :: b)
       ∧ (a.length < 24 → offeredCommand c frame a = a ++ [frame]))
  ∧ (∀ (m : TieMsg) (frame : Frame) (a b : List Frame) (old : Frame),
       frame.payload = .tie m → (∀ x ∈ a, replacesTie m x = false) →
         (replacesTie m old = true → offeredTie m frame (a ++ old :: b) = a ++ frame :: b)
         ∧ (a.length < 24 → offeredTie m frame a = a ++ [frame])
         ∧ (24 ≤ a.length → (∃ x, m = .beat x) → offeredTie m frame a = a)
         ∧ (∀ u v : List Frame, a = u ++ old :: v → 24 ≤ a.length → (∀ x, m ≠ .beat x) →
             (((∀ x ∈ u, isBeat x = false) ∧ isBeat old = true)
               ∨ ((∀ x ∈ a, isBeat x = false) ∧ (∀ x ∈ u, isAck x = false) ∧ isAck old = true)) →
               offeredTie m frame a = u ++ v ++ [frame]))
  ∧ (∀ (k : Tie) (m : TieMsg) (s : State),
       let p : Port := match k with | .a => .ta | .b => .tb
       let r := s.port p
       let frame : Frame :=
         { kind := .tie, dest := 63#8, src := s.ownNode.setWidth 8, seq := r.nextSeq, payload := .tie m }
       let t := offerTie k m s
       t.port p =
           PortRec.arbitrate
             { r with urgent := offeredTie m frame r.urgent, nextSeq := r.nextSeq + 1#8 }
         ∧ t.putPort p s = s)

/-- R11: at the end of a transmission the transmitter is free, and the arbiter starts the head of the
URGENT queue, else the head of the NORMAL queue, unless the port is LOST; a port that sends nothing, and
everything beside the port, is unchanged. -/
def Obligations.TransmissionEnds : Prop :=
  ∀ (p : Port) (s : State), s.inReset = false →
    ∃ t, exec (.transmitEnd p) s = .next t ∧ t.putPort p s = s ∧
      let r := s.port p
      t.port p =
        if r.sending = none then r
        else if r.state = .lost then { r with sending := none }
        else
          match r.urgent, r.normal with
          | f :: rest, _ => { r with urgent := rest, sending := some f }
          | [], f :: rest => { r with normal := rest, sending := some f }
          | [], [] => { r with sending := none }

/-! ## Reports -/

/-- R161, R164: a submitted record is stamped with station time, or with the newest queued stamp when
station time is below it, takes the time-valid flag and the records lost before it, and joins a queue of
fewer than 64 records; on a full queue it is dropped and the loss count rises, up to 255. Nothing else
changes. -/
def Obligations.ReportSubmitted : Prop :=
  ∀ (kind : ReportKind) (source : Source) (cause : Option Cause) (v1 v2 : Option Int) (s : State),
    let t := submit kind source cause v1 v2 s
    (s.reports.length < 64 →
      ∃ q, t.reports = s.reports ++ [q] ∧ t.loss = 0 ∧ q.age = 0
        ∧ q.record.kind = kind ∧ q.record.source = source ∧ q.record.cause = cause
        ∧ q.record.value1 = v1 ∧ q.record.value2 = v2 ∧ q.record.timeValid = s.timeValid
        ∧ q.record.lostBefore = (if s.loss = 0 then none else some s.loss)
        ∧ (∀ newest, s.reports.getLast? = some newest →
            q.record.time =
              if (s.time - newest.record.time).toInt < 0 then newest.record.time else s.time)
        ∧ (s.reports = [] → q.record.time = s.time))
    ∧ (64 ≤ s.reports.length → s.loss ≤ 255 →
        t.reports = s.reports ∧ t.loss = min 255 (s.loss + 1))
    ∧ t.putReports s = s

/-- R164, R165: a due REPORT frame takes the oldest records that fit 48 bytes from the queue, in order,
and is offered to the station port: to URGENT when it holds an URGENT record, else to NORMAL, where a full
queue drops it and counts its records lost. When no frame is due or can be taken nothing changes.

R165: the batch timeout makes the oldest queued record due, so that a REPORT frame is due whenever the
station port is not LOST; nothing but that record's time in the queue changes. -/
def Obligations.ReportFrameBuilt : Prop :=
  (∀ s : State, s.inReset = false →
     (reportReady s = false → exec .reportBuild s = .next s)
     ∧ (reportReady s = true →
         ∃ t batch, exec .reportBuild s = .next t
           ∧ s.reports = batch ++ t.reports ∧ batch ≠ []
           ∧ (batch.map fun q => q.record.size).sum ≤ 48
           ∧ (∀ q rest, t.reports = q :: rest →
               48 < (batch.map fun q => q.record.size).sum + q.record.size)
           ∧ (t.putPort .sp s).putReports s = s
           ∧ let r := s.port .sp
             let frame : Frame :=
               { kind := .report, dest := stationAddress s, src := s.ownByte, seq := r.nextSeq
                 payload := .reports (batch.map QueuedReport.record) }
             if (batch.any fun q => q.record.urgent) = true then
               t.port .sp =
                   PortRec.arbitrate
                     { r with urgent := r.urgent ++ [frame], nextSeq := r.nextSeq + 1#8 }
                 ∧ t.loss = s.loss
             else if r.normal.length < 32 then
               t.port .sp =
                   PortRec.arbitrate
                     { r with normal := r.normal ++ [frame], nextSeq := r.nextSeq + 1#8 }
                 ∧ t.loss = s.loss
             else
               t.port .sp = PortRec.arbitrate { r with nextSeq := r.nextSeq + 1#8 }
                 ∧ t.loss = min 255 (s.loss + batch.length)))
  ∧ (∀ (s : State) (q : QueuedReport) (rest : List QueuedReport),
       s.inReset = false → s.reports = q :: rest →
         ∃ t, exec .batchTimeout s = .next t
           ∧ ((s.port .sp).state ≠ .lost → reportDue t = true)
           ∧ t.reports.map QueuedReport.record = s.reports.map QueuedReport.record
           ∧ { t with reports := s.reports } = s)

/-! ## Sample intake and protection -/

/-- R41, R42, R43, R44: an accepted sample of a feeder is recorded as its last sequence and last accepted
sample, with its saturated values, and enters the history ring as the newest of at most 128 entries with
the latest Ub; outside OUT the blind timer restarts and BLIND ends. No other feeder's intake record, no
setting and no rectifier sample changes.

R53: a sample that sets FROZEN leaves the IOC and DDL records at rest. -/
def Obligations.FeederSampleAccepted : Prop :=
  ∀ (f : FeederId) (bytes : List Byte) (fr : RxFrame) (x : FeederSample) (g : Nat) (s : State),
    FromField .feederMu (some f) bytes fr s → fr.kind = .sample →
    readFeederSample fr.payload = some x → judgeGap (s.feeder f).intake.lastSeq fr.seq = some g →
    x.unitFault = false →
      ∃ t, exec (.feederSampleReceived bytes) s = .next t ∧
        let k := (s.feeder f).intake
        let k' := (t.feeder f).intake
        let i := if x.iOver then (if 0 ≤ x.i then 32767 else -32768) else x.i
        let u := if x.uOver then 4095 else x.u
        let h := handedGap k.resumption g k.carry
        k'.lastSeq = some fr.seq ∧ k'.resumption = false ∧ k'.carry = 0 ∧ k'.faultOnset = false
          ∧ k'.lastAccepted = some (i, u)
          ∧ k'.ring =
              (if k.ring.length < 128 then k.ring else k.ring.drop 1)
                ++ [{ i := i, u := u, ub := s.rectIntake.ub, seq := fr.seq
                      gap := if 1 < h then some h else none }]
          ∧ ((s.sq f).state ≠ .out →
              k'.blindTimer = some ((s.feeder f).row.intake.tBlind * 1000)
                ∧ (t.sq f).blind = false)
          ∧ ((s.sq f).frozen = false → (t.sq f).frozen = true →
              (t.feeder f).prot.iocCount = 0 ∧ (t.feeder f).prot.ddl = Ddl.rest)
          ∧ (∀ e, e ≠ f → (t.feeder e).intake = (s.feeder e).intake)
          ∧ (∀ e, (t.feeder e).row = (s.feeder e).row)
          ∧ t.rectIntake = s.rectIntake ∧ t.nodes = s.nodes ∧ t.requests = s.requests
          ∧ t.mode = s.mode ∧ t.time = s.time

/-- R37: with no last sequence a sample passes with gap 1; else the gap is the difference modulo 256, a
gap of 0 is a duplicate, 129 to 255 is stale, and 1 to 128 passes. R38: the handed gap is 1 on a
resumption, and else the gap plus the missing carry up to 255.

R39: a feeder sample under UNIT_FAULT records its sequence number, adds its gap to the missing carry
up to 255, and is reported once until a sample is accepted; nothing else changes.

R35, R36, R50: a feeder sample in REPLAY, of a length other than 6, or a duplicate or stale one, is
counted as rejected on the field port and has no other effect. -/
def Obligations.FeederSampleNotAccepted : Prop :=
  ((∀ q : Byte, judgeGap none q = some 1)
     ∧ (∀ l q : Byte,
         let g := (q.toNat + 256 - l.toNat) % 256
         judgeGap (some l) q = if g = 0 then none else if 129 ≤ g then none else some g)
     ∧ (∀ g carry : Nat, handedGap true g carry = 1 ∧ handedGap false g carry = min 255 (g + carry)))
  ∧ (∀ (f : FeederId) (bytes : List Byte) (fr : RxFrame) (x : FeederSample) (g : Nat) (s : State),
       FromField .feederMu (some f) bytes fr s → fr.kind = .sample →
       readFeederSample fr.payload = some x → judgeGap (s.feeder f).intake.lastSeq fr.seq = some g →
       x.unitFault = true →
         let u := s.feeder f
         let taken :=
           (goodFrame .fp s).setFeeder f
             { u with
               intake :=
                 { u.intake with
                   lastSeq := some fr.seq
                   carry := min 255 (u.intake.carry + g)
                   faultOnset := true } }
         exec (.feederSampleReceived bytes) s =
           .next
             (if u.intake.faultOnset then taken
              else submit .unitFault (.feeder f) none (some fr.seq.toNat) none taken))
  ∧ (∀ (f : FeederId) (bytes : List Byte) (fr : RxFrame) (s : State),
       Arrives .fp bytes fr s → (s.nodeRow fr.src).role = .feederMu →
       (s.nodeRow fr.src).binding = some f → (s.nodeRow fr.src).side = .field → fr.kind = .sample →
       (s.mode = .replay ∨ fr.payload.length ≠ 6
         ∨ judgeGap (s.feeder f).intake.lastSeq fr.seq = none) →
         exec (.feederSampleReceived bytes) s = .next (reject .fp (goodFrame .fp s)))

/-- R45: while FROZEN is clear, in CLOSED with the group RUNNING or PROBE, an accepted sample that is no
resumption, repeats the previous current and is at least I_ripple_min raises the frozen count; any other
sets it to 0. R46: while FROZEN is set under AUTO, a differing sample raises the clearing count and the
32nd clears FROZEN with its report; an equal one or a resumption sets the count to 0; under LATCH it stays
0. R53: setting FROZEN puts IOC and DDL at rest and keeps the thermal image. -/
def Obligations.FrozenSupervision : Prop :=
  ∀ (f : FeederId) (x : FeederTaken) (s : State),
    let u := s.feeder f
    let k := u.intake
    let counts :=
      u.sq.state = .closed ∧ (s.rect.state = .running ∨ s.rect.state = .probe)
        ∧ x.resumption = false ∧ u.row.intake.iRippleMin ≤ x.i.natAbs ∧ x.i = x.previous
    (u.sq.frozen = false → counts → k.frozenCount + 1 < u.row.intake.wF →
        frozenSample f x s = s.setIntake f { k with frozenCount := k.frozenCount + 1 })
    ∧ (u.sq.frozen = false → counts → u.row.intake.wF ≤ k.frozenCount + 1 →
        ((frozenSample f x s).sq f).frozen = true
          ∧ ((frozenSample f x s).feeder f).intake =
              { k with frozenCount := 0, clearingCount := 0 }
          ∧ ((frozenSample f x s).feeder f).prot.iocCount = 0
          ∧ ((frozenSample f x s).feeder f).prot.ddl = Ddl.rest
          ∧ ((frozenSample f x s).feeder f).prot.theta = u.prot.theta)
    ∧ (u.sq.frozen = false → ¬ counts →
        frozenSample f x s = s.setIntake f { k with frozenCount := 0 })
    ∧ (u.sq.frozen = true → u.row.intake.policy = .latch →
        frozenSample f x s = s.setIntake f { k with clearingCount := 0 })
    ∧ (u.sq.frozen = true → u.row.intake.policy = .auto → (x.resumption = true ∨ x.i = x.previous) →
        frozenSample f x s = s.setIntake f { k with clearingCount := 0 })
    ∧ (u.sq.frozen = true → u.row.intake.policy = .auto → x.resumption = false → x.i ≠ x.previous →
        k.clearingCount + 1 < 32 →
        frozenSample f x s = s.setIntake f { k with clearingCount := k.clearingCount + 1 })
    ∧ (u.sq.frozen = true → u.row.intake.policy = .auto → x.resumption = false → x.i ≠ x.previous →
        32 ≤ k.clearingCount + 1 →
        frozenSample f x s =
          submit .frozenClear (.feeder f) none none none
            (s.setFeeder f
              { u with intake := { k with clearingCount := 0 }, sq := { u.sq with frozen := false } }))

/-- R40, R47, R48: an accepted rectifier sample gives the latest Ub, Ir and stack temperature, saturated,
sets busbar-valid and arriving, restarts the silence timer with 20 ms and becomes the previous stamp. No
other part of intake and no setting changes.

R49: the silence timer's expiry clears busbar-valid and arriving, sets the last sequence to none and a
resumption pending, and changes nothing else; a stopped timer does nothing (log entry 3).

R40, R135: outside PARKED and FAULTED a sample of at least I_rect_trip, as saturated, raises the overcurrent
count, which a handed gap above 4 or a resumption starts again, and a smaller one sets it to 0; at C_rect
the group is FAULTED with OVERCURRENT, in SHADOW (R141) reported as a WOULD_TRIP alone.

R136: with valid RECT settings, the stack warning flag sets at T_warn and clears below T_warn less the
hysteresis, each with its report, and the stack trip flag at T_trip in the same way. The onset faults the
group under LATCH; under RETRY, with no test being served, RUNNING goes to HOLD with STACK_HOT and retry
pending, PROBE to its return target, STARTING to PARKED, and PARKED and HOLD stay. The end of the flag
turns retry pending into run pending in HOLD and PROBE, and else ends a STACK_HOT cause of HOLD as REST.

R134: when RUNNING or PROBE ends so, the tests of the testers are aborted with SUPPLY_LOST.

R39, R47: a rectifier sample under UNIT_FAULT records its sequence number and its gap, clears busbar-valid,
and is reported once until a sample is accepted; one in REPLAY, a malformed, duplicate or stale one is
counted as rejected on the field port; neither does anything else. -/
def Obligations.RectSampleAndSilence : Prop :=
  (∀ (stamp : Stamp) (bytes : List Byte) (fr : RxFrame) (x : RectSample) (g : Nat)
     (binding : Option FeederId) (s : State),
     FromField .rectMu binding bytes fr s → fr.kind = .sample →
     readRectSample fr.payload = some x → judgeGap s.rectIntake.lastSeq fr.seq = some g →
     x.unitFault = false →
       ∃ t, exec (.rectSampleReceived stamp bytes) s = .next t
         ∧ t.rectIntake =
             { lastSeq := some fr.seq, resumption := false, carry := 0, faultOnset := false
               ub := if x.ubOver then 4095 else x.ub
               ir := saturatedIr x
               temp := x.temp, busbarValid := true, prevStamp := some stamp, timeSet := false
               silence := some 20000, arriving := true }
         ∧ (∀ e, (t.feeder e).intake = (s.feeder e).intake ∧ (t.feeder e).row = (s.feeder e).row
             ∧ (t.feeder e).prot.theta = (s.feeder e).prot.theta)
         ∧ t.nodes = s.nodes ∧ t.requests = s.requests ∧ t.rectRow = s.rectRow ∧ t.mode = s.mode
         ∧ t.time = s.time)
  ∧ (∀ s : State, s.inReset = false →
       exec .rectSilenceExpired s =
         .next
           (if s.rectIntake.silence = none then s
            else
             { s with
               rectIntake :=
                 { s.rectIntake with
                   silence := none, busbarValid := false, arriving := false, lastSeq := none
                   resumption := true, carry := 0 } }))
  ∧ (∀ (stamp : Stamp) (bytes : List Byte) (fr : RxFrame) (x : RectSample) (g : Nat) (s : State),
       TakesRectSample bytes fr x g s → x.crossing = none → s.reports.length < 50 →
       (s.rectValid = false ∨ (s.rect.stackTrip = false ∧ x.temp < (s.rectRow.tTrip : Int))) →
         let h := handedGap s.rectIntake.resumption g s.rectIntake.carry
         let start := if 4 < h ∨ s.rectIntake.resumption = true then 0 else s.rect.overcurrent
         let tested := s.rect.state ≠ .parked ∧ s.rect.state ≠ .faulted
         let above := (s.rectRow.iRectTrip : Int) ≤ saturatedIr x
         let trips := tested ∧ above ∧ s.rectRow.cRect ≤ start + 1
         ∃ t, exec (.rectSampleReceived stamp bytes) s = .next t
           ∧ (¬ trips → t.rect.state = s.rect.state ∧ t.rect.acTrip = s.rect.acTrip
               ∧ t.feeders = s.feeders)
           ∧ (tested → ¬ above → t.rect.overcurrent = 0)
           ∧ (tested → above → start + 1 < s.rectRow.cRect → t.rect.overcurrent = start + 1)
           ∧ (¬ tested → t.rect.overcurrent = s.rect.overcurrent)
           ∧ (trips → s.mode ≠ .shadow →
               t.rect.state = .faulted ∧ t.rect.firstFault = some .overcurrent
                 ∧ t.rect.faults.overcurrent = true ∧ t.rect.acTrip = true
                 ∧ t.rect.overcurrent = 0
                 ∧ Reported t .rectFault .rect (some .overcurrent) (some s.rect.acPos.code) none)
           ∧ (trips → s.mode = .shadow →
               t.rect.state = s.rect.state ∧ t.rect.overcurrent = 0 ∧ t.feeders = s.feeders
                 ∧ Reported t .wouldTrip .rect (some .overcurrent) none none))
  ∧ (∀ (stamp : Stamp) (bytes : List Byte) (fr : RxFrame) (x : RectSample) (g : Nat) (s : State),
       TakesRectSample bytes fr x g s → x.crossing = none →
       saturatedIr x < (s.rectRow.iRectTrip : Int) → s.rectValid = true → s.reports.length < 30 →
         let r := s.rect
         let row := s.rectRow
         let quiet := ∀ f, r.testers.get f = false
         let onset := r.stackTrip = false ∧ (row.tTrip : Int) ≤ x.temp
         let ends := r.stackTrip = true ∧ x.temp < (row.tTrip : Int) - row.hysteresis
         ∃ t, exec (.rectSampleReceived stamp bytes) s = .next t
           ∧ t.rect.stackWarn =
               (if r.stackWarn then !decide (x.temp < (row.tWarn : Int) - row.hysteresis)
                else decide ((row.tWarn : Int) ≤ x.temp))
           ∧ (t.rect.stackWarn ≠ r.stackWarn →
               Reported t (if r.stackWarn then .stackClear else .stackWarn) .rect none (some x.temp)
                 none)
           ∧ t.rect.stackTrip = (if onset then true else if ends then false else r.stackTrip)
           ∧ (onset → s.mode ≠ .shadow →
               (row.stackPolicy = .latch → r.state ≠ .faulted →
                 t.rect.state = .faulted ∧ t.rect.firstFault = some .stackHot ∧ t.rect.acTrip = true)
               ∧ (row.stackPolicy = .retry → r.state = .running → quiet →
                   t.rect.state = .hold ∧ t.rect.cause = .stackHot ∧ t.rect.retryPending = true
                     ∧ t.feeders = s.feeders)
               ∧ (row.stackPolicy = .retry → r.state = .probe → quiet →
                   t.rect.state = (match r.probeTarget with | .hold => .hold | .parked => .parked)
                     ∧ t.rect.cause = .stackHot ∧ t.feeders = s.feeders)
               ∧ (row.stackPolicy = .retry → r.state = .starting →
                   t.rect.state = .parked ∧ t.rect.cause = .stackHot
                     ∧ t.rect.acTimer = some 1000000 ∧ t.feeders = s.feeders)
               ∧ ((r.state = .faulted
                    ∨ (row.stackPolicy = .retry ∧ (r.state = .parked ∨ r.state = .hold))) →
                   t.rect.state = r.state ∧ t.rect.cause = r.cause ∧ t.feeders = s.feeders))
           ∧ (onset → s.mode = .shadow →
               t.rect.state = r.state ∧ t.feeders = s.feeders
                 ∧ ((row.stackPolicy = .latch ∧ r.state ≠ .faulted)
                      ∨ (row.stackPolicy = .retry
                          ∧ (r.state = .running ∨ r.state = .probe ∨ r.state = .starting)) →
                     Reported t .wouldTrip .rect (some .stackHot) none none))
           ∧ (ends →
               t.rect.state = r.state ∧ t.rect.retryPending = false ∧ t.feeders = s.feeders
                 ∧ t.rect.runPending =
                     (r.runPending
                       || (r.retryPending && (r.state == .hold || r.state == .probe)))
                 ∧ t.rect.cause =
                     (if r.retryPending = false ∧ r.state = .hold ∧ r.cause = .stackHot then .rest
                      else r.cause))
           ∧ (onset → s.mode ≠ .shadow → row.stackPolicy = .retry →
               (r.state = .running ∨ r.state = .probe) →
               (∀ f, r.testers.get f = true →
                 (s.sq f).state = .testing ∧ (s.sq f).openRequested = false
                   ∧ (s.sq f).test.kind = some .auto ∧ (s.sq f).shotTaken = true) →
               (∀ f, r.latched.get f = false) →
                 t.rect.state =
                     (if r.state = .running then .hold
                      else match r.probeTarget with | .hold => .hold | .parked => .parked)
                   ∧ t.rect.cause = .stackHot ∧ (∀ f, t.rect.testers.get f = false)
                   ∧ ∀ f, r.testers.get f = true → AbortedTo f .supplyLost none none s t))
  ∧ (∀ (stamp : Stamp) (bytes : List Byte) (fr : RxFrame) (x : RectSample) (g : Nat)
     (binding : Option FeederId) (s : State),
       FromField .rectMu binding bytes fr s → fr.kind = .sample →
       readRectSample fr.payload = some x → judgeGap s.rectIntake.lastSeq fr.seq = some g →
       x.unitFault = true →
         let k := s.rectIntake
         let taken :=
           { goodFrame .fp s with
             rectIntake :=
               { k with
                 lastSeq := some fr.seq, carry := min 255 (k.carry + g), faultOnset := true
                 busbarValid := false } }
         exec (.rectSampleReceived stamp bytes) s =
           .next
             (if k.faultOnset then taken
              else submit .unitFault .rect none (some fr.seq.toNat) none taken))
  ∧ (∀ (stamp : Stamp) (bytes : List Byte) (fr : RxFrame) (s : State),
       Arrives .fp bytes fr s → (s.nodeRow fr.src).role = .rectMu → (s.nodeRow fr.src).side = .field →
       fr.kind = .sample →
       let crosses := (fr.payload.getD 5 0#8).getLsbD 3 = true
       (s.mode = .replay ∨ (crosses ∧ fr.payload.length ≠ 11) ∨ (¬ crosses ∧ fr.payload.length ≠ 9)
         ∨ judgeGap s.rectIntake.lastSeq fr.seq = none) →
         exec (.rectSampleReceived stamp bytes) s = .next (reject .fp (goodFrame .fp s)))

/-- R55, R69: the IOC confirm count of an armed sample with IOC enabled: a handed gap above 4 or a
resumption starts it again, a magnitude of at least I_ioc counts up to C, a smaller one clears it; the
element fires exactly when the count has reached C on a qualifying sample with the trip hold clear.

R57 to R61: the rate-of-rise element on an armed sample with DDL enabled: the slope, the start of an
episode, its advance, the trip test and the end test. -/
def Obligations.ProtectionElements : Prop :=
  (∀ (row : ProtSettings) (x : FeederTaken) (count : Nat) (hold : Bool),
     row.iocOn = true → count ≤ row.c → 1 ≤ row.c →
       let start := if 4 < x.gap ∨ x.resumption = true then 0 else count
       (x.i.natAbs < row.iIoc →
         iocCount row x count = 0 ∧ iocFires row x count hold = false)
       ∧ (row.iIoc ≤ x.i.natAbs →
           iocCount row x count = min row.c (start + 1)
             ∧ (iocFires row x count hold = true ↔ hold = false ∧ row.c ≤ start + 1)))
  ∧ (∀ (row : ProtSettings) (x : FeederTaken) (hold : Bool) (e : Ddl),
       row.ddlOn = true →
         let slope := (x.i - x.previous).tdiv x.gap
         let started : Ddl := { phase := .rising, iStart := x.previous, d := x.gap, q := 0 }
         let advanced : Ddl := { e with d := e.d + x.gap, q := if slope < row.sEnd then e.q + 1 else 0 }
         let now := if e.phase = .idle then started else advanced
         let rise := x.i - now.iStart
         ((4 < x.gap ∨ x.resumption = true) → ddlStep row x hold e = (Ddl.rest, .quiet))
         ∧ (x.gap ≤ 4 → x.resumption = false →
             (e.phase = .idle → slope < row.sStart → ddlStep row x hold e = (e, .quiet))
             ∧ ((e.phase = .rising ∨ (row.sStart : Int) ≤ slope) →
                 ((row.dISet : Int) ≤ rise → row.dMin ≤ now.d → now.d ≤ row.dMax →
                   ddlStep row x hold e = (Ddl.rest, if hold then .quiet else .fires rise))
                 ∧ (row.dMax < now.d → ddlStep row x hold e = (Ddl.rest, .slowRise rise now.d))
                 ∧ (¬ ((row.dISet : Int) ≤ rise ∧ row.dMin ≤ now.d) → now.d ≤ row.dMax →
                     ddlStep row x hold e = if row.e ≤ now.q then (Ddl.rest, .quiet) else (now, .quiet)))))

/-- R63: θ moves toward the square of the scaled current by the difference divided by 2^k, truncated, and
by at least 1 while a difference remains; it never passes its target, stays within 0 to 4,194,304, and is
still only at the target.

R64, R65: on an accepted sample of a feeder whose row is valid θ takes its update and is compared with
the thresholds: the alarm sets at θ_alarm and clears below θ_reclose, each with its report; with the row
invalid nothing changes. -/
def Obligations.ThermalImage : Prop :=
  (∀ (k : Nat) (i : Int) (theta : Nat), i.natAbs ≤ 32768 → theta ≤ 4194304 →
     let c := i.natAbs / 16
     let target := c * c
     let next := thermalNext k i theta
     let diff : Int := (target : Int) - theta
     let step : Int :=
       if diff.tdiv (2 ^ k) = 0 then (if 0 < diff then 1 else if diff < 0 then -1 else 0)
       else diff.tdiv (2 ^ k)
     (next : Int) = theta + step
       ∧ (theta ≤ target → theta ≤ next ∧ next ≤ target)
       ∧ (target ≤ theta → target ≤ next ∧ next ≤ theta)
       ∧ (next = theta ↔ theta = target) ∧ next ≤ 4194304)
  ∧ (∀ (f : FeederId) (i : Int) (s : State),
       let u := s.feeder f
       let theta := thermalNext u.row.prot.k i u.prot.theta
       let th := fun x : Nat => (x / 16) * (x / 16)
       let t := thermalSample f i s
       (u.valid = false → t = s)
       ∧ (u.valid = true →
           (t.feeder f).prot.theta = theta
             ∧ (t.feeder f).prot.alarm =
                 (if u.prot.alarm then decide (th u.row.prot.iReclose ≤ theta)
                  else decide (th u.row.prot.iAlarm ≤ theta))
             ∧ t.reports =
                 (if (t.feeder f).prot.alarm = u.prot.alarm then s
                  else
                   submit (if u.prot.alarm then .thermalClear else .thermalAlarm) (.feeder f) none
                     (some theta) none s).reports
             ∧ (t.putFeeder f s).putReports s = s))

/-- R52, R55, R68, R83: in SERVICE, a feeder that is CLOSED, CLOSING or OPENING trips on the sample that
brings its IOC confirm count to C: TRIPPING with the trip line asserted, IOC as primary cause, the open
timer running for t_open_max, the other timers stopped, the shot count kept, and TRIP on the field port
for its breaker unit.

R52, R60, R66, R68, R83: so does it for every set of elements that fires on one sample, IOC, DDL (with its
ΔI) and THERMAL (with θ after the sample's update): the causes are the set, the primary cause its first,
the TRIP report carries I with ΔI or θ, and the thermal image keeps its value. Where none fires and the
blind action is ALARM the feeder keeps its state.

R83, R150, R153: a trip whose primary cause is IOC or DDL intertrips the far end with that cause, as
Safety.Intertripped says of an UP link, a DOWN link and a feeder without a tie; one of THERMAL does not.

R71: in SHADOW a feeder mirrored CLOSED reports WOULD_TRIP instead, with the same fields, its records at
rest and the trip hold set; under the capture flag a capture is triggered; the feeder and the field port
stay as they are. (That the sample that raises the request leaves the trip hold set, although every
every element may then be quiet, is the model's reading of R68 beside R69, log entry 20.)

R69: with the trip hold set nothing fires: the IOC count, the episode and the thermal image move as ever, no
TRIP and no WOULD_TRIP is reported, the feeder keeps its state under the blind action ALARM, and the hold is
cleared exactly where every enabled element is quiet after the sample. -/
def Obligations.OvercurrentTrips : Prop :=
  (∀ (f : FeederId) (bytes : List Byte) (fr : RxFrame) (x : FeederSample) (g : Nat) (n : Byte)
    (s : State),
    FromField .feederMu (some f) bytes fr s → fr.kind = .sample →
    readFeederSample fr.payload = some x → judgeGap (s.feeder f).intake.lastSeq fr.seq = some g →
    x.unitFault = false → s.mode = .service →
    ((s.sq f).state = .closed ∨ (s.sq f).state = .closing ∨ (s.sq f).state = .opening) →
    findNode s .breaker (some f) = some n → (s.port .fp).urgent.length < 24 →
    let u := s.feeder f
    u.prot.hold = false →
    iocFires u.row.prot (handOn s f g x) u.prot.iocCount false = true →
      ∃ t, exec (.feederSampleReceived bytes) s = .next t ∧
        let r := t.sq f
        r.state = .tripping ∧ r.tripLine = true ∧ feederTripOutput t f = true
          ∧ r.primary = some .ioc ∧ r.tripCauses.ioc = true
          ∧ r.openTimer = some (u.row.brk.tOpenMax * 1000)
          ∧ r.closeTimer = none ∧ r.reclaim = none ∧ r.sotf = none
          ∧ r.sotfMark = u.sq.sotf.isSome ∧ r.shotCount = u.sq.shotCount
          ∧ (t.feeder f).prot.iocCount = 0 ∧ (t.feeder f).prot.ddl = Ddl.rest
          ∧ ∃ q ∈ (t.port .fp).urgent ++ (t.port .fp).sending.toList,
              q.payload = .command (.breaker f .trip) ∧ q.dest = n)
  ∧ (∀ (f : FeederId) (bytes : List Byte) (fr : RxFrame) (x : FeederSample) (g : Nat) (s : State),
       TakesSample f bytes fr x g s → (s.feeder f).prot.hold = false → s.reports.length < 50 →
         let u := s.feeder f
         let row := u.row.prot
         let y := handOn s f g x
         let ioc := iocFires row y u.prot.iocCount false
         let rise : Option Int :=
           match (ddlStep row y false u.prot.ddl).2 with
           | .fires d => some d
           | _ => none
         let theta := if u.valid then thermalNext row.k y.i u.prot.theta else u.prot.theta
         let hot := row.thermalOn && decide ((row.iTrip / 16) * (row.iTrip / 16) ≤ theta)
         let fires := ioc = true ∨ rise ≠ none ∨ hot = true
         let primary : TripCause := if ioc then .ioc else if rise.isSome then .ddl else .thermal
         let value2 : Option Int :=
           if ioc then none else if rise.isSome then rise else some theta
         ∃ t, exec (.feederSampleReceived bytes) s = .next t
           ∧ (t.feeder f).prot.theta = theta
           ∧ (s.mode = .service →
               (u.sq.state = .closed ∨ u.sq.state = .closing ∨ u.sq.state = .opening) →
                 (fires →
                   (t.sq f).state = .tripping ∧ (t.sq f).tripLine = true
                     ∧ (t.sq f).primary = some primary
                     ∧ (t.sq f).tripCauses =
                         { TripCauses.empty with ioc := ioc, ddl := rise.isSome, thermal := hot }
                     ∧ (t.sq f).openTimer = some (u.row.brk.tOpenMax * 1000)
                     ∧ (t.sq f).sotfMark = u.sq.sotf.isSome ∧ (t.sq f).shotCount = u.sq.shotCount
                     ∧ (t.feeder f).prot.iocCount = 0 ∧ (t.feeder f).prot.ddl = Ddl.rest
                     ∧ (t.feeder f).prot.hold = false
                     ∧ Reported t .trip (.feeder f) (some primary.cause) (some y.i) value2
                     ∧ ((∀ k : Tie, (s.port k.port).urgent.length < 20) →
                         (primary = .ioc → Intertripped f .ioc s t)
                           ∧ (primary = .ddl → Intertripped f .ddl s t))
                     ∧ (primary = .thermal → (t.feeder f).entry = u.entry ∧ t.ties = s.ties))
                 ∧ (¬ fires → u.row.brk.blindAction = .alarm →
                     (t.sq f).state = u.sq.state ∧ (t.sq f).tripLine = u.sq.tripLine))
           ∧ (s.mode = .shadow → u.sq.state = .closed → fires →
               (t.sq f).state = .closed ∧ (t.sq f).tripLine = u.sq.tripLine
                 ∧ (t.sq f).tripCauses = u.sq.tripCauses ∧ (t.sq f).openTimer = u.sq.openTimer
                 ∧ (t.feeder f).prot.iocCount = 0 ∧ (t.feeder f).prot.ddl = Ddl.rest
                 ∧ (t.feeder f).prot.hold = true
                 ∧ Reported t .wouldTrip (.feeder f) (some primary.cause) (some y.i) value2
                 ∧ (t.port .fp).urgent = (s.port .fp).urgent
                 ∧ (t.port .fp).sending = (s.port .fp).sending
                 ∧ (∀ c, u.row.brk.capture = true → fillingSlot s f = none → freeSlot s = some c →
                     (t.slots.get c).state = .filling ∧ (t.slots.get c).feeder = some f
                       ∧ (t.slots.get c).trigger = some .trip)))
  ∧ (∀ (f : FeederId) (bytes : List Byte) (fr : RxFrame) (x : FeederSample) (g : Nat) (s : State),
       TakesSample f bytes fr x g s → (s.feeder f).prot.hold = true →
       (s.mode = .service
          ∧ ((s.sq f).state = .closed ∨ (s.sq f).state = .closing ∨ (s.sq f).state = .opening))
         ∨ (s.mode = .shadow ∧ (s.sq f).state = .closed) →
       (s.feeder f).row.brk.blindAction = .alarm →
         let u := s.feeder f
         let row := u.row.prot
         let y := handOn s f g x
         let breaks := 4 < y.gap ∨ y.resumption = true
         let count :=
           if row.iocOn = true ∧ row.iIoc ≤ y.i.natAbs then
             min row.c ((if breaks then 0 else u.prot.iocCount) + 1)
           else 0
         let rise := (ddlStep row y true u.prot.ddl).1
         let theta := if u.valid then thermalNext row.k y.i u.prot.theta else u.prot.theta
         let quiet := (row.iocOn = true → y.i.natAbs < row.iIoc)
           ∧ (row.ddlOn = true → rise.phase = .idle)
           ∧ (row.thermalOn = true → theta < (row.iTrip / 16) * (row.iTrip / 16))
         ∃ t, exec (.feederSampleReceived bytes) s = .next t
           ∧ (t.sq f).state = u.sq.state ∧ (t.sq f).tripLine = u.sq.tripLine
           ∧ (t.sq f).primary = u.sq.primary ∧ (t.sq f).tripCauses = u.sq.tripCauses
           ∧ (t.feeder f).prot.theta = theta
           ∧ ((t.feeder f).prot.hold = true ↔ ¬ quiet)
           ∧ ((t.sq f).frozen = u.sq.frozen →
               (t.feeder f).prot.iocCount = count ∧ (t.feeder f).prot.ddl = rise)
           ∧ (∀ q ∈ t.reports, q ∈ s.reports
               ∨ (q.record.kind ≠ .trip ∧ q.record.kind ≠ .wouldTrip))
           ∧ t.ties = s.ties)

/-! ## Feeder sequence -/

/-- R85 and Table 5-4: a confirmation of breaker OPEN in TRIPPING stops the open timer and releases the
trip line, and the first row of the table that applies gives the next state.

R91: a confirmation of breaker OPEN in CLOSED in SERVICE is an external opening: causes and primary cause
EXTERNAL_OPEN, its report with the last accepted current, the switch-onto-fault and reclaim timers
stopped, no trip line and no command, and the same table for the next state.

R86, R156: a lockout SWITCH_ONTO_FAULT or SHOTS_EXHAUSTED of a mapped feeder offers SECTION_HOLD on its
tie; a lockout of another cause, here, offers nothing there.

R88: a confirmation of OPEN in OPENING enters OPEN with the open timer stopped, the causes cleared and a
BREAKER_OPENED report (without a cause: log entry 47). R97: in SHADOW a feeder mirrored CLOSED becomes
OPEN with that report, and R53, R69 put its protection at rest. (A STATUS that changes both positions is
served breaker first: log entry 23.) -/
def Obligations.TripConfirmedOpen : Prop :=
  (∀ (f : FeederId) (bytes : List Byte) (fr : RxFrame) (x : BreakerStatus) (cause : TripCause)
    (s : State),
    FromField .breaker (some f) bytes fr s → fr.kind = .status →
    readBreakerStatus fr.payload = some x → x.breaker = .opened → (s.sq f).breaker ≠ .opened →
    (s.sq f).state = .tripping → (s.sq f).primary = some cause →
      ∃ t, exec (.breakerStatusReceived bytes) s = .next t ∧
        let r := s.sq f
        let r' := t.sq f
        let u := s.feeder f
        r'.openTimer = none ∧ r'.tripLine = false ∧ r'.breaker = .opened ∧ r'.contactor = x.contactor
          ∧ r'.spring = x.spring ∧ r'.state ≠ .tripping
          ∧ (if r.sotfMark = true then
              r'.state = .lockout ∧ r'.lockoutCause = some .switchOntoFault
            else if cause = .blind ∨ cause = .frozen ∨ cause = .emergency ∨ cause = .uncommandedClose then
              r'.state = .lockout ∧ r'.lockoutCause = some (.trip cause)
            else if r.intertripFailed = true then
              r'.state = .lockout ∧ r'.lockoutCause = some .intertripFailed
            else if u.row.intake.policy = .latch then
              r'.state = .lockout ∧ r'.lockoutCause = some (.trip cause)
            else if cause = .thermal then
              r'.state = .deadTime ∧ r'.phase = some .cooling ∧ r'.shotCount = r.shotCount
            else if cause = .intertrip ∧ isFollower s f = true then
              tieDown s f = false →
                r'.state = .deadTime ∧ r'.phase = some .awaitingFarEnd
                  ∧ r'.dead = some (u.row.test.tFollow * 1000)
            else if r.shotCount < u.row.test.shots then
              r'.state = .deadTime ∧ r'.phase = some .timing
                ∧ r'.dead = some (deadTime u.row.test (r.shotCount + 1) * 1000)
            else r'.state = .lockout ∧ r'.lockoutCause = some .shotsExhausted)
          ∧ (∀ k : Tie, u.section_.tie = some k → r'.state = .lockout →
              (r'.lockoutCause = some .switchOntoFault ∨ r'.lockoutCause = some .shotsExhausted →
                (s.port k.port).urgent.length < 24 →
                TieOffered t k (.sectionHold (BitVec.ofNat 8 u.section_.sectionId)))
              ∧ (r'.lockoutCause ≠ some .switchOntoFault → r'.lockoutCause ≠ some .shotsExhausted →
                  t.port k.port = s.port k.port)))
  ∧ (∀ (f : FeederId) (bytes : List Byte) (fr : RxFrame) (x : BreakerStatus) (s : State),
       TakesStatus f bytes fr x s → x.breaker = .opened → (s.sq f).breaker ≠ .opened →
       (s.sq f).state = .closed → s.mode = .service → s.reports.length < 50 →
         ∃ t, exec (.breakerStatusReceived bytes) s = .next t ∧
           let r := s.sq f
           let r' := t.sq f
           let u := s.feeder f
           r'.tripCauses = { TripCauses.empty with externalOpen := true }
             ∧ r'.primary = some .externalOpen ∧ r'.sotfMark = r.sotf.isSome ∧ r'.sotf = none
             ∧ r'.reclaim = none ∧ r'.tripLine = false ∧ r'.shotCount = r.shotCount
             ∧ r'.breaker = .opened
             ∧ Reported t .externalOpen (.feeder f) none (u.intake.lastAccepted.map Prod.fst) none
             ∧ (x.contactor = r.contactor → (t.port .fp).urgent = (s.port .fp).urgent)
             ∧ (t.feeder f).entry = u.entry ∧ (∀ e, e ≠ f → t.feeder e = s.feeder e)
             ∧ (if r.sotf ≠ none then r'.state = .lockout ∧ r'.lockoutCause = some .switchOntoFault
                else if r.intertripFailed = true then
                  r'.state = .lockout ∧ r'.lockoutCause = some .intertripFailed
                else if u.row.intake.policy = .latch then
                  r'.state = .lockout ∧ r'.lockoutCause = some (.trip .externalOpen)
                else if r.shotCount < u.row.test.shots then
                  r'.state = .deadTime ∧ r'.phase = some .timing
                    ∧ r'.dead = some (deadTime u.row.test (r.shotCount + 1) * 1000)
                else r'.state = .lockout ∧ r'.lockoutCause = some .shotsExhausted)
             ∧ (∀ k : Tie, u.section_.tie = some k → r'.state = .lockout →
                 (r'.lockoutCause = some .switchOntoFault ∨ r'.lockoutCause = some .shotsExhausted →
                   (s.port k.port).urgent.length < 24 →
                   TieOffered t k (.sectionHold (BitVec.ofNat 8 u.section_.sectionId)))
                 ∧ (r'.lockoutCause ≠ some .switchOntoFault → r'.lockoutCause ≠ some .shotsExhausted →
                     t.port k.port = s.port k.port)))
  ∧ (∀ (f : FeederId) (bytes : List Byte) (fr : RxFrame) (x : BreakerStatus) (s : State),
       TakesStatus f bytes fr x s → x.breaker = .opened → (s.sq f).breaker ≠ .opened →
       s.reports.length < 50 →
         ∃ t, exec (.breakerStatusReceived bytes) s = .next t ∧
           let r := s.sq f
           let r' := t.sq f
           ((r.state = .opening ∨ (r.state = .closed ∧ s.mode = .shadow)) →
             r'.state = .opened ∧ r'.breaker = .opened ∧ r'.tripCauses = TripCauses.empty
               ∧ r'.primary = none ∧ r'.tripLine = false ∧ r'.shotCount = r.shotCount
               ∧ (∀ e, e ≠ f → t.feeder e = s.feeder e))
           ∧ (r.state = .opening →
               r'.openTimer = none ∧ Reported t .breakerOpened (.feeder f) none none none)
           ∧ (r.state = .closed → s.mode = .shadow →
               Reported t .breakerOpened (.feeder f) (r.primary.map TripCause.cause) none none
                 ∧ (t.feeder f).prot =
                     { (s.feeder f).prot with iocCount := 0, ddl := Ddl.rest, hold := false }))

/-- R89, R90, R156: a confirmation of breaker CLOSED in CLOSING enters CLOSED with the close timer stopped,
the switch-onto-fault timer running on and the reclaim timer started, the trip line released, a
BREAKER_CLOSED report, and SECTION_CLEAR offered on the tie of a mapped feeder.

R92, R97: a confirmation of breaker CLOSED in OPEN is taken over into CLOSED in SERVICE, trips the
feeder with cause UNCOMMANDED_CLOSE in CONFIG, and is mirrored in SHADOW; no other feeder changes. (That
the take-over leaves the shot count 0 and the reclaim timer stopped is the model's reading of "reclaim
complete", log entry 42.)

R92: in DEAD_TIME, in TESTING and in a LOCKOUT other than BREAKER_FAILURE it trips the feeder in SERVICE
with cause UNCOMMANDED_CLOSE: a test is first aborted, its shot given back (R115), a latched test
withdrawn. In OUT, in a BREAKER_FAILURE lockout, and in any LOCKOUT in SHADOW, it is only reported.

R93: a confirmation of the test contactor CLOSED outside TESTING is reported with value1 2, and TEST_OPEN
offered outside SHADOW; the feeder does not change.

R94: a feeder that enters CLOSED in SERVICE with BLIND or FROZEN set trips at once under action TRIP and
stays CLOSED under ALARM. (With both set the cause is BLIND alone: log entry 49.)

R74: a STATUS that repeats the recorded positions replaces the spring field, is forwarded up where the
up-pass set holds STATUS, and does nothing else.

(A STATUS that changes both positions is served breaker first, the contactor change then against the
state that follows: log entry 23, the model's choice.) -/
def Obligations.BreakerCloseConfirmed : Prop :=
  (∀ (f : FeederId) (bytes : List Byte) (fr : RxFrame) (x : BreakerStatus) (s : State),
     FromField .breaker (some f) bytes fr s → fr.kind = .status →
     readBreakerStatus fr.payload = some x → x.breaker = .closed → (s.sq f).breaker ≠ .closed →
     (s.sq f).state = .closing → (s.sq f).blind = false → (s.sq f).frozen = false →
       ∃ t, exec (.breakerStatusReceived bytes) s = .next t ∧
         let r' := t.sq f
         r'.state = .closed ∧ r'.closeTimer = none ∧ r'.sotf = (s.sq f).sotf
           ∧ r'.reclaim = some ((s.feeder f).row.brk.tReclaim * 1000)
           ∧ r'.shotCount = (s.sq f).shotCount ∧ r'.tripLine = false ∧ r'.breaker = .closed
           ∧ r'.tripCauses = TripCauses.empty ∧ r'.primary = none
           ∧ (∀ e, e ≠ f → t.feeder e = s.feeder e)
           ∧ (s.reports.length < 60 → Reported t .breakerClosed (.feeder f) none none none)
           ∧ (∀ k : Tie, (s.feeder f).section_.tie = some k → (s.port k.port).urgent.length < 24 →
               TieOffered t k (.sectionClear (BitVec.ofNat 8 (s.feeder f).section_.sectionId))))
  ∧ (∀ (f : FeederId) (bytes : List Byte) (fr : RxFrame) (x : BreakerStatus) (s : State),
       FromField .breaker (some f) bytes fr s → fr.kind = .status →
       readBreakerStatus fr.payload = some x → x.breaker = .closed → (s.sq f).breaker ≠ .closed →
       (s.sq f).state = .opened →
         ∃ t, exec (.breakerStatusReceived bytes) s = .next t
           ∧ (s.mode = .service → (s.sq f).blind = false → (s.sq f).frozen = false →
               (t.sq f).state = .closed ∧ (t.sq f).shotCount = 0 ∧ (t.sq f).reclaim = none
                 ∧ (t.sq f).tripLine = false)
           ∧ (s.mode = .config →
               (t.sq f).state = .tripping ∧ (t.sq f).tripLine = true
                 ∧ (t.sq f).primary = some .uncommandedClose
                 ∧ (t.sq f).openTimer = some ((s.feeder f).row.brk.tOpenMax * 1000))
           ∧ (s.mode = .shadow → (t.sq f).state = .closed ∧ (t.sq f).tripLine = false)
           ∧ (s.reports.length < 60 →
               (s.mode = .service → Reported t .uncommandedClose (.feeder f) none (some 1) none)
               ∧ (s.mode = .shadow → Reported t .breakerClosed (.feeder f) none none none))
           ∧ (∀ e, e ≠ f → t.feeder e = s.feeder e))
  ∧ (∀ (f : FeederId) (bytes : List Byte) (fr : RxFrame) (x : BreakerStatus) (s : State),
       FromField .breaker (some f) bytes fr s → fr.kind = .status →
       readBreakerStatus fr.payload = some x → x.breaker = (s.sq f).breaker →
       x.contactor = (s.sq f).contactor →
         let taken := (goodFrame .fp s).setSq f { s.sq f with spring := x.spring }
         exec (.breakerStatusReceived bytes) s =
           .next
             (if (s.nodeRow fr.src).upStatus then
               offerForwarded .sp
                 { kind := .status, dest := stationAddress s, src := fr.src, seq := fr.seq
                   payload := .bytes fr.payload }
                 taken
              else taken))
  ∧ (∀ (f : FeederId) (bytes : List Byte) (fr : RxFrame) (x : BreakerStatus) (s : State),
       TakesStatus f bytes fr x s → x.breaker = .closed → (s.sq f).breaker ≠ .closed →
       s.reports.length < 40 →
         let r := s.sq f
         let u := s.feeder f
         ∃ t, exec (.breakerStatusReceived bytes) s = .next t ∧
           let r' := t.sq f
           (s.mode = .service → s.rect.latched.get f = r.pendingTest →
             (r.state = .deadTime ∨ (r.state = .testing ∧ r.pendingTest = false)
               ∨ (r.state = .lockout ∧ r.lockoutCause ≠ some .breakerFailure)) →
               r'.state = .tripping ∧ r'.tripLine = true ∧ r'.primary = some .uncommandedClose
                 ∧ r'.tripCauses = { TripCauses.empty with uncommandedClose := true }
                 ∧ r'.openTimer = some (u.row.brk.tOpenMax * 1000) ∧ r'.closeTimer = none
                 ∧ r'.dead = none ∧ r'.phase = none ∧ r'.pendingTest = false
                 ∧ t.rect.latched.get f = false
                 ∧ Reported t .trip (.feeder f) (some .uncommandedClose)
                     (u.intake.lastAccepted.map Prod.fst) none
                 ∧ ((findNode s .breaker (some f)).isSome = true → (s.port .fp).urgent.length < 10 →
                     Commanded t (.breaker f .trip))
                 ∧ (r.state = .testing → r.openRequested = false →
                     r'.test.last =
                         some
                           { outcome := .aborted .uncommandedClose, r := none, uAvg := none
                             ubAvg := none }
                       ∧ Reported t .lineTest (.feeder f) (some .uncommandedClose) none none
                       ∧ t.rect.testers.get f = false
                       ∧ r'.shotCount =
                           (if r.shotTaken = true then r.shotCount - 1 else r.shotCount)))
           ∧ ((r.state = .out
                ∨ (r.state = .lockout
                    ∧ (r.lockoutCause = some .breakerFailure ∨ s.mode = .shadow))) →
               r' = { r with breaker := .closed, contactor := x.contactor, spring := x.spring }
                 ∧ Reported t .uncommandedClose (.feeder f) none (some 1) none
                 ∧ t.rect = s.rect))
  ∧ (∀ (f : FeederId) (bytes : List Byte) (fr : RxFrame) (x : BreakerStatus) (s : State),
       TakesStatus f bytes fr x s → x.breaker = (s.sq f).breaker → x.contactor = .closed →
       (s.sq f).contactor ≠ .closed → (s.sq f).state ≠ .testing → s.reports.length < 60 →
         ∃ t, exec (.breakerStatusReceived bytes) s = .next t
           ∧ t.sq f = { s.sq f with contactor := .closed, spring := x.spring }
           ∧ (∀ e, e ≠ f → t.feeder e = s.feeder e)
           ∧ Reported t .uncommandedClose (.feeder f) none (some 2) none
           ∧ (s.mode ≠ .shadow → (findNode s .breaker (some f)).isSome = true →
               (s.port .fp).urgent.length < 24 → Commanded t (.testContactor f false))
           ∧ (s.mode = .shadow → (t.port .fp).urgent = (s.port .fp).urgent))
  ∧ (∀ (f : FeederId) (bytes : List Byte) (fr : RxFrame) (x : BreakerStatus) (s : State),
       TakesStatus f bytes fr x s → x.breaker = .closed → (s.sq f).breaker ≠ .closed →
       s.mode = .service → ((s.sq f).state = .closing ∨ (s.sq f).state = .opened) →
       ((s.sq f).blind = true ∨ (s.sq f).frozen = true) → s.reports.length < 50 →
         ∃ t, exec (.breakerStatusReceived bytes) s = .next t ∧
           let r := s.sq f
           let r' := t.sq f
           let u := s.feeder f
           (u.row.brk.blindAction = .alarm → r'.state = .closed ∧ r'.tripLine = false)
           ∧ (u.row.brk.blindAction = .trip →
               r'.state = .tripping ∧ r'.tripLine = true
                 ∧ r'.primary = some (if r.blind = true then .blind else .frozen)
                 ∧ r'.tripCauses =
                     { TripCauses.empty with blind := r.blind, frozen := !r.blind }
                 ∧ r'.openTimer = some (u.row.brk.tOpenMax * 1000) ∧ r'.reclaim = none
                 ∧ r'.shotCount = (if r.state = .closing then r.shotCount else 0)
                 ∧ Reported t .trip (.feeder f) (some (if r.blind = true then .blind else .frozen))
                     (u.intake.lastAccepted.map Prod.fst) none
                 ∧ ((findNode s .breaker (some f)).isSome = true → (s.port .fp).urgent.length < 20 →
                     Commanded t (.breaker f .trip))))

/-- R43, R53, R94: the blind timer's expiry sets BLIND, starts the sequence state again and puts IOC and
DDL at rest; a feeder CLOSED in SERVICE with blind action TRIP trips with cause BLIND, and in the states
that R94 gives no action the feeder's state stays. R94, R115, R116: a test in TESTING is aborted with
reason BLIND outside SHADOW. -/
def Obligations.BlindTimerExpiry : Prop :=
  ∀ (f : FeederId) (s : State), s.inReset = false → (s.feeder f).intake.blindTimer ≠ none →
    ∃ t, exec (.blind f) s = .next t ∧
      let u := s.feeder f
      (t.sq f).blind = true ∧ (t.feeder f).intake.blindTimer = none
        ∧ (t.feeder f).intake.lastSeq = none ∧ (t.feeder f).intake.resumption = true
        ∧ (t.feeder f).intake.carry = 0 ∧ (t.feeder f).intake.frozenCount = 0
        ∧ (t.feeder f).intake.ring = u.intake.ring
        ∧ (t.feeder f).prot.iocCount = 0 ∧ (t.feeder f).prot.ddl = Ddl.rest
        ∧ (t.feeder f).prot.theta = u.prot.theta
        ∧ (u.sq.state = .closed → s.mode = .service → u.row.brk.blindAction = .trip →
            (t.sq f).state = .tripping ∧ (t.sq f).primary = some .blind ∧ (t.sq f).tripLine = true)
        ∧ (u.sq.state = .closed → u.row.brk.blindAction = .alarm → (t.sq f).state = .closed)
        ∧ (u.sq.state = .testing → u.sq.openRequested = false → s.mode ≠ .shadow →
            s.rect.latched.get f = false → s.reports.length < 40 → AbortedTo f .blind none none s t)
        ∧ (u.sq.state ≠ .closed → u.sq.state ≠ .testing →
            (t.sq f).state = u.sq.state
              ∧ t.reports =
                  (submit .blind (.feeder f) none (some u.row.intake.tBlind) none s).reports
              ∧ (t.putFeeder f s).putReports s = s)

/-- R86, R87: the open timer's expiry in TRIPPING or OPENING with the breaker not OPEN locks the feeder
out with cause BREAKER_FAILURE, asserts its trip line outside REPLAY, and faults the group with BACKUP and
its AC trip line, and reports BREAKER_FAILURE with the primary cause (none after OPENING), t_open_max and
the breaker position; after OPENING, TRIP is now offered.

R86, R87, R150, R153, R156: a mapped feeder asks for SECTION_HOLD, outside REPLAY, and intertrips the far
end with cause BACKUP, as Safety.Intertripped says.

Where the breaker is OPEN, or the feeder is in another state, the timer only stops (log entry 14). -/
def Obligations.OpenTimerExpiry : Prop :=
  ∀ (f : FeederId) (s : State), s.inReset = false → (s.sq f).openTimer ≠ none →
    ∃ t, exec (.openTimerExpired f) s = .next t
      ∧ (((s.sq f).state = .tripping ∨ (s.sq f).state = .opening) → (s.sq f).breaker ≠ .opened →
          s.mode ≠ .replay →
          (t.sq f).state = .lockout ∧ (t.sq f).lockoutCause = some .breakerFailure
            ∧ (t.sq f).tripLine = true ∧ (t.sq f).openTimer = none
            ∧ t.rect.state = .faulted ∧ t.rect.faults.backup = true
            ∧ (s.rect.state ≠ .faulted → t.rect.acTrip = true ∧ t.rect.firstFault = some .backup)
            ∧ summaryAlarm t = true)
      ∧ (((s.sq f).state = .tripping ∨ (s.sq f).state = .opening) → (s.sq f).breaker ≠ .opened →
          s.reports.length < 10 → (∀ k : Tie, (s.port k.port).urgent.length < 20) →
          Reported t .breakerFailure (.feeder f)
              (if (s.sq f).state = .opening then none else (s.sq f).primary.map TripCause.cause)
              (some (s.feeder f).row.brk.tOpenMax) (some (s.sq f).breaker.code)
            ∧ Intertripped f .backup s t
            ∧ (∀ k, (s.feeder f).section_.tie = some k → s.mode ≠ .replay →
                TieOffered t k (.sectionHold (BitVec.ofNat 8 (s.feeder f).section_.sectionId)))
            ∧ ((s.sq f).state = .opening → s.mode = .service →
                (findNode s .breaker (some f)).isSome = true → (s.port .fp).urgent.length < 5 →
                Commanded t (.breaker f .trip)))
      ∧ (((s.sq f).state ≠ .tripping ∧ (s.sq f).state ≠ .opening) ∨ (s.sq f).breaker = .opened →
          t = s.setSq f { s.sq f with openTimer := none })

/-- R89: the close timer's expiry in CLOSING locks the feeder out with cause CLOSE_FAILURE and every timer
of its record stopped, OPEN being offered to the breaker unit. (Log entry 14, the model's choice: outside
CLOSING and TESTING the timer only stops. Log entry 3, the model's choice: a stopped timer does nothing.)

R81, R107, R109, R111: in TESTING it ends an OPEN wait, or a wait of the test on its contactor, in a
CONTACTOR_FAILURE lockout; the test's result is reported and TEST_OPEN offered on a contactor not OPEN.
(In a step that waits on no contactor the timer only stops: log entry 14.)

R90: the switch-onto-fault timer's expiry has no other effect; the reclaim timer's expiry in CLOSED
sets the shot count to 0 with a FEEDER_STATE report that gives CLOSED as both values. -/
def Obligations.CloseAndReclaimTimers : Prop :=
  (∀ (f : FeederId) (s : State), s.inReset = false →
     ∃ t, exec (.closeTimerExpired f) s = .next t
       ∧ ((s.sq f).closeTimer = none → t = s)
       ∧ ((s.sq f).closeTimer ≠ none → (s.sq f).state = .closing →
           (t.sq f).state = .lockout ∧ (t.sq f).lockoutCause = some .closeFailure
             ∧ (t.sq f).closeTimer = none ∧ (t.sq f).sotf = none ∧ (t.sq f).openTimer = none
             ∧ (t.sq f).reclaim = none ∧ (t.sq f).dead = none ∧ (t.sq f).tripLine = false
             ∧ (t.sq f).shotCount = (s.sq f).shotCount ∧ (∀ e, e ≠ f → t.feeder e = s.feeder e)
             ∧ (s.reports.length < 60 →
                 Reported t .lockout (.feeder f) (some .closeFailure) (some (s.sq f).shotCount) none)
             ∧ (s.mode = .service → (findNode s .breaker (some f)).isSome = true →
                 (s.port .fp).urgent.length < 24 → Commanded t (.breaker f .opened)))
       ∧ ((s.sq f).closeTimer ≠ none → (s.sq f).state ≠ .closing → (s.sq f).state ≠ .testing →
           t = s.setSq f { s.sq f with closeTimer := none })
       ∧ ((s.sq f).closeTimer ≠ none → (s.sq f).state = .testing →
           let waits :=
             (s.sq f).test.step = some .contactorCheck ∨ (s.sq f).test.step = some .contactorClosing
               ∨ (s.sq f).test.step = some .contactorOpening
           ((s.sq f).openRequested = true ∨ waits →
             (t.sq f).state = .lockout ∧ (t.sq f).lockoutCause = some .contactorFailure
               ∧ (t.sq f).closeTimer = none ∧ (t.sq f).sotf = none ∧ (t.sq f).openTimer = none
               ∧ (t.sq f).reclaim = none ∧ (t.sq f).dead = none ∧ (t.sq f).tripLine = false
               ∧ (s.rect.latched.get f = false → t.rect.testers.get f = false)
               ∧ (s.mode = .service → (s.sq f).contactor ≠ .opened →
                   (findNode s .breaker (some f)).isSome = true → (s.port .fp).urgent.length < 10 →
                   Commanded t (.testContactor f false)))
           ∧ ((s.sq f).openRequested = false → waits → s.rect.latched.get f = false →
               s.reports.length < 40 →
               (t.sq f).test.last =
                   some { outcome := .contactorFailure, r := none, uAvg := none, ubAvg := none }
                 ∧ Reported t .lineTest (.feeder f) (some .contactorFailure) none none)
           ∧ ((s.sq f).openRequested = false → ¬ waits →
               t = s.setSq f { s.sq f with closeTimer := none })))
  ∧ (∀ (f : FeederId) (s : State), s.inReset = false →
       (∃ t, exec (.sotfTimerExpired f) s = .next t ∧ (t.sq f).sotf = none
           ∧ t.setSq f { t.sq f with sotf := (s.sq f).sotf } = s)
       ∧ ((s.sq f).reclaim = none → exec (.reclaimExpired f) s = .next s)
       ∧ ((s.sq f).reclaim ≠ none → (s.sq f).state = .closed →
           ∃ t, exec (.reclaimExpired f) s = .next t
             ∧ t.sq f = { s.sq f with reclaim := none, shotCount := 0 }
             ∧ t.reports = (submit .feederState (.feeder f) none (some 5) (some 5) s).reports
             ∧ (t.putFeeder f s).putReports s = s))

/-- R101, R102: the dead time's expiry in TIMING raises the shot count and sets the shot-taken mark. A
follower without far-clear, on a tie that is UP, waits for the far end for t_follow. Else a test request
is made: with BLIND and FROZEN clear, a θ above θ_reclose gives COOLING with kind and origin recorded, and
a group RUNNING or in PROBE starts an automatic test.

R101, R107, R115, R116: with BLIND or FROZEN set the request is an aborted test: its report, the shot
given back, far-clear cleared, and TIMING again for the same dead time. (With both set the reason is
BLIND: log entry 50.)

R101, R104: t_follow's expiry in AWAITING_FAR_END makes a test request and reports ACTING_MASTER with
value1 1; on a group RUNNING or in PROBE, with BLIND and FROZEN clear and the line cool, the automatic test
starts, with its origin recorded. (That ACTING_MASTER is the last record queued is the model's order of
reports, log entry 12.)

R64, R67, R103: an accepted sample in COOLING, after the thermal image's update: with FROZEN clear and θ at
most θ_reclose it makes a test request of origin COOLING, by which the test starts on a group RUNNING, in
PROBE or in HOLD, and is latched otherwise; with θ above it, or FROZEN set, the feeder stays in COOLING. -/
def Obligations.DeadTimeEnds : Prop :=
  (∀ (f : FeederId) (s : State), s.inReset = false → (s.sq f).state = .deadTime →
     (s.sq f).phase = some .timing → (s.sq f).dead ≠ none → (s.sq f).pendingTest = false →
     (s.sq f).blind = false → (s.sq f).frozen = false →
       ∃ t, exec (.deadTimeExpired f) s = .next t ∧ (t.sq f).shotCount = (s.sq f).shotCount + 1 ∧
         let r' := t.sq f
         let waits := isFollower s f = true ∧ (s.sq f).farClear = false
         let hot := thetaReclose s f < (s.feeder f).prot.theta
         (waits → tieDown s f = false →
           r'.state = .deadTime ∧ r'.phase = some .awaitingFarEnd ∧ r'.shotTaken = true
             ∧ r'.dead = some ((s.feeder f).row.test.tFollow * 1000)
             ∧ (∀ e, e ≠ f → t.feeder e = s.feeder e))
         ∧ (¬ waits → hot → r'.state = .deadTime ∧ r'.phase = some .cooling ∧ r'.dead = none
             ∧ r'.test.kind = some .auto ∧ r'.test.origin = some .timing ∧ r'.shotTaken = true)
         ∧ (¬ waits → ¬ hot → (s.rect.state = .running ∨ s.rect.state = .probe) →
             r'.state = .testing ∧ r'.test.kind = some .auto ∧ r'.test.origin = some .timing
               ∧ t.rect.testers.get f = true ∧ r'.shotTaken = true
               ∧ (r'.contactor = .opened → r'.test.step = some .liveCheck)
               ∧ (r'.contactor ≠ .opened →
                   r'.test.step = some .contactorCheck
                     ∧ r'.closeTimer = some ((s.feeder f).row.brk.tCloseMax * 1000))))
  ∧ (∀ (f : FeederId) (s : State), s.inReset = false → (s.sq f).state = .deadTime →
       (s.sq f).phase = some .awaitingFarEnd → (s.sq f).dead ≠ none → (s.sq f).pendingTest = false →
       (s.sq f).blind = false → (s.sq f).frozen = false →
       (s.feeder f).prot.theta ≤ thetaReclose s f →
       (s.rect.state = .running ∨ s.rect.state = .probe) → s.reports.length < 60 →
         ∃ t, exec (.actingMaster f) s = .next t ∧ (t.sq f).state = .testing
           ∧ (t.sq f).test.kind = some .auto ∧ (t.sq f).test.origin = some .awaitingFarEnd
           ∧ (t.sq f).dead = none ∧ (t.sq f).shotCount = (s.sq f).shotCount
           ∧ t.rect.testers.get f = true
           ∧ (∃ q, t.reports.getLast? = some q ∧ q.record.kind = .actingMaster
               ∧ q.record.source = .feeder f ∧ q.record.value1 = some 1)
           ∧ (∀ e, e ≠ f → t.feeder e = s.feeder e))
  ∧ (∀ (f : FeederId) (s : State), s.inReset = false → (s.sq f).state = .deadTime →
       (s.sq f).phase = some .timing → (s.sq f).dead ≠ none → (s.sq f).pendingTest = false →
       ((s.sq f).blind = true ∨ (s.sq f).frozen = true) →
       ¬ (isFollower s f = true ∧ (s.sq f).farClear = false) → s.reports.length < 60 →
         let reason : AbortReason := if (s.sq f).blind = true then .blind else .frozen
         ∃ t, exec (.deadTimeExpired f) s = .next t
           ∧ (t.sq f).state = .deadTime ∧ (t.sq f).phase = some .timing
           ∧ (t.sq f).shotCount = (s.sq f).shotCount ∧ (t.sq f).shotTaken = false
           ∧ (t.sq f).farClear = false
           ∧ (t.sq f).dead
               = some (deadTime (s.feeder f).row.test ((s.sq f).shotCount + 1) * 1000)
           ∧ (t.sq f).test.last
               = some { outcome := .aborted reason, r := none, uAvg := none, ubAvg := none }
           ∧ Reported t .lineTest (.feeder f) (some reason.cause) none none
           ∧ t.rect = s.rect ∧ (∀ e, e ≠ f → t.feeder e = s.feeder e))
  ∧ (∀ (f : FeederId) (bytes : List Byte) (fr : RxFrame) (x : FeederSample) (g : Nat) (s : State),
       TakesSample f bytes fr x g s → (s.sq f).state = .deadTime → (s.sq f).phase = some .cooling →
       (s.sq f).pendingTest = false →
         let r := s.sq f
         let u := s.feeder f
         let theta :=
           if u.valid then thermalNext u.row.prot.k (handOn s f g x).i u.prot.theta else u.prot.theta
         let cool := theta ≤ thetaReclose s f
         ∃ t, exec (.feederSampleReceived bytes) s = .next t ∧
           let r' := t.sq f
           (t.feeder f).prot.theta = theta ∧ r'.shotCount = r.shotCount ∧ r'.shotTaken = r.shotTaken
             ∧ (r.frozen = false → cool →
                 r'.test.kind = some .auto ∧ r'.test.origin = some .cooling
                   ∧ (s.rect.state = .running ∨ s.rect.state = .probe ∨ s.rect.state = .hold →
                       r'.state = .testing ∧ t.rect.testers.get f = true
                         ∧ t.rect.state =
                             (if s.rect.state = .hold then .probe else s.rect.state))
                   ∧ (s.rect.state = .parked ∨ s.rect.state = .starting ∨ s.rect.state = .faulted →
                       r'.state = .deadTime ∧ r'.phase = some .awaitingSupply
                         ∧ r'.pendingTest = true ∧ t.rect.latched.get f = true))
             ∧ (¬ cool ∨ r'.frozen = true →
                 r'.state = .deadTime ∧ r'.phase = some .cooling ∧ r'.dead = r.dead
                   ∧ r'.test = r.test ∧ t.rect = s.rect))

/-- R108 to R111: the line test's arithmetic: a sample passes the live check when busbar-valid is set and
U × 1024 is at least r_live × Ub; the ratio is U_avg × 1024 / Ub_avg up to 1024; it is SHORT below r_short,
LOADED below r_load, and else CLEAR.

R107, R108, R110, R111, R112, R115: an accepted sample in TESTING, by step. LIVE_CHECK: a failing one
offers TEST_CLOSE, the fourth passing one gives LIVE and CLOSING. SETTLING counts to W_settle; SUMMING
sums 16 samples into the pending result with TEST_OPEN offered, or aborts with NO_BUSBAR or LOW_BUSBAR.
The other steps count no sample. (That the step count reads 0 in CONTACTOR_CLOSING and 16 in
CONTACTOR_OPENING is the model's choice, log entry 52.)

R107, R109, R111 to R114: a confirmation of the contactor in TESTING, by step: the wait it ends, the
CONTACTOR_FAILURE lockout of one that the step does not allow, and in CONTACTOR_OPENING the result, its
report and the state it leads to. (That TEST_OPEN is offered too for a contactor that opens in SETTLING
or SUMMING is the model's reading of R114, log entry 46.)

R81: during an OPEN wait the contactor's OPEN ends the wait in OPEN with the shot count 0. (Latched tests
belong to DEAD_TIME: StepKeepsModeStates.)

R132, R133: a result whose feeder is the last tester in PROBE ends PROBE: RUNNING with run pending set,
else the probe-return target with cause REST. -/
def Obligations.LineTestRatio : Prop :=
  (∀ (row : TestSettings) (x : FeederTaken) (uAvg ubAvg : Nat),
     (livePass row x = true ↔ x.ubValid = true ∧ row.rLive * x.ub ≤ x.u * 1024)
       ∧ (0 < ubAvg →
           testRatio uAvg ubAvg ≤ 1024
             ∧ (testRatio uAvg ubAvg < 1024 → testRatio uAvg ubAvg = uAvg * 1024 / ubAvg)
             ∧ (ubAvg ≤ uAvg → testRatio uAvg ubAvg = 1024))
       ∧ ∀ r : Nat,
           ratioClass row r =
             if r < row.rShort then .short else if r < row.rLoad then .loaded else .clear)
  ∧ (∀ (f : FeederId) (bytes : List Byte) (fr : RxFrame) (x : FeederSample) (g : Nat) (s : State),
       TakesSample f bytes fr x g s → (s.sq f).state = .testing → (s.sq f).openRequested = false →
       s.rect.latched.get f = false → s.reports.length < 40 →
         let r := s.sq f
         let row := (s.feeder f).row
         let u := if x.uOver then 4095 else x.u
         let ub := s.rectIntake.ub
         let valid := s.rectIntake.busbarValid = true
         let passes := valid ∧ row.test.rLive * ub ≤ u * 1024
         let reached := s.mode = .service ∧ (findNode s .breaker (some f)).isSome = true
           ∧ (s.port .fp).urgent.length < 10
         let sumU := r.test.sumU + u
         let sumUb := r.test.sumUb + ub
         let ratio := testRatio (sumU / 16) (sumUb / 16)
         ∃ t, exec (.feederSampleReceived bytes) s = .next t ∧
           let r' := t.sq f
           (r.test.step = some .liveCheck →
             (¬ passes →
               r'.state = .testing
                 ∧ r'.test = { r.test with step := some .contactorClosing, count := 0 }
                 ∧ r'.closeTimer = some (row.brk.tCloseMax * 1000) ∧ r'.shotCount = r.shotCount
                 ∧ (reached → Commanded t (.testContactor f true)))
             ∧ (passes → r.test.count + 1 < 4 →
                 r'.state = .testing ∧ r'.test = { r.test with count := r.test.count + 1 })
             ∧ (passes → 4 ≤ r.test.count + 1 →
                 r'.state = .closing ∧ r'.shotTaken = false ∧ r'.shotCount = r.shotCount
                   ∧ r'.test.last =
                       some { outcome := .live, r := none, uAvg := none, ubAvg := none }
                   ∧ Reported t .lineTest (.feeder f) (some .live) none none
                   ∧ r'.closeTimer = some (row.brk.tCloseMax * 1000)
                   ∧ r'.sotf = some (row.brk.tSotf * 1000) ∧ t.rect.testers.get f = false
                   ∧ (reached → Commanded t (.breaker f .close))))
           ∧ (r.test.step = some .settling →
               r'.state = .testing
                 ∧ r'.test =
                     (if r.test.count + 1 < row.test.wSettle then
                       { r.test with count := r.test.count + 1 }
                      else { r.test with step := some .summing, count := 0, sumU := 0, sumUb := 0 }))
           ∧ (r.test.step = some .summing →
               (¬ valid → AbortedTo f .noBusbar none none s t)
               ∧ (valid → r.test.count + 1 < 16 →
                   r'.state = .testing
                     ∧ r'.test =
                         { r.test with count := r.test.count + 1, sumU := sumU, sumUb := sumUb })
               ∧ (valid → 16 ≤ r.test.count + 1 → sumUb / 16 < row.test.ubMinTest →
                   AbortedTo f .lowBusbar (some (sumU / 16)) (some (sumUb / 16)) s t)
               ∧ (valid → 16 ≤ r.test.count + 1 → row.test.ubMinTest ≤ sumUb / 16 →
                   r'.state = .testing
                     ∧ r'.test =
                         { r.test with
                           step := some .contactorOpening, count := 16, sumU := sumU, sumUb := sumUb
                           pending :=
                             some
                               { result := ratioClass row.test ratio, r := ratio, uAvg := sumU / 16
                                 ubAvg := sumUb / 16 } }
                     ∧ r'.closeTimer = some (row.brk.tCloseMax * 1000)
                     ∧ (reached → Commanded t (.testContactor f false))))
           ∧ (r.test.step = some .contactorCheck ∨ r.test.step = some .contactorClosing
                ∨ r.test.step = some .contactorOpening →
               r'.state = .testing ∧ r'.test = r.test ∧ r'.closeTimer = r.closeTimer))
  ∧ (∀ (f : FeederId) (bytes : List Byte) (fr : RxFrame) (x : BreakerStatus) (s : State),
       TakesStatus f bytes fr x s → x.breaker = (s.sq f).breaker →
       x.contactor ≠ (s.sq f).contactor → (s.sq f).state = .testing →
       (s.sq f).openRequested = false → s.rect.latched.get f = false → s.reports.length < 40 →
         let r := s.sq f
         let row := (s.feeder f).row
         let heard := { r with contactor := x.contactor, spring := x.spring }
         let closed := x.contactor = .closed
         let opened := x.contactor = .opened
         let step := r.test.step
         let reached := s.mode = .service ∧ (findNode s .breaker (some f)).isSome = true
           ∧ (s.port .fp).urgent.length < 10
         let fails := (step = some .liveCheck ∧ closed)
           ∨ ((step = some .settling ∨ step = some .summing) ∧ opened)
         let check := step = some .contactorCheck ∧ opened
         let wait := step = some .contactorClosing ∧ closed
         ∃ t, exec (.breakerStatusReceived bytes) s = .next t ∧
           let r' := t.sq f
           (check →
             r' = { heard with
                    closeTimer := none, test := { r.test with step := some .liveCheck, count := 0 } })
           ∧ (wait →
               r' = { heard with
                      closeTimer := none, test := { r.test with step := some .settling, count := 0 } })
           ∧ (fails →
               r'.state = .lockout ∧ r'.lockoutCause = some .contactorFailure
                 ∧ r'.closeTimer = none ∧ r'.tripLine = false ∧ t.rect.testers.get f = false
                 ∧ r'.test.last =
                     some { outcome := .contactorFailure, r := none, uAvg := none, ubAvg := none }
                 ∧ Reported t .lineTest (.feeder f) (some .contactorFailure) none none
                 ∧ Reported t .lockout (.feeder f) (some .contactorFailure) (some r.shotCount) none
                 ∧ (reached → Commanded t (.testContactor f false)))
           ∧ (¬ check → ¬ wait → ¬ fails → ¬ (step = some .contactorOpening ∧ opened) → r' = heard)
           ∧ (∀ p, r.test.pending = some p → step = some .contactorOpening → opened →
               let count :=
                 if r.shotTaken = true then r.shotCount else min row.test.shots (r.shotCount + 1)
               r'.test.last =
                   some
                     { outcome := .ratio p.result, r := some p.r, uAvg := some p.uAvg
                       ubAvg := some p.ubAvg }
                 ∧ Reported t .lineTest (.feeder f)
                     (some
                       (match p.result with
                        | .short => .short
                        | .loaded => .loaded
                        | .clear => .clear))
                     (some p.r) (some (p.uAvg * 4096 + p.ubAvg))
                 ∧ t.rect.testers.get f = false ∧ r'.shotTaken = false
                 ∧ (p.result ≠ .short →
                     r'.state = .closing ∧ r'.shotCount = r.shotCount
                       ∧ r'.closeTimer = some (row.brk.tCloseMax * 1000)
                       ∧ r'.sotf = some (row.brk.tSotf * 1000)
                       ∧ (reached → Commanded t (.breaker f .close)))
                 ∧ (p.result = .short → r.test.kind = some .manual →
                     r'.state = .opened ∧ r'.shotCount = r.shotCount
                       ∧ Reported t .feederState (.feeder f) none (some 2) (some 3))
                 ∧ (p.result = .short → r.test.kind = some .auto →
                     r'.shotCount = count
                       ∧ (count < row.test.shots →
                           r'.state = .deadTime ∧ r'.phase = some .timing
                             ∧ r'.dead = some (deadTime row.test (count + 1) * 1000))
                       ∧ (row.test.shots ≤ count →
                           r'.state = .lockout ∧ r'.lockoutCause = some .shotsExhausted))
                 ∧ (s.rect.state = .probe → s.rect.testers.get f = true →
                     (∀ e, s.rect.testers.get e = true → e = f) →
                       (s.rect.runPending = true → t.rect.state = .running)
                       ∧ (s.rect.runPending = false →
                           t.rect.cause = .rest ∧ (∀ e, t.rect.testers.get e = false)
                             ∧ t.rect.state =
                                 (match s.rect.probeTarget with
                                  | .hold => .hold
                                  | .parked => .parked)))))
  ∧ (∀ (f : FeederId) (bytes : List Byte) (fr : RxFrame) (x : BreakerStatus) (s : State),
       TakesStatus f bytes fr x s → x.breaker = (s.sq f).breaker → x.contactor = .opened →
       (s.sq f).contactor ≠ .opened → (s.sq f).state = .testing →
       (s.sq f).openRequested = true → s.rect.latched.get f = false → s.reports.length < 40 →
         ∃ t, exec (.breakerStatusReceived bytes) s = .next t
           ∧ (t.sq f).state = .opened ∧ (t.sq f).shotCount = 0 ∧ (t.sq f).closeTimer = none
           ∧ (t.sq f).openRequested = false ∧ (t.sq f).tripLine = false
           ∧ Reported t .feederState (.feeder f) none (some 2) (some 3))

/-! ## The rectifier group -/

/-- R124, R138: the AC timer's expiry. In the breaker wait of STARTING it faults the group with
AC_BREAKER_FAILURE; in the first-crossing wait it parks the group with AC_LOSS while samples arrive and
MEASURE_LOST otherwise, with the AC timer at 1 s; in PARKED it faults the group unless the AC breaker is
OPEN. In SHADOW (log entry 18) and in the other states the timer only stops.

R127: the crossing watch's expiry raises the missed count and moves P on by T; below 3 the watch starts
again for P + T / 2 and nothing else changes; at 3, outside SHADOW and with no test being served, the
group parks with AC_LOSS while samples arrive and MEASURE_LOST otherwise. -/
def Obligations.RectifierTimers : Prop :=
  (∀ s : State, s.inReset = false → s.rect.acTimer ≠ none →
     ∃ t, exec .acTimerExpired s = .next t ∧
       let r := s.rect
       let fails :=
         (r.state = .starting ∧ r.firstCrossingWait = false) ∨ (r.state = .parked ∧ r.acPos ≠ .opened)
       let parks := r.state = .starting ∧ r.firstCrossingWait = true
       (s.mode ≠ .shadow → fails →
         t.rect.state = .faulted ∧ t.rect.firstFault = some .acBreakerFailure
           ∧ t.rect.acTrip = decide (s.mode ≠ .replay) ∧ t.rect.acTimer = none
           ∧ t.rect.syncValid = false ∧ summaryAlarm t = true)
       ∧ (s.mode ≠ .shadow → parks →
           t.rect.state = .parked ∧ t.rect.acTimer = some 1000000
             ∧ t.rect.cause = (if s.rectIntake.arriving then .acLoss else .measureLost)
             ∧ t.rect.syncValid = false ∧ t.rect.alpha = r.alpha ∧ t.rect.acTrip = r.acTrip
             ∧ t.feeders = s.feeders)
       ∧ ((s.mode = .shadow ∨ (¬ fails ∧ ¬ parks)) → t = s.setRect { r with acTimer := none }))
  ∧ (∀ (p : Stamp) (s : State), s.inReset = false → s.rect.watch ≠ none → s.rect.p = some p →
       ∃ t, exec .crossingWatchExpired s = .next t ∧
         let r := s.rect
         let next := stampAdd p r.t
         (r.missed < 2 →
           t = s.setRect
             { r with
               missed := r.missed + 1, p := some next
               watch := some (stampDiff (stampAdd next (r.t / 2 : Nat)) s.time).toNat })
         ∧ (2 ≤ r.missed → s.mode ≠ .shadow → (∀ f, r.testers.get f = false) →
             t.rect.state = .parked ∧ t.rect.syncValid = false ∧ t.rect.watch = none
               ∧ t.rect.cause = (if s.rectIntake.arriving then .acLoss else .measureLost)
               ∧ t.rect.acTimer = some 1000000 ∧ t.rect.alpha = r.alpha ∧ t.rect.latched = r.latched))

/-- R125, R126: a placed crossing in RUNNING with sync-valid set. With an error of at most T / 4 it is
tracked: T moves by the error's sixteenth within 2.5 per cent of the nominal period, P by the error
clamped to J and by the new T, and no crossing is missed. With a larger error it is a slip: T is nominal
and P one period after the crossing.

R131: a tracked crossing in HOLD makes the wake test where wake is enabled, the stack trip flag clear, the
cause not STACK_HOT, and the device in SERVICE or REPLAY: a mean busbar voltage below U_wake gives RUNNING
with cause NONE, any other keeps HOLD with the accumulators at 0. R125, R133: with run pending set a
tracked crossing in HOLD or PROBE enters RUNNING in SERVICE and REPLAY. One in RUNNING or PROBE regulates
(R130).

R106, R107, R132: the entry to RUNNING starts every latched test, as Safety.LatchedStarted says, aborted at
once where BLIND or FROZEN is set (with reason BLIND where both are: log entry 50). (That an entry to
RUNNING by the wake test clears run pending too is log entry 30, the model's choice.)

R124: in the first-crossing wait of STARTING a placed crossing is the hard sync: RUNNING with the AC timer
stopped and the reference anchored on it; in the breaker wait, PARKED and FAULTED it is disregarded. R125:
with sync-valid clear it anchors the reference and leaves the state. R127: each of them starts the crossing
watch for P + T / 2. R125, R126, R128: outside SHADOW and REPLAY a FIRING_SET with the present α, the
correction and T stands on the field port.

R48: an accepted rectifier sample reaches the controller with its crossing placed exactly where it is
no resumption, its handed gap is 1, the time-set marker is clear and its offset lies below the difference
of the stamps: at the previous stamp plus the offset. The last conjunct gives all effects of a sample that
brings no overcurrent and no change of the stack trip flag, the crossing last (the model's choice, log entry
13). -/
def Obligations.CrossingTracked : Prop :=
  (∀ (tm p : Stamp) (s : State), s.rect.state = .running → s.rect.syncValid = true →
     s.rect.p = some p → s.rect.runPending = false →
       let e := (tm - p).toInt
       let nominal : Nat := if s.rectRow.freq = 60 then 16667 else 20000
       let band := nominal * 25 / 1000
       let t := takeCrossing tm s
       t.rect.state = .running ∧ t.rect.syncValid = true ∧ t.rect.missed = 0
         ∧ (e.natAbs ≤ s.rect.t / 4 →
             (t.rect.t : Int) =
                 clampInt ((nominal : Int) - band) ((nominal : Int) + band) (s.rect.t + e.tdiv 16)
               ∧ t.rect.p = some (stampAdd p (clampInt (-(s.rectRow.j : Int)) s.rectRow.j e + t.rect.t)))
         ∧ (s.rect.t / 4 < e.natAbs →
             t.rect.t = nominal ∧ t.rect.p = some (stampAdd tm nominal) ∧ t.rect.n = 0
               ∧ t.rect.sumUb = 0 ∧ t.rect.peakIr = 0 ∧ t.rect.alpha = s.rect.alpha
               ∧ (s.reports.length < 60 → Reported t .syncSlip .rect none (some e) (some s.rect.t))
               ∧ FiringOffered s t
                   { alpha := s.rect.alpha, correction := 0, period := nominal, block := true
                     resync := true })
         ∧ t.feeders = s.feeders)
  ∧ (∀ (tm p : Stamp) (s : State), s.rect.syncValid = true → s.rect.p = some p →
       (tm - p).toInt.natAbs ≤ s.rect.t / 4 → s.reports.length < 20 →
         let r := s.rect
         let row := s.rectRow
         let real := s.mode = .service ∨ s.mode = .replay
         let tests := row.wake = true ∧ r.stackTrip = false ∧ r.cause ≠ .stackHot ∧ real
         let low := 0 < r.n ∧ r.sumUb / r.n < row.uWake
         let t := takeCrossing tm s
         let starts := (r.state = .hold ∧ tests ∧ low)
           ∨ ((r.state = .hold ∨ r.state = .probe) ∧ r.runPending = true ∧ real)
         (starts →
           t.rect.state = .running ∧ t.rect.cause = .none ∧ t.rect.runPending = false
             ∧ t.rect.syncValid = true ∧ (r.state = .hold → t.rect.alpha = r.alpha)
             ∧ LatchedStarted s t)
         ∧ (r.state = .hold → tests → ¬ low → r.runPending = false →
             t.rect.state = .hold ∧ t.rect.n = 0 ∧ t.rect.sumUb = 0 ∧ t.rect.peakIr = 0
               ∧ t.rect.alpha = r.alpha ∧ t.feeders = s.feeders)
         ∧ (r.state = .hold → ¬ tests → (r.runPending = false ∨ ¬ real) →
             t.rect.state = .hold ∧ t.rect.alpha = r.alpha ∧ t.feeders = s.feeders)
         ∧ (r.state = .probe → (r.runPending = false ∨ ¬ real) →
             t.rect.state = .probe ∧ t.feeders = s.feeders)
         ∧ (r.state = .running ∨ r.state = .probe → (r.runPending = false ∨ ¬ real) →
             t.rect.alpha = (regulate s).rect.alpha
               ∧ t.rect.limitHold = (regulate s).rect.limitHold
               ∧ t.rect.n = 0 ∧ t.rect.sumUb = 0 ∧ t.rect.peakIr = 0
               ∧ t.reports = (regulate s).reports)
         ∧ (r.state = .running ∨ r.state = .hold ∨ r.state = .probe →
             WatchSet s t
               ∧ FiringOffered s t
                   { alpha := t.rect.alpha
                     correction := clampInt (-(row.j : Int)) row.j (tm - p).toInt
                     period := t.rect.t, block := decide (r.state = .hold ∧ ¬ (tests ∧ low))
                     resync := false }))
  ∧ (∀ (tm : Stamp) (s : State),
       let r := s.rect
       let nominal : Nat := if s.rectRow.freq = 60 then 16667 else 20000
       let t := takeCrossing tm s
       let anchored := t.rect.t = nominal ∧ t.rect.p = some (stampAdd tm nominal)
         ∧ t.rect.missed = 0 ∧ t.rect.syncValid = true ∧ t.rect.alpha = r.alpha ∧ WatchSet s t
       let fires := fun block : Bool =>
         FiringOffered s t
           { alpha := r.alpha, correction := 0, period := nominal, block := block, resync := true }
       (r.state = .parked ∨ r.state = .faulted
           ∨ (r.state = .starting ∧ r.firstCrossingWait = false) → t = s)
         ∧ (r.state = .starting → r.firstCrossingWait = true →
             t.rect.state = .running ∧ t.rect.cause = .none ∧ t.rect.firstCrossingWait = false
               ∧ t.rect.acTimer = none ∧ anchored ∧ fires false
               ∧ (s.reports.length < 20 → LatchedStarted s t))
         ∧ (r.state = .running ∨ r.state = .hold ∨ r.state = .probe → r.syncValid = false →
             t.rect =
                 { r with
                   t := nominal, p := some (stampAdd tm nominal), missed := 0, syncValid := true
                   watch := t.rect.watch, sumUb := 0, n := 0, peakIr := 0 }
               ∧ anchored ∧ fires (decide (r.state = .hold)) ∧ t.feeders = s.feeders
               ∧ t.reports = s.reports))
  ∧ (∀ (stamp : Stamp) (bytes : List Byte) (fr : RxFrame) (x : RectSample) (g : Nat) (s : State),
       TakesRectSample bytes fr x g s → QuietRect x s →
         exec (.rectSampleReceived stamp bytes) s =
           .next (afterRectSample stamp fr.seq g x (goodFrame .fp s)))

/-- R130: the regulation step: with nothing accumulated only the accumulators are cleared; else α and the
limit hold count go by the table, α clamped to the settings in force, the accumulators at 0, and a
LIMIT_HOLD reported where the table says so. -/
def Obligations.RegulationStep : Prop :=
  ∀ s : State,
    let r := s.rect
    let row := s.rectRow
    let avg : Int := ((r.sumUb / r.n : Nat) : Int)
    let t := regulate s
    let up : Int := r.alpha + row.alphaClStep
    let expect := fun (a : Int) (hold : Nat) (held : Bool) =>
      (t.rect.alpha : Int) = max 0 (clampInt row.alphaMin row.alphaMax a)
        ∧ t.rect.limitHold = hold
        ∧ t.reports =
            (if held then submit .limitHold .rect none (some r.peakIr) (some t.rect.alpha) s
             else s).reports
    t.rect.sumUb = 0 ∧ t.rect.n = 0 ∧ t.rect.peakIr = 0
      ∧ (t.putRect s).putReports s = s
      ∧ (r.n = 0 → t.rect.alpha = r.alpha ∧ t.rect.limitHold = r.limitHold ∧ t.reports = s.reports)
      ∧ (0 < r.n → r.limitHold = 0 → (row.iLim : Int) ≤ r.peakIr → expect up row.h true)
      ∧ (0 < r.n → r.limitHold = 0 → r.peakIr < row.iLim →
          (avg < row.uSet - row.db → expect (r.alpha - row.alphaStep) 0 false)
            ∧ ((row.uSet + row.db : Int) < avg → expect (r.alpha + row.alphaStep) 0 false)
            ∧ ((row.uSet - row.db : Int) ≤ avg → avg ≤ row.uSet + row.db → expect r.alpha 0 false))
      ∧ (0 < r.n → r.limitHold = 1 → (row.iLim : Int) ≤ r.peakIr → expect up row.h true)
      ∧ (0 < r.n → 1 ≤ r.limitHold → (1 < r.limitHold ∨ r.peakIr < row.iLim) →
          expect r.alpha (r.limitHold - 1) false)

/-- R138: a STATUS of the AC breaker replaces its position. Outside SHADOW, an opening in RUNNING, HOLD,
PROBE or the first-crossing wait faults the group with AC_OPENED; a closing in the breaker wait of
STARTING begins the first-crossing wait of three nominal periods; an opening in PARKED stops the AC timer.
A closing in PARKED or FAULTED is uncommanded: AC breaker OPEN is offered, in PARKED the AC timer starts
with 1 s, and UNCOMMANDED_CLOSE is reported with value1 3. Every other change, and a repeated position,
changes nothing else of the group.

R141: in SHADOW a group not FAULTED mirrors a change: RUNNING on CLOSED, PARKED on OPEN, its state on every
other position, and no command is offered; a FAULTED group serves a closing as uncommanded, the report alone.

R137, R139: a STATUS of the firing unit replaces its recorded state; a change to FAULTY outside SHADOW
faults the group with FIRING_FAULT, or adds the cause in FAULTED; in SHADOW (R141) it is reported as a
WOULD_TRIP alone; every other STATUS changes nothing else of the group. -/
def Obligations.GroupStatusServed : Prop :=
  (∀ (bytes : List Byte) (fr : RxFrame) (pos : BreakerPos) (binding : Option FeederId) (s : State),
     FromField .acBreaker binding bytes fr s → fr.kind = .status → readAcStatus fr.payload = some pos →
       ∃ t, exec (.acBreakerStatusReceived bytes) s = .next t ∧
         let r := s.rect
         let real := pos ≠ r.acPos ∧ s.mode ≠ .shadow
         t.rect.acPos = pos
           ∧ (pos = r.acPos → t.rect = r ∧ t.feeders = s.feeders)
           ∧ (real → pos = .opened →
               (r.state = .running ∨ r.state = .hold ∨ r.state = .probe
                 ∨ (r.state = .starting ∧ r.firstCrossingWait = true)) →
               t.rect.state = .faulted ∧ t.rect.firstFault = some .acOpened ∧ t.rect.acTrip = true
                 ∧ t.rect.acTimer = none)
           ∧ (real → pos = .closed → r.state = .starting → r.firstCrossingWait = false →
               t.rect.state = .starting ∧ t.rect.firstCrossingWait = true
                 ∧ t.rect.acTimer = some (if s.rectRow.freq = 60 then 50001 else 60000)
                 ∧ t.feeders = s.feeders)
           ∧ (real → pos = .opened → r.state = .parked →
               t.rect = { r with acPos := .opened, acTimer := none } ∧ t.feeders = s.feeders)
           ∧ (pos ≠ r.acPos → pos = .closed →
               (s.mode ≠ .shadow ∧ r.state = .parked) ∨ r.state = .faulted →
               t.rect =
                   { r with
                     acPos := .closed
                     acTimer := if r.state = .parked then some 1000000 else r.acTimer }
                 ∧ t.feeders = s.feeders
                 ∧ (s.reports.length < 60 → Reported t .uncommandedClose .rect none (some 3) none)
                 ∧ (s.mode = .service → (findNode s .acBreaker none).isSome = true →
                     (s.port .fp).urgent.length < 20 → Commanded t (.acBreaker false))
                 ∧ (s.mode = .shadow → t.port .fp = (goodFrame .fp s).port .fp))
           ∧ (real →
               (pos = .closed ∧ (r.state = .running ∨ r.state = .hold ∨ r.state = .probe
                   ∨ (r.state = .starting ∧ r.firstCrossingWait = true)))
                 ∨ (pos = .opened ∧ (r.state = .faulted
                     ∨ (r.state = .starting ∧ r.firstCrossingWait = false)))
                 ∨ (pos ≠ .opened ∧ pos ≠ .closed) →
               t.rect = { r with acPos := pos } ∧ t.feeders = s.feeders)
           ∧ (s.mode = .shadow → pos ≠ r.acPos → r.state ≠ .faulted →
               t.rect.state =
                   (if pos = .closed then .running
                    else if pos = .opened then .parked
                    else r.state)
                 ∧ (t.rect.state = r.state → t.rect = { r with acPos := pos })
                 ∧ t.rect.alpha = r.alpha ∧ t.rect.acTimer = r.acTimer ∧ t.rect.acTrip = r.acTrip
                 ∧ t.feeders = s.feeders ∧ t.port .fp = (goodFrame .fp s).port .fp)
           ∧ (s.mode = .shadow → pos = .opened → r.state = .faulted →
               t.rect = { r with acPos := pos } ∧ t.feeders = s.feeders))
  ∧ (∀ (bytes : List Byte) (fr : RxFrame) (x : FiringState) (binding : Option FeederId) (s : State),
       FromField .firing binding bytes fr s → fr.kind = .status → readFiringStatus fr.payload = some x →
         ∃ t, exec (.firingStatusReceived bytes) s = .next t ∧ t.rect.firing = x
           ∧ (x = .faulty → s.rect.firing ≠ .faulty → s.mode ≠ .shadow →
               t.rect.state = .faulted ∧ t.rect.faults.firingFault = true
                 ∧ (s.rect.state ≠ .faulted →
                     t.rect.acTrip = true ∧ t.rect.firstFault = some .firingFault)
                 ∧ (s.rect.state = .faulted → t.rect.firstFault = s.rect.firstFault))
           ∧ (x = .faulty → s.rect.firing ≠ .faulty → s.mode = .shadow →
               t.rect = { s.rect with firing := .faulty } ∧ t.feeders = s.feeders
                 ∧ (s.reports.length < 60 →
                     Reported t .wouldTrip .rect (some .firingFault) none none))
           ∧ ((x ≠ .faulty ∨ s.rect.firing = .faulty) →
               t.rect = { s.rect with firing := x } ∧ t.feeders = s.feeders))

/-- R184: the end of a simulated operation: the device takes its target, and the positions it stands for
are recorded as a STATUS would record them. (Log entry 3, the model's choice: a device without a pending
operation does nothing.)

R184: a command offered in REPLAY starts an operation of its device instead: the target is the command's
position and the timer the replay operating time of the REPORT row, in place of a pending one; FIRING_SET
starts none, and no command goes to the field port. R81, R124: so OPEN in CLOSED or CLOSING starts one of
the feeder's breaker, and RUN in PARKED one of the AC breaker. -/
def Obligations.SimulatedOperationEnds : Prop :=
  (∀ (f : FeederId) (s : State), s.inReset = false →
    (∀ op, (s.feeder f).simBreaker.op = some op →
      ∃ t, exec (.simOperationComplete (.breaker f)) s = .next t
        ∧ (t.feeder f).simBreaker.pos = op.target ∧ (t.sq f).breaker = op.target.breaker
        ∧ (t.sq f).contactor = (s.feeder f).simContactor.pos.contactor ∧ (t.sq f).spring = true)
    ∧ (∀ op, (s.feeder f).simContactor.op = some op →
        ∃ t, exec (.simOperationComplete (.contactor f)) s = .next t
          ∧ (t.feeder f).simContactor.pos = op.target ∧ (t.sq f).contactor = op.target.contactor
          ∧ (t.sq f).breaker = (s.feeder f).simBreaker.pos.breaker ∧ (t.sq f).spring = true)
    ∧ (∀ op, s.simAc.op = some op →
        ∃ t, exec (.simOperationComplete .acBreaker) s = .next t
          ∧ t.simAc.pos = op.target ∧ t.rect.acPos = op.target.breaker)
    ∧ ((s.feeder f).simBreaker.op = none →
        exec (.simOperationComplete (.breaker f)) s = .next s))
  ∧ (∀ (f : FeederId) (s : State), s.mode = .replay →
       let u := s.feeder f
       let op := fun target : SimPos =>
         some { target := target, timer := s.reportRow.replayTime * 1000 : SimOp }
       (∀ c : BreakerCmd,
         offerField (.breaker f c) s =
           s.setFeeder f
             { u with
               simBreaker :=
                 { u.simBreaker with op := op (if c = .close then .closed else .opened) } })
         ∧ (∀ close : Bool,
             offerField (.testContactor f close) s =
                 s.setFeeder f
                   { u with
                     simContactor :=
                       { u.simContactor with op := op (if close then .closed else .opened) } }
               ∧ offerField (.acBreaker close) s =
                   { s with simAc := { s.simAc with op := op (if close then .closed else .opened) } })
         ∧ ∀ x : FiringSet, offerField (.firingSet x) s = s)
  ∧ (∀ (k : Ticket) (f : FeederId) (s : State), s.inReset = false → s.mode = .replay →
       let op := fun target : SimPos =>
         some { target := target, timer := s.reportRow.replayTime * 1000 : SimOp }
       ((s.sq f).state = .closed ∨ (s.sq f).state = .closing →
         ∃ t, exec (.openFeeder k f.num) s = .next (answer k .feederCmd .done t)
           ∧ (t.sq f).state = .opening
           ∧ (t.feeder f).simBreaker = { (s.feeder f).simBreaker with op := op .opened }
           ∧ t.ports = s.ports)
         ∧ (k.source = (if s.key = .atRemote then .fromStation else .fromPanel) →
             s.rectValid = true → s.estop = false → s.rect.stackTrip = false →
             s.rect.firing ≠ .faulty → s.rect.state = .parked →
               ∃ t, exec (.rectRun k) s = .next (answer k .rectCmd .done t)
                 ∧ t.rect.state = .starting ∧ t.simAc = { s.simAc with op := op .closed }
                 ∧ t.ports = s.ports))

/-! ## Ties -/

/-- R146: the send timer's expiry starts its next 10 ms and, unless the tie port is LOST, offers a BEAT
with the device mode.

R147, R149: a BEAT in UP restarts the silence timer; in DOWN it counts, from 1 when the gap timer is
stopped, and the third takes the link UP with TIE_UP. The sender's mode becomes the far mode, with a
FAR_MODE report unless it is the mode recorded, or SERVICE after UNKNOWN. No other report is made, and
only the tie's record, its port's record and the reports change.

R147: the gap timer's expiry in DOWN clears the beat count. (Log entry 3, the model's choice: the expiry
of a stopped gap timer does nothing.)

R145, R147: a malformed TIE frame restarts the silence timer of an UP link and is counted as rejected;
it has no other effect. -/
def Obligations.BeatsServed : Prop :=
  (∀ (k : Tie) (s : State), s.inReset = false →
     exec (.beatSend k) s =
       let t := s.setTie k { s.tie k with sendTimer := some 10000 }
       .next (if (s.port k.port).state = .lost then t else offerTie k (.beat s.mode) t))
  ∧ (∀ (k : Tie) (bytes : List Byte) (fr : RxFrame) (m : Mode) (s : State),
       Arrives k.port bytes fr s → fr.kind = .tie → readTie fr.payload = some (.beat m) →
       (s.tie k).beatCount ≤ 3 →
         ∃ t, exec (.beatReceived k bytes) s = .next t ∧
           let r := s.tie k
           let n := if r.gapTimer = none then 1 else min 3 (r.beatCount + 1)
           t.tie k =
               { r with
                 farMode := some m
                 up := r.up || decide (n = 3)
                 beatCount := if r.up then r.beatCount else n
                 gapTimer := if r.up then r.gapTimer else if n = 3 then none else some 50000
                 silence := if r.up ∨ n = 3 then some 50000 else r.silence }
             ∧ (let heard := goodFrame k.port s
                let known :=
                  if r.up = false ∧ n = 3 then submit .tieUp (.tie k) none none none heard else heard
                let told :=
                  if r.farMode = some m ∨ (r.farMode = none ∧ m = .service) then known
                  else
                    submit .farMode (.tie k) none (some (modeCode m))
                      (some (match r.farMode with | some old => modeCode old | none => 0)) known
                t.reports = told.reports ∧ t.loss = told.loss)
             ∧ (((t.putTie k s).putPort k.port s).putReports s) = s
             ∧ t.port k.port = (goodFrame k.port s).port k.port)
  ∧ (∀ (k : Tie) (s : State), s.inReset = false →
       exec (.beatGapExpired k) s =
         .next
           (if (s.tie k).gapTimer = none then s
            else s.setTie k { s.tie k with gapTimer := none, beatCount := 0 }))
  ∧ (∀ (k : Tie) (bytes : List Byte) (fr : RxFrame) (s : State),
       Arrives k.port bytes fr s → fr.kind = .tie → readTie fr.payload = none →
         exec (.tieFrameMalformed k bytes) s =
           let t := goodFrame k.port s
           .next
             (reject k.port
               (if (s.tie k).up then t.setTie k { s.tie k with silence := some 50000 } else t)))

/-- R147, R148, R153: the silence timer's expiry takes an UP link DOWN with its far mode UNKNOWN and
TIE_DOWN of value1 1, and outside REPLAY every outstanding intertrip entry on the tie is removed with an
INTERTRIP_FAILED report of reason LINK_DOWN. (Latched tests belong to DEAD_TIME: StepKeepsModeStates.)

R95: a TRIPPING feeder that had an entry is marked, and one in DEAD_TIME or TESTING locks out with cause
INTERTRIP_FAILED. (That every entry fails before the notices are served, so that an entry in
AWAITING_FAR_END locks its feeder out without the test of the notice, is log entry 54, the model's choice.)

R104, R148: a feeder that waits for the far end on the tie, without an entry there, or in REPLAY, asks for
its test and ACTING_MASTER is reported with value1 2: with BLIND and FROZEN clear, above θ_reclose it goes to
COOLING, else a test starts on a group RUNNING, or in HOLD with PROBE entered, and is latched on a group
PARKED, STARTING or FAULTED. A link that is already DOWN keeps its state: the timer only stops. -/
def Obligations.TieSilenceTakesLinkDown : Prop :=
  (∀ (k : Tie) (s : State), s.inReset = false → (s.tie k).silence ≠ none → (s.tie k).up = true →
    (∀ f, s.rect.latched.get f = true →
      (s.sq f).pendingTest = true ∧ (s.sq f).state = .deadTime) →
    ∃ t, exec (.tieSilenceExpired k) s = .next t
      ∧ (t.tie k).up = false ∧ (t.tie k).farMode = none ∧ (t.tie k).beatCount = 0
      ∧ (t.tie k).silence = none ∧ (t.tie k).gapTimer = none
      ∧ (t.tie k).sendTimer = (s.tie k).sendTimer
      ∧ (s.mode ≠ .replay → ∀ f e, (t.feeder f).entry = some e → e.tie ≠ k)
      ∧ (s.mode ≠ .replay → ∀ f, (∃ e, (s.feeder f).entry = some e ∧ e.tie = k) →
          (s.sq f).state = .tripping → (t.sq f).intertripFailed = true)
      ∧ (s.mode ≠ .replay → ∀ f, (∃ e, (s.feeder f).entry = some e ∧ e.tie = k) →
          ((s.sq f).state = .deadTime ∨ (s.sq f).state = .testing) →
          (t.sq f).state = .lockout ∧ (t.sq f).lockoutCause = some .intertripFailed)
      ∧ (s.reports.length < 10 →
          Reported t .tieDown (.tie k) none (some 1) none
            ∧ (s.mode ≠ .replay → ∀ f e, (s.feeder f).entry = some e → e.tie = k →
                Reported t .intertripFailed (.feeder f) (some e.cause.cause) (some e.sectionId)
                  (some 2)))
      ∧ (∀ f, (s.feeder f).section_.tie = some k → (s.sq f).state = .deadTime →
          (s.sq f).phase = some .awaitingFarEnd →
          (s.mode = .replay ∨ (∀ e, (s.feeder f).entry = some e → e.tie ≠ k)) →
            let r := s.sq f
            let r' := t.sq f
            let hot := thetaReclose s f < (s.feeder f).prot.theta
            (s.reports.length < 10 → Reported t .actingMaster (.feeder f) none (some 2) none)
              ∧ (r.blind = false → r.frozen = false →
                  r'.test.kind = some .auto ∧ r'.test.origin = some .awaitingFarEnd ∧ r'.dead = none
                    ∧ r'.shotCount = r.shotCount ∧ r'.shotTaken = r.shotTaken
                    ∧ (hot → r'.state = .deadTime ∧ r'.phase = some .cooling)
                    ∧ (¬ hot → s.rect.state = .running ∨ s.rect.state = .hold →
                        r'.state = .testing ∧ t.rect.testers.get f = true
                          ∧ t.rect.state = (if s.rect.state = .hold then .probe else .running))
                    ∧ (¬ hot → s.rect.state = .parked ∨ s.rect.state = .starting
                          ∨ s.rect.state = .faulted →
                        r'.state = .deadTime ∧ r'.phase = some .awaitingSupply
                          ∧ r'.pendingTest = true ∧ t.rect.latched.get f = true))))
  ∧ (∀ (k : Tie) (s : State), s.inReset = false → (s.tie k).silence ≠ none → (s.tie k).up = false →
       exec (.tieSilenceExpired k) s = .next (s.setTie k { s.tie k with silence := none }))

/-- R154, R155: a TRIP_REQ is answered NOT_IN_SERVICE_MODE outside SERVICE, UNKNOWN_SECTION for a section
that no feeder has, and with its held result when the repeat record has its tag. A new one is answered
with the result of the mapped feeder's state: INTERTRIP_RECEIVED is reported, the TRIP_ACK offered, and the
result recorded with a window of 100 ms.

R155: it trips a feeder that is CLOSED, CLOSING or OPENING, without an intertrip of its own (R83); adds
INTERTRIP to the causes of one that is TRIPPING; starts the wait of DEAD_TIME in TIMING or
AWAITING_FAR_END again with far-clear cleared; aborts a test in TESTING with reason INTERTRIP, and has no
effect during its OPEN wait; and leaves a feeder in OUT, OPEN or LOCKOUT as it is. -/
def Obligations.TripRequestServed : Prop :=
  ∀ (k : Tie) (bytes : List Byte) (fr : RxFrame) (sec tag : Byte) (c : InterCause) (s : State),
    Arrives k.port bytes fr s → fr.kind = .tie → readTie fr.payload = some (.tripReq sec c tag) →
      let heard := restartSilence k (goodFrame k.port s)
      let answered := fun (result : AckResult) (x : State) =>
        offerTie k (.tripAck sec tag result)
          (submit .intertripReceived (.tie k) (some c.cause) (some sec.toNat)
            (some result.cause.code) x)
      ∃ t, exec (.tripReqReceived k bytes) s = .next t
        ∧ (s.mode ≠ .service → t = answered .notInServiceMode heard)
        ∧ (s.mode = .service → mappedFeeder s k sec = none → t = answered .unknownSection heard)
        ∧ (∀ f r, s.mode = .service → mappedFeeder s k sec = some f →
            (s.feeder f).repeatRec = some r → r.tag = tag →
              t = offerTie k (.tripAck sec tag r.result) heard)
        ∧ (∀ f, s.mode = .service → mappedFeeder s k sec = some f →
            (∀ r, (s.feeder f).repeatRec = some r → r.tag ≠ tag) →
              let st := (s.sq f).state
              let result : AckResult :=
                if st = .out then .outOfService
                else if st = .closed ∨ st = .closing ∨ st = .opening ∨ st = .tripping then .tripped
                else .alreadyOpen
              let held := some { tag := tag, result := result, window := 100000 }
              let left := fun r : FeederRec =>
                answered result (heard.setFeeder f { s.feeder f with sq := r, repeatRec := held })
              let r := s.sq f
              let r' := t.sq f
              let row := (s.feeder f).row
              let room := s.reports.length < 30 ∧ (s.port k.port).urgent.length < 20
              (t.feeder f).repeatRec = held
                ∧ (st = .out ∨ st = .opened ∨ st = .lockout
                    ∨ (st = .testing ∧ r.openRequested = true) → t = left r)
                ∧ (st = .tripping →
                    t = left { r with tripCauses := { r.tripCauses with intertrip := true } })
                ∧ (st = .deadTime →
                    t = left
                      { r with
                        farClear := false
                        dead :=
                          match r.phase with
                          | some .timing => some (deadTime row.test (r.shotCount + 1) * 1000)
                          | some .awaitingFarEnd => some (row.test.tFollow * 1000)
                          | _ => r.dead })
                ∧ (st = .closed ∨ st = .closing ∨ st = .opening →
                    r'.state = .tripping ∧ r'.primary = some .intertrip ∧ r'.tripLine = true
                      ∧ r'.tripCauses = { TripCauses.empty with intertrip := true }
                      ∧ r'.openTimer = some (row.brk.tOpenMax * 1000)
                      ∧ r'.sotfMark = r.sotf.isSome ∧ r'.shotCount = r.shotCount
                      ∧ (t.feeder f).entry = (s.feeder f).entry
                      ∧ (room →
                          Reported t .trip (.feeder f) (some .intertrip)
                            ((s.feeder f).intake.lastAccepted.map Prod.fst) none)
                      ∧ ((findNode s .breaker (some f)).isSome = true →
                          (s.port .fp).urgent.length < 20 → Commanded t (.breaker f .trip)))
                ∧ (st = .testing → r.openRequested = false → s.rect.latched.get f = false → room →
                    AbortedTo f .intertrip none none s t)
                ∧ (room →
                    Reported t .intertripReceived (.tie k) (some c.cause) (some sec.toNat)
                        (some result.cause.code)
                      ∧ TieOffered t k (.tripAck sec tag result)))

/-- R152, R153: a TRIP_ACK that matches no outstanding entry changes nothing but the link's silence timer;
one that matches the entry of a feeder removes it: TRIPPED, ALREADY_OPEN and OUT_OF_SERVICE are reported
as the acknowledgement, the other results fail the intertrip.

R151, R153: outside REPLAY the repeat timer's expiry sends the TRIP_REQ again with its tag, up to three
sends, and after the third fails the intertrip (R95, R115: a test in TESTING is aborted, its shot given
back, and the feeder locked out). R159: in REPLAY the simulation timer's expiry is served as an
acknowledgement TRIPPED. R154: the window's expiry empties the repeat record. -/
def Obligations.IntertripsSettled : Prop :=
  (∀ (k : Tie) (bytes : List Byte) (fr : RxFrame) (sec tag : Byte) (result : AckResult) (s : State),
     Arrives k.port bytes fr s → fr.kind = .tie → readTie fr.payload = some (.tripAck sec tag result) →
       let heard := restartSilence k (goodFrame k.port s)
       let hit := fun f => ∃ e, (s.feeder f).entry = some e ∧ e.tie = k ∧ e.sectionId = sec.toNat
         ∧ e.tag = tag
       ∃ t, exec (.tripAckReceived k bytes) s = .next t
         ∧ ((∀ f, ¬ hit f) → t = heard)
         ∧ (∀ f, hit f → (∀ g, hit g → g = f) →
             (t.feeder f).entry = none
               ∧ ((result = .tripped ∨ result = .alreadyOpen ∨ result = .outOfService) →
                   t = submit .intertripAcked (.feeder f) (some result.cause) (some sec.toNat)
                     (some tag.toNat) (heard.setFeeder f { s.feeder f with entry := none }))
               ∧ ((result = .unknownSection ∨ result = .notInServiceMode) →
                   ((s.sq f).state = .tripping → (t.sq f).intertripFailed = true)
                     ∧ ((s.sq f).state = .deadTime →
                         (t.sq f).state = .lockout
                           ∧ (t.sq f).lockoutCause = some .intertripFailed))))
  ∧ (∀ (f : FeederId) (s : State), s.inReset = false →
       (∀ e, s.mode ≠ .replay → (s.feeder f).entry = some e → e.sends < 3 →
         exec (.repeatTimerExpired f) s =
           .next
             (offerTie e.tie (.tripReq (BitVec.ofNat 8 e.sectionId) e.cause e.tag)
               (s.setFeeder f
                 { s.feeder f with entry := some { e with sends := e.sends + 1, timer := 10000 } })))
       ∧ (∀ e, s.mode ≠ .replay → (s.feeder f).entry = some e → 3 ≤ e.sends →
           ∃ t, exec (.repeatTimerExpired f) s = .next t ∧ (t.feeder f).entry = none
             ∧ ((s.sq f).state = .tripping →
                 (t.sq f).intertripFailed = true
                   ∧ t.reports =
                       (submit .intertripFailed (.feeder f) (some e.cause.cause) (some e.sectionId)
                         (some 1) s).reports
                   ∧ (t.putFeeder f s).putReports s = s)
             ∧ ((s.sq f).state = .deadTime →
                 (t.sq f).state = .lockout ∧ (t.sq f).lockoutCause = some .intertripFailed)
             ∧ ((s.sq f).state = .testing →
                 (t.sq f).state = .lockout ∧ (t.sq f).lockoutCause = some .intertripFailed
                   ∧ ((s.sq f).openRequested = false → s.rect.latched.get f = false →
                       s.reports.length < 40 →
                       (t.sq f).shotCount =
                           (if (s.sq f).shotTaken = true then (s.sq f).shotCount - 1
                            else (s.sq f).shotCount)
                         ∧ Reported t .lineTest (.feeder f) (some .intertripFailed) none none)))
       ∧ (∀ e, s.mode = .replay → (s.feeder f).entry = some e →
           exec (.replayIntertripTimeout f) s =
             .next
               (submit .intertripAcked (.feeder f) (some .tripped) (some e.sectionId)
                 (some e.tag.toNat) (s.setFeeder f { s.feeder f with entry := none })))
       ∧ exec (.repeatWindowExpired f) s =
           .next (s.setFeeder f { s.feeder f with repeatRec := none }))

/-- R105, R157: a section message is reported in every case. In SERVICE, a FOLLOWER feeder of the section
in DEAD_TIME serves it: SECTION_HOLD is a lockout FAR_LOCKOUT; SECTION_CLEAR in TIMING sets far-clear, in
COOLING and AWAITING_SUPPLY it has no effect. A message that no such feeder serves changes nothing but the
link's silence timer and the reports.

R101, R104, R105: SECTION_CLEAR in AWAITING_FAR_END stops the wait and makes a test request of that
origin: with BLIND or FROZEN set an aborted test (BLIND where both are: log entry 50), above θ_reclose
COOLING, else a test at once on a group RUNNING or in PROBE, and in HOLD with PROBE entered, and otherwise
a latched test in AWAITING_SUPPLY. -/
def Obligations.SectionMessageServed : Prop :=
  ∀ (k : Tie) (bytes : List Byte) (fr : RxFrame) (sec : Byte) (hold : Bool) (s : State),
    Arrives k.port bytes fr s → fr.kind = .tie →
    readTie fr.payload = some (if hold then .sectionHold sec else .sectionClear sec) →
      let heard :=
        submit .sectionMsg (.tie k) none (some sec.toNat) (some (if hold then 2 else 1))
          (restartSilence k (goodFrame k.port s))
      let served := fun f =>
        mappedFeeder s k sec = some f ∧ s.mode = .service ∧ isFollower s f = true
          ∧ (s.sq f).state = .deadTime
      ∃ t, exec (if hold then .sectionHoldReceived k bytes else .sectionClearReceived k bytes) s
          = .next t
        ∧ ((∀ f, ¬ served f) → t = heard)
        ∧ (∀ f, served f → hold = false → (s.sq f).phase = some .timing →
            t = heard.setSq f { s.sq f with farClear := true })
        ∧ (∀ f, served f → hold = false →
            ((s.sq f).phase = some .cooling ∨ (s.sq f).phase = some .awaitingSupply) → t = heard)
        ∧ (∀ f, served f → hold = false → (s.sq f).phase = some .awaitingFarEnd →
            let r := s.sq f
            let r' := t.sq f
            let row := (s.feeder f).row.test
            let flagged := r.blind = true ∨ r.frozen = true
            let hot := thetaReclose s f < (s.feeder f).prot.theta
            let asked := r'.test.kind = some .auto ∧ r'.test.origin = some .awaitingFarEnd
              ∧ r'.dead = none ∧ r'.shotCount = r.shotCount ∧ r'.shotTaken = r.shotTaken
            (∀ e, e ≠ f → t.feeder e = s.feeder e)
              ∧ (flagged →
                  t.rect = s.rect ∧ r'.state = .deadTime ∧ r'.farClear = false
                    ∧ r'.test.last =
                        some
                          { outcome := .aborted (if r.blind = true then .blind else .frozen)
                            r := none, uAvg := none, ubAvg := none }
                    ∧ (if r.shotTaken = true then
                        r'.phase = some .timing ∧ r'.shotCount = r.shotCount - 1
                          ∧ r'.dead = some (deadTime row (r.shotCount - 1 + 1) * 1000)
                       else
                        r'.phase = some .awaitingFarEnd ∧ r'.shotCount = r.shotCount
                          ∧ r'.dead = some (row.tFollow * 1000)))
              ∧ (¬ flagged → hot →
                  r'.state = .deadTime ∧ r'.phase = some .cooling ∧ asked ∧ t.rect = s.rect)
              ∧ (¬ flagged → ¬ hot →
                  (s.rect.state = .running ∨ s.rect.state = .probe ∨ s.rect.state = .hold →
                    r'.state = .testing ∧ r'.farClear = false ∧ asked
                      ∧ t.rect.testers.get f = true
                      ∧ t.rect.state =
                          (if s.rect.state = .hold then .probe else s.rect.state)
                      ∧ (s.rect.state = .hold →
                          t.rect.probeTarget = .hold ∧ t.rect.runPending = false))
                  ∧ (s.rect.state = .parked ∨ s.rect.state = .starting ∨ s.rect.state = .faulted →
                      r'.state = .deadTime ∧ r'.phase = some .awaitingSupply ∧ asked
                        ∧ r'.pendingTest = true ∧ t.rect.latched.get f = true)))
        ∧ (∀ f, served f → hold = true →
            (t.sq f).state = .lockout ∧ (t.sq f).lockoutCause = some .farLockout
              ∧ (t.sq f).dead = none ∧ (t.sq f).phase = none ∧ (t.sq f).farClear = false
              ∧ t.rect.latched.get f = (s.rect.latched.get f && !(s.sq f).pendingTest)
              ∧ (∀ e, e ≠ f → t.feeder e = s.feeder e))

/-! ## Requests -/

/-- R175, R176: a request that is taken leaves the head of the queue and is served; one that is not the
queue's head is served directly (log entry 11); nothing but the queue changes by the taking.

R19, R144, R167, R181: READ_ROW answers the row in force for a row number of its table, and BAD_ROW
for any other, in every mode and from either source.

R17, R72, R73, R117, R120, R160, R173, R181: READ_RECORD answers the record as it stands when the
request is taken, and BAD_VALUE for a feeder, port or tie that does not exist. The last conjunct gives the
fields of each record; those of a device's FREE slot (none, none, 0) are the model's choice, log entry
51, and a slot's next position is the number of its positions filled. (That a feeder's record carries its
whole intake record, with the history ring, is the model's reading of R181, log entry 35.) -/
def Obligations.ReadsAnswered : Prop :=
  (∀ (k : Ticket) (r : Request) (s : State),
     (∀ rest, s.requests = { ticket := k, request := r } :: rest →
       takeRequest k r s = { s with requests := rest })
     ∧ ((∀ rest, s.requests ≠ { ticket := k, request := r } :: rest) → takeRequest k r s = s))
  ∧ (∀ (k : Ticket) (n : Nat) (s : State), s.inReset = false →
       let from' := fun (r : Request) (body : Option ReplyBody) =>
         Host.Outcome.next (φ := Fault) (ρ := Refusal)
           (match body with
            | some b => answerBody k .readRow b (takeRequest k r s)
            | none => answer k .readRow .badRow (takeRequest k r s))
       exec (.readRowNode k n) s =
           from' (.readRowNode n)
             (if n ≤ 63 then some (.nodeRow (s.nodeRow (BitVec.ofNat 8 n))) else none)
         ∧ exec (.readRowFeeder k n) s =
             from' (.readRowFeeder n)
               ((FeederId.ofNum n).map fun f => .feederRow (s.feeder f).row (s.feeder f).valid)
         ∧ exec (.readRowRect k n) s =
             from' (.readRowRect n) (if n = 0 then some (.rectRow s.rectRow s.rectValid) else none)
         ∧ exec (.readRowSection k n) s =
             from' (.readRowSection n)
               ((FeederId.ofNum n).map fun f => .sectionRow (s.feeder f).section_)
         ∧ exec (.readRowPort k n) s =
             from' (.readRowPort n) ((portOfRow n).map fun p => .portRow (s.port p).recovery)
         ∧ exec (.readRowReport k n) s =
             from' (.readRowReport n) (if n = 0 then some (.reportRow s.reportRow) else none))
  ∧ (∀ (k : Ticket) (n : Nat) (p : Option Port) (t : Option Tie) (s : State), s.inReset = false →
       let from' := fun (r : Request) (body : Option (State → ReplyBody)) =>
         let s' := takeRequest k r s
         Host.Outcome.next (φ := Fault) (ρ := Refusal)
           (match body with
            | some b => answerBody k .readRecord (b s') s'
            | none => answer k .readRecord .badValue s')
       exec (.readRecordFeeder k n) s =
           from' (.readRecordFeeder n)
             ((FeederId.ofNum n).map fun f x => .feederRecord (feederView x f))
         ∧ exec (.readRecordRect k) s = from' .readRecordRect (some fun x => .rectRecord (rectView x))
         ∧ exec (.readRecordPort k p) s =
             from' (.readRecordPort p) (p.map fun q x => .portRecord (portView x q))
         ∧ exec (.readRecordTie k t) s =
             from' (.readRecordTie t) (t.map fun q x => .tieRecord (tieView x q))
         ∧ exec (.readRecordDevice k) s =
             from' .readRecordDevice (some fun x => .deviceRecord (deviceView x)))
  ∧ (∀ (f : FeederId) (p : Port) (k : Tie) (s : State),
       let u := s.feeder f
       let r := s.port p
       let slot := fun c : Slot =>
         { state := c.state, feeder := c.feeder, trigger := c.trigger
           nextPosition := c.positions.length : SlotView }
       feederView s f =
           { sq := u.sq, prot := u.prot, intake := u.intake, valid := u.valid
             thetaReclose := (u.row.prot.iReclose / 16) * (u.row.prot.iReclose / 16)
             thetaAlarm := (u.row.prot.iAlarm / 16) * (u.row.prot.iAlarm / 16)
             thetaTrip := (u.row.prot.iTrip / 16) * (u.row.prot.iTrip / 16) }
         ∧ rectView s =
             { record := s.rect, row := s.rectRow, valid := s.rectValid, rest := s.rest }
         ∧ portView s p =
             { state := r.state, recovery := r.recovery, errorCount := r.errorCount
               recoveryCount := r.recoveryCount, lastError := r.lastError, rejected := r.rejected
               forwardedDrop := r.forwardedDrop, urgentOccupancy := r.urgent.length
               normalOccupancy := r.normal.length, nextSeq := r.nextSeq }
         ∧ (tieView s k).link = s.tie k
         ∧ (∀ (g : FeederId) (e : Entry),
             (g, e) ∈ (tieView s k).entries ↔ (s.feeder g).entry = some e ∧ e.tie = k)
         ∧ (∀ (g : FeederId) (x : Option RepeatRec),
             (g, x) ∈ (tieView s k).repeats ↔
               (s.feeder g).section_.tie = some k ∧ x = (s.feeder g).repeatRec)
         ∧ deviceView s =
             { mode := s.mode, key := s.key, estop := s.estop, strapRest := s.strapRest
               strapNode := s.strapNode, ownNode := s.ownNode, time := s.time
               timeValid := s.timeValid, queuedRequests := s.requests.length
               queuedReports := s.reports.length, loss := s.loss
               slots :=
                 { s0 := slot s.slots.s0, s1 := slot s.slots.s1, s2 := slot s.slots.s2
                   s3 := slot s.slots.s3 } })

/-- R19 to R21, R144, R177, R179: accepted writes of the NODE, FEEDER and SECTION tables store the row as
rounded and are answered DONE; no other row of their table changes; a FEEDER write makes the settings
valid and clears the decimation count; under LATCH it sets the clearing count to 0 (R46).

R20, R21, R54, R144, R180: a write of the station is refused with BAD_ROW for a row its table has not,
with BAD_VALUE for a row whose values do not stand, and with REFUSED_STATE where a binding or a FEEDER row
would change under a feeder that is not OUT, or a SECTION row under an outstanding intertrip; a refused
write changes nothing. The last conjuncts give these conditions field by field, with the rounding. -/
def Obligations.FeederTablesWritten : Prop :=
  (∀ (k : Ticket) (n : Nat) (s : State), s.inReset = false → k.source = .fromStation →
     (∀ w : RowWrite NodeRow, s.mode = .config → n ≤ 63 → nodeRowOk s n w = true →
       bindingsFree s (s.nodeRow (BitVec.ofNat 8 n)) w.value = true →
         ∃ t, exec (.writeRowNode k n w) s = .next (answer k .writeRow .done t)
           ∧ t.nodeRow (BitVec.ofNat 8 n) = storedRow w.value
           ∧ (∀ m, m ≤ 63 → m ≠ n →
               t.nodeRow (BitVec.ofNat 8 m) = s.nodeRow (BitVec.ofNat 8 m))
           ∧ (∀ f, (t.feeder f).row = (s.feeder f).row ∧ (t.sq f).state = (s.sq f).state)
           ∧ t.ports = s.ports ∧ t.mode = s.mode ∧ t.reports = s.reports)
     ∧ (∀ (f : FeederId) (w : RowWrite FeederRow), n = f.num → w.outOfSet = false →
         feederRowOk (roundFeeder w.value) = true → (s.sq f).state = .out →
           exec (.writeRowFeeder k n w) s =
             .next
               (answer k .writeRow .done
                 ((takeRequest k (.writeRowFeeder n w) s).setFeeder f
                   { s.feeder f with
                     row := roundFeeder w.value, valid := true, decim := 0
                     intake :=
                       if w.value.intake.policy = .latch then
                         { (s.feeder f).intake with clearingCount := 0 }
                       else (s.feeder f).intake })))
     ∧ (∀ (f : FeederId) (w : RowWrite SectionRow), n = f.num → s.mode = .config →
         sectionOk s f w = true → sectionBlocked s f w.value = false →
           exec (.writeRowSection k n w) s =
             .next
               (answer k .writeRow .done
                 ((takeRequest k (.writeRowSection n w) s).setFeeder f
                   { s.feeder f with section_ := w.value })))
     ∧ (let refused := fun (r : Request) (status : Status) =>
          Host.Outcome.next (φ := Fault) (ρ := Refusal)
            (answer k .writeRow status (takeRequest k r s))
        (∀ w : RowWrite NodeRow, s.mode = .config →
           (63 < n → exec (.writeRowNode k n w) s = refused (.writeRowNode n w) .badRow)
           ∧ (n ≤ 63 → nodeRowOk s n w = false →
               exec (.writeRowNode k n w) s = refused (.writeRowNode n w) .badValue)
           ∧ (n ≤ 63 → nodeRowOk s n w = true →
               bindingsFree s (s.nodeRow (BitVec.ofNat 8 n)) w.value = false →
               exec (.writeRowNode k n w) s = refused (.writeRowNode n w) .refusedState))
        ∧ (∀ w : RowWrite FeederRow,
             ((n = 0 ∨ 8 < n) →
               exec (.writeRowFeeder k n w) s = refused (.writeRowFeeder n w) .badRow)
             ∧ (∀ f : FeederId, n = f.num →
                 ((w.outOfSet = true ∨ feederRowOk (roundFeeder w.value) = false) →
                   exec (.writeRowFeeder k n w) s = refused (.writeRowFeeder n w) .badValue)
                 ∧ (w.outOfSet = false → feederRowOk (roundFeeder w.value) = true →
                     (s.sq f).state ≠ .out →
                     exec (.writeRowFeeder k n w) s
                       = refused (.writeRowFeeder n w) .refusedState)))
        ∧ (∀ w : RowWrite SectionRow, s.mode = .config →
             ((n = 0 ∨ 8 < n) →
               exec (.writeRowSection k n w) s = refused (.writeRowSection n w) .badRow)
             ∧ (∀ f : FeederId, n = f.num →
                 (sectionOk s f w = false →
                   exec (.writeRowSection k n w) s = refused (.writeRowSection n w) .badValue)
                 ∧ (sectionOk s f w = true → sectionBlocked s f w.value = true →
                     exec (.writeRowSection k n w) s
                       = refused (.writeRowSection n w) .refusedState)))))
  ∧ (∀ (s : State) (n : Nat) (w : RowWrite NodeRow),
       let v := w.value
       let serves := v.role = .feederMu ∨ v.role = .breaker
       let passes := v.downCommand = true ∨ v.downManage = true ∨ v.upStatus = true
         ∨ v.upReply = true ∨ v.upReport = true
       (nodeRowOk s n w = true ↔
         w.outOfSet = false ∧ n ≠ 63 ∧ n ≠ s.ownNode.toNat ∧ (v.binding ≠ none ↔ serves)
           ∧ (v.role = .gateway → v.side = .station)
           ∧ (v.role ≠ .gateway → v.role ≠ .unused → v.side = .field)
           ∧ ((v.role = .unused ∨ v.role = .gateway) → ¬ passes)
           ∧ ((v.role = .breaker ∨ v.role = .acBreaker ∨ v.role = .firing) → v.downCommand = false)
           ∧ (∀ m, m ≤ 63 → m ≠ n → v.role ≠ .unused →
               (s.nodeRow (BitVec.ofNat 8 m)).role = v.role →
                 serves ∧ (s.nodeRow (BitVec.ofNat 8 m)).binding ≠ v.binding)))
  ∧ (∀ (s : State) (old new : NodeRow),
       let stands := fun (r : NodeRow) (f : FeederId) =>
         (r.role = .feederMu ∨ r.role = .breaker) ∧ r.binding = some f
       (bindingsFree s old new = true ↔
         ∀ f, (stands old f ∨ stands new f) →
           ¬ (old.role = new.role ∧ old.binding = new.binding) → (s.sq f).state = .out))
  ∧ (∀ (s : State) (f : FeederId) (w : RowWrite SectionRow),
       (sectionOk s f w = true ↔
         w.outOfSet = false ∧ w.value.sectionId ≤ 255
           ∧ ∀ g, g ≠ f → w.value.tie ≠ none → (s.feeder g).section_.tie = w.value.tie →
               (s.feeder g).section_.sectionId ≠ w.value.sectionId)
       ∧ (sectionBlocked s f w.value = true ↔
           (s.feeder f).entry ≠ none
             ∧ (w.value.tie ≠ (s.feeder f).section_.tie
                 ∨ w.value.sectionId ≠ (s.feeder f).section_.sectionId)))
  ∧ (∀ r : FeederRow,
       let k := r.intake
       let p := r.prot
       let b := r.brk
       let q := r.test
       roundFeeder r =
           { r with
             brk := { b with tReclaim := b.tReclaim / 1000 * 1000 }
             test :=
               { q with
                 dead1 := q.dead1 / 10 * 10, dead2 := q.dead2 / 10 * 10
                 dead3 := q.dead3 / 10 * 10, tFollow := q.tFollow / 10 * 10 } }
         ∧ (feederRowOk r = true ↔
             (2 ≤ k.tBlind ∧ k.tBlind ≤ 100 ∧ 10 ≤ k.iRippleMin ∧ k.iRippleMin ≤ 5000
                 ∧ (k.wF = 32 ∨ k.wF = 512) ∧ k.decimation ≤ 200)
               ∧ (500 ≤ p.iIoc ∧ p.iIoc ≤ 32000 ∧ 1 ≤ p.c ∧ p.c ≤ 4
                   ∧ 20 ≤ p.sStart ∧ p.sStart ≤ 4000 ∧ p.sEnd < p.sStart ∧ 1 ≤ p.e ∧ p.e ≤ 8
                   ∧ 200 ≤ p.dISet ∧ p.dISet ≤ 30000 ∧ 1 ≤ p.dMin ∧ p.dMin ≤ 200
                   ∧ p.dMax ≤ 400 ∧ p.dMin < p.dMax ∧ 8 ≤ p.k ∧ p.k ≤ 24
                   ∧ 16 ≤ p.iReclose ∧ p.iReclose < p.iAlarm ∧ p.iAlarm ≤ p.iTrip
                   ∧ p.iTrip ≤ 32767)
               ∧ (20 ≤ b.tOpenMax ∧ b.tOpenMax ≤ 500 ∧ 50 ≤ b.tCloseMax ∧ b.tCloseMax ≤ 1000
                   ∧ 100 ≤ b.tSotf ∧ b.tSotf ≤ 2000 ∧ 1000 ≤ b.tReclaim ∧ b.tReclaim ≤ 300000)
               ∧ (1 ≤ q.shots ∧ q.shots ≤ 3 ∧ 100 ≤ q.dead1 ∧ q.dead1 ≤ 60000
                   ∧ 100 ≤ q.dead2 ∧ q.dead2 ≤ 60000 ∧ 100 ≤ q.dead3 ∧ q.dead3 ≤ 60000
                   ∧ 1000 ≤ q.tFollow ∧ q.tFollow ≤ 120000 ∧ 20 ≤ q.wSettle ∧ q.wSettle ≤ 400
                   ∧ q.rLive ≤ 1023 ∧ q.rShort < q.rLoad ∧ q.rLoad ≤ 1023
                   ∧ 200 ≤ q.ubMinTest ∧ q.ubMinTest ≤ 900)))

/-- R10, R119, R167: accepted writes of the RECT, PORT and REPORT tables. A RECT write makes the settings
valid, clamps α, and on a change of the mains frequency sets T to the new nominal period and clears
sync-valid; MANUAL to AUTO on a LOST port held at 128 returns the port to GOOD.

R10, R119, R167, R180: a write of the station is refused with BAD_ROW for a row its table has not, with
BAD_VALUE for values outside their ranges or cross-checks, or MANUAL for the station port, and a change of
the mains frequency with REFUSED_STATE unless the group is PARKED or FAULTED; a refused write changes
nothing. The last conjunct gives these conditions field by field. -/
def Obligations.DeviceTablesWritten : Prop :=
  (∀ (k : Ticket) (n : Nat) (s : State), s.inReset = false → k.source = .fromStation →
     (∀ w : RowWrite RectRow, s.mode = .config → n = 0 → w.outOfSet = false →
       rectRowOk w.value = true → rectWriteBlocked s w.value = false →
         ∃ t, exec (.writeRowRect k n w) s = .next (answer k .writeRow .done t)
           ∧ t.rectRow = w.value ∧ t.rectValid = true
           ∧ w.value.alphaMin ≤ t.rect.alpha ∧ t.rect.alpha ≤ w.value.alphaMax
           ∧ (w.value.alphaMin ≤ s.rect.alpha → s.rect.alpha ≤ w.value.alphaMax →
               t.rect.alpha = s.rect.alpha)
           ∧ (if w.value.freq = s.rectRow.freq then
               t.rect.t = s.rect.t ∧ t.rect.syncValid = s.rect.syncValid
             else
               t.rect.t = (if w.value.freq = 60 then 16667 else 20000) ∧ t.rect.syncValid = false)
           ∧ t.rect.state = s.rect.state ∧ t.feeders = s.feeders ∧ t.ports = s.ports)
     ∧ (∀ (p : Port) (w : RowWrite Recovery), s.mode = .config → portOfRow n = some p →
         w.outOfSet = false → ¬ (p = .sp ∧ w.value = .manual) →
           ∃ t, exec (.writeRowPort k n w) s = .next (answer k .writeRow .done t) ∧
             let r := s.port p
             if r.recovery = .manual ∧ w.value = .auto ∧ r.state = .lost ∧ r.recoveryCount = 128 then
               (t.port p).state = .good ∧ (t.port p).errorCount = 0 ∧ (t.port p).recoveryCount = 0
                 ∧ (t.port p).recovery = .auto
             else t = (takeRequest k (.writeRowPort n w) s).setPort p { r with recovery := w.value })
     ∧ (∀ w : RowWrite ReportRow, n = 0 → w.outOfSet = false → reportRowOk w.value = true →
         exec (.writeRowReport k n w) s =
           .next
             (answer k .writeRow .done
               { takeRequest k (.writeRowReport n w) s with reportRow := w.value }))
     ∧ (let refused := fun (r : Request) (status : Status) =>
          Host.Outcome.next (φ := Fault) (ρ := Refusal)
            (answer k .writeRow status (takeRequest k r s))
        (∀ w : RowWrite RectRow, s.mode = .config →
           (n ≠ 0 → exec (.writeRowRect k n w) s = refused (.writeRowRect n w) .badRow)
           ∧ (n = 0 → (w.outOfSet = true ∨ rectRowOk w.value = false) →
               exec (.writeRowRect k n w) s = refused (.writeRowRect n w) .badValue)
           ∧ (n = 0 → w.outOfSet = false → rectRowOk w.value = true →
               rectWriteBlocked s w.value = true →
               exec (.writeRowRect k n w) s = refused (.writeRowRect n w) .refusedState))
        ∧ (∀ w : RowWrite Recovery, s.mode = .config →
             (3 < n → exec (.writeRowPort k n w) s = refused (.writeRowPort n w) .badRow)
             ∧ (∀ p, portOfRow n = some p → (w.outOfSet = true ∨ (p = .sp ∧ w.value = .manual)) →
                 exec (.writeRowPort k n w) s = refused (.writeRowPort n w) .badValue))
        ∧ (∀ w : RowWrite ReportRow,
             (n ≠ 0 → exec (.writeRowReport k n w) s = refused (.writeRowReport n w) .badRow)
             ∧ (n = 0 → (w.outOfSet = true ∨ reportRowOk w.value = false) →
                 exec (.writeRowReport k n w) s = refused (.writeRowReport n w) .badValue))))
  ∧ (∀ (r : RectRow) (q : ReportRow) (s : State),
       (rectRowOk r = true ↔
         (r.freq = 50 ∨ r.freq = 60) ∧ 600 ≤ r.uSet ∧ r.uSet ≤ 900 ∧ r.db ≤ 50
           ∧ r.alphaMin ≤ 300 ∧ 300 ≤ r.alphaMax ∧ r.alphaMax ≤ 1500 ∧ r.alphaMin < r.alphaMax
           ∧ 1 ≤ r.alphaStep ∧ r.alphaStep ≤ 50 ∧ 10 ≤ r.alphaClStep ∧ r.alphaClStep ≤ 300
           ∧ 1 ≤ r.h ∧ r.h ≤ 16 ∧ 500 ≤ r.iLim ∧ r.iLim ≤ 12000
           ∧ r.iLim ≤ r.iRectTrip ∧ r.iRectTrip ≤ 20000 ∧ 1 ≤ r.cRect ∧ r.cRect ≤ 4
           ∧ 1 ≤ r.j ∧ r.j ≤ 500 ∧ 40 ≤ r.tWarn ∧ r.tWarn ≤ 120
           ∧ r.tWarn + 5 ≤ r.tTrip ∧ r.tTrip ≤ 130 ∧ 2 ≤ r.hysteresis ∧ r.hysteresis ≤ 20
           ∧ 400 ≤ r.uWake ∧ r.uWake ≤ 700)
       ∧ (rectWriteBlocked s r = true ↔
           r.freq ≠ s.rectRow.freq ∧ s.rect.state ≠ .parked ∧ s.rect.state ≠ .faulted)
       ∧ (reportRowOk q = true ↔
           1 ≤ q.level ∧ q.level ≤ 4 ∧ 1 ≤ q.batchTimeout ∧ q.batchTimeout ≤ 50
             ∧ 10 ≤ q.replayTime ∧ q.replayTime ≤ 200)
       ∧ portOfRow 0 = some .fp ∧ portOfRow 1 = some .sp ∧ portOfRow 2 = some .ta
       ∧ portOfRow 3 = some .tb ∧ (∀ n, 3 < n → portOfRow n = none))

/-- R175, R177, R179: a write that a check refuses changes no row: from the panel it is REFUSED_AUTHORITY,
and outside CONFIG a write of the NODE, RECT, SECTION or PORT table is REFUSED_MODE.

R77: the checks of a feeder command, in order: a feeder number outside 1 to 8, then authority by the
key for all but OPEN, then the mode; a refused command changes no record. R78 to R80, R82: the conditions
of state under which IN_SERVICE, OUT_OF_SERVICE, CLOSE and RESET_LOCKOUT are then refused with
REFUSED_STATE.

R121 to R123, R177: the checks of a rectifier command in the same order: authority by the key, SHADOW (and
CONFIG for RUN), then the conditions of state of RUN, REST and RESET. -/
def Obligations.RequestsRefused : Prop :=
  (∀ (k : Ticket) (n : Nat) (a : RowWrite NodeRow) (b : RowWrite FeederRow) (c : RowWrite RectRow)
     (d : RowWrite SectionRow) (e : RowWrite Recovery) (g : RowWrite ReportRow) (s : State),
     s.inReset = false →
       let refused := fun (r : Request) (status : Status) =>
         Host.Outcome.next (φ := Fault) (ρ := Refusal)
           (answer k .writeRow status (takeRequest k r s))
       (k.source = .fromPanel →
         exec (.writeRowNode k n a) s = refused (.writeRowNode n a) .refusedAuthority
           ∧ exec (.writeRowFeeder k n b) s = refused (.writeRowFeeder n b) .refusedAuthority
           ∧ exec (.writeRowRect k n c) s = refused (.writeRowRect n c) .refusedAuthority
           ∧ exec (.writeRowSection k n d) s = refused (.writeRowSection n d) .refusedAuthority
           ∧ exec (.writeRowPort k n e) s = refused (.writeRowPort n e) .refusedAuthority
           ∧ exec (.writeRowReport k n g) s = refused (.writeRowReport n g) .refusedAuthority)
       ∧ (k.source = .fromStation → s.mode ≠ .config →
           exec (.writeRowNode k n a) s = refused (.writeRowNode n a) .refusedMode
             ∧ exec (.writeRowRect k n c) s = refused (.writeRowRect n c) .refusedMode
             ∧ exec (.writeRowSection k n d) s = refused (.writeRowSection n d) .refusedMode
             ∧ exec (.writeRowPort k n e) s = refused (.writeRowPort n e) .refusedMode))
  ∧ (∀ (k : Ticket) (n : Nat) (f : FeederId) (s : State), s.inReset = false →
       let refused := fun (r : Request) (status : Status) =>
         Host.Outcome.next (φ := Fault) (ρ := Refusal)
           (answer k .feederCmd status (takeRequest k r s))
       let foreign := k.source ≠ (if s.key = .atRemote then .fromStation else .fromPanel)
       ((n = 0 ∨ 8 < n) →
         exec (.inService k n) s = refused (.inService n) .badValue
           ∧ exec (.outOfService k n) s = refused (.outOfService n) .badValue
           ∧ exec (.closeFeeder k n) s = refused (.closeFeeder n) .badValue
           ∧ exec (.openFeeder k n) s = refused (.openFeeder n) .badValue
           ∧ exec (.resetLockout k n) s = refused (.resetLockout n) .badValue)
       ∧ (foreign →
           exec (.inService k f.num) s = refused (.inService f.num) .refusedAuthority
             ∧ exec (.outOfService k f.num) s = refused (.outOfService f.num) .refusedAuthority
             ∧ exec (.closeFeeder k f.num) s = refused (.closeFeeder f.num) .refusedAuthority
             ∧ exec (.resetLockout k f.num) s = refused (.resetLockout f.num) .refusedAuthority)
       ∧ (¬ foreign → s.mode = .shadow →
           exec (.inService k f.num) s = refused (.inService f.num) .refusedMode
             ∧ exec (.outOfService k f.num) s = refused (.outOfService f.num) .refusedMode
             ∧ exec (.closeFeeder k f.num) s = refused (.closeFeeder f.num) .refusedMode
             ∧ exec (.resetLockout k f.num) s = refused (.resetLockout f.num) .refusedMode)
       ∧ (¬ foreign → s.mode = .config →
           exec (.closeFeeder k f.num) s = refused (.closeFeeder f.num) .refusedMode))
  ∧ (∀ (k : Ticket) (f : FeederId) (s : State), s.inReset = false →
       k.source = (if s.key = .atRemote then .fromStation else .fromPanel) → s.mode ≠ .shadow →
       let refused := fun (r : Request) =>
         Host.Outcome.next (φ := Fault) (ρ := Refusal)
           (answer k .feederCmd .refusedState (takeRequest k r s))
       let u := s.feeder f
       let r := u.sq
       ((r.state ≠ .out ∨ u.valid = false ∨ findNode s .feederMu (some f) = none
           ∨ findNode s .breaker (some f) = none ∨ (r.breaker ≠ .opened ∧ r.breaker ≠ .closed)
           ∨ (s.mode = .config ∧ r.breaker = .closed)) →
         exec (.inService k f.num) s = refused (.inService f.num))
       ∧ ((r.state ≠ .opened ∧ (r.state ≠ .lockout ∨ r.lockoutCause = some .breakerFailure)) →
           exec (.outOfService k f.num) s = refused (.outOfService f.num))
       ∧ (s.mode ≠ .config →
           (r.state ≠ .opened ∨ s.estop = true ∨ r.spring = false ∨ r.breaker ≠ .opened
             ∨ r.contactor ≠ .opened ∨ r.blind = true ∨ r.frozen = true
             ∨ thetaReclose s f < u.prot.theta ∨ s.rect.state = .parked
             ∨ s.rect.state = .starting ∨ s.rect.state = .faulted) →
           exec (.closeFeeder k f.num) s = refused (.closeFeeder f.num))
       ∧ ((r.state ≠ .lockout ∨ r.breaker ≠ .opened) →
           exec (.resetLockout k f.num) s = refused (.resetLockout f.num)))
  ∧ (∀ (k : Ticket) (s : State), s.inReset = false →
       let refused := fun (r : Request) (status : Status) =>
         Host.Outcome.next (φ := Fault) (ρ := Refusal)
           (answer k .rectCmd status (takeRequest k r s))
       let foreign := k.source ≠ (if s.key = .atRemote then .fromStation else .fromPanel)
       (foreign →
         exec (.rectRun k) s = refused .rectRun .refusedAuthority
           ∧ exec (.rectRest k) s = refused .rectRest .refusedAuthority
           ∧ exec (.rectReset k) s = refused .rectReset .refusedAuthority)
       ∧ (¬ foreign → s.mode = .shadow →
           exec (.rectRun k) s = refused .rectRun .refusedMode
             ∧ exec (.rectRest k) s = refused .rectRest .refusedMode
             ∧ exec (.rectReset k) s = refused .rectReset .refusedMode)
       ∧ (¬ foreign → s.mode = .config →
           exec (.rectRun k) s = refused .rectRun .refusedMode)
       ∧ (¬ foreign → (s.mode = .service ∨ s.mode = .replay) →
           (s.rectValid = false ∨ s.estop = true ∨ s.rect.stackTrip = true
             ∨ s.rect.firing = .faulty ∨ s.rect.state = .faulted) →
           exec (.rectRun k) s = refused .rectRun .refusedState)
       ∧ (¬ foreign → s.mode ≠ .shadow → s.rect.state = .faulted →
           exec (.rectRest k) s = refused .rectRest .refusedState)
       ∧ (¬ foreign → s.mode ≠ .shadow →
           (s.rect.state ≠ .faulted ∨ s.rect.acPos ≠ .opened ∨ s.estop = true) →
           exec (.rectReset k) s = refused .rectReset .refusedState))

/-- R43, R78: IN_SERVICE from OUT, with valid settings, both units bound and a known breaker position,
enters OPEN or, outside CONFIG, CLOSED with the reclaim complete, and starts the blind timer; inServiceOk
is that condition. R94: on an entry to CLOSED with FROZEN kept in OUT, or BLIND, set, the blind action TRIP
trips it at once with that cause, and under ALARM it stays CLOSED. (That BLIND is served before FROZEN is log
entry 49, the model's choice. That a reclaim complete leaves the shot count 0 and its timer stopped is the model's
reading, log entry 42.)

R42, R43, R79: OUT_OF_SERVICE from OPEN, or from LOCKOUT with a cause other than BREAKER_FAILURE,
enters OUT: every timer stopped, marks and causes cleared, the blind timer stopped, BLIND cleared and the
ring empty; FROZEN, the positions and the thermal image are kept.

R46, R82: RESET_LOCKOUT with the breaker OPEN enters OPEN with the trip line released, FROZEN and the
marks cleared, no lockout cause and the shot count 0; BLIND is kept. -/
def Obligations.FeederServiceCommands : Prop :=
  (∀ (k : Ticket) (f : FeederId) (s : State), s.inReset = false →
     k.source = (if s.key = .atRemote then .fromStation else .fromPanel) → s.mode ≠ .shadow →
     inServiceOk s f = true →
       let r := s.sq f
       let trips := r.breaker = .closed ∧ (r.blind = true ∨ r.frozen = true)
         ∧ (s.feeder f).row.brk.blindAction = .trip
       ∃ t, exec (.inService k f.num) s = .next (answer k .feederCmd .done t) ∧
         (¬ trips →
           (t.sq f).state = (if r.breaker = .closed then .closed else .opened)
             ∧ (t.sq f).tripLine = false ∧ (r.breaker = .closed → (t.sq f).reclaim = none))
           ∧ (trips →
               let cause : TripCause := if r.blind = true then .blind else .frozen
               (t.sq f).state = .tripping ∧ (t.sq f).tripLine = decide (s.mode ≠ .replay)
                 ∧ (t.sq f).primary = some cause ∧ (t.sq f).sotfMark = r.sotf.isSome
                 ∧ (t.sq f).openTimer = some ((s.feeder f).row.brk.tOpenMax * 1000)
                 ∧ (s.reports.length < 60 →
                     Reported t .trip (.feeder f) (some cause.cause)
                       ((s.feeder f).intake.lastAccepted.map Prod.fst) none)
                 ∧ (s.mode = .service → (findNode s .breaker (some f)).isSome = true →
                     (s.port .fp).urgent.length < 20 → Commanded t (.breaker f .trip)))
           ∧ (t.sq f).shotCount = 0 ∧ (t.sq f).blind = r.blind ∧ (t.sq f).frozen = r.frozen
           ∧ (t.feeder f).intake =
               { (s.feeder f).intake with
                 blindTimer := some ((s.feeder f).row.intake.tBlind * 1000) }
           ∧ (∀ e, e ≠ f → t.feeder e = s.feeder e) ∧ t.rect.state = s.rect.state)
  ∧ (∀ (k : Ticket) (f : FeederId) (s : State), s.inReset = false →
       k.source = (if s.key = .atRemote then .fromStation else .fromPanel) → s.mode ≠ .shadow →
       ((s.sq f).state = .opened
         ∨ ((s.sq f).state = .lockout ∧ (s.sq f).lockoutCause ≠ some .breakerFailure)) →
         ∃ t, exec (.outOfService k f.num) s = .next (answer k .feederCmd .done t) ∧
           let r := s.sq f
           t.sq f =
               { FeederRec.fresh with
                 breaker := r.breaker, contactor := r.contactor, spring := r.spring, frozen := r.frozen
                 test := { TestRec.fresh with last := r.test.last } }
             ∧ (t.feeder f).intake = { (s.feeder f).intake with blindTimer := none, ring := [] }
             ∧ (t.feeder f).prot.theta = (s.feeder f).prot.theta
             ∧ (∀ e, e ≠ f → t.feeder e = s.feeder e))
  ∧ (∀ (k : Ticket) (f : FeederId) (s : State), s.inReset = false →
       k.source = (if s.key = .atRemote then .fromStation else .fromPanel) → s.mode ≠ .shadow →
       (s.sq f).state = .lockout → (s.sq f).breaker = .opened →
         ∃ t, exec (.resetLockout k f.num) s = .next (answer k .feederCmd .done t) ∧
           let r' := t.sq f
           r'.state = .opened ∧ r'.tripLine = false ∧ r'.lockoutCause = none ∧ r'.shotCount = 0
             ∧ r'.frozen = false ∧ r'.blind = (s.sq f).blind ∧ r'.sotfMark = false
             ∧ r'.intertripFailed = false ∧ r'.openRequested = false ∧ r'.shotTaken = false
             ∧ (t.feeder f).intake.clearingCount = 0
             ∧ t.reports = (submit .feederState (.feeder f) none (some 2) (some 9) s).reports
             ∧ (∀ e, e ≠ f → t.feeder e = s.feeder e))
  ∧ (∀ (f : FeederId) (s : State),
       let u := s.feeder f
       (inServiceOk s f = true ↔
         u.sq.state = .out ∧ u.valid = true ∧ findNode s .feederMu (some f) ≠ none
           ∧ findNode s .breaker (some f) ≠ none
           ∧ (u.sq.breaker = .opened ∨ (u.sq.breaker = .closed ∧ s.mode ≠ .config))))

/-- R80, R101, R107, R113: CLOSE from OPEN under its conditions starts a manual line test on a group
RUNNING or in PROBE: TESTING in the live check, the contactor being OPEN, with the shot count unchanged;
in HOLD the group enters PROBE for it.

R81: OPEN, from either source: in CLOSED and CLOSING outside SHADOW the feeder enters OPENING with the
shot count 0, the open timer running and its other timers stopped; in DEAD_TIME the sequence is cancelled
into OPEN and a latched test withdrawn; in TESTING the test is aborted with reason OPEN (R115), and the
feeder enters OPEN at once with the contactor OPEN, or else waits for it; in OUT, OPEN, OPENING, TRIPPING
and LOCKOUT it has no effect. -/
def Obligations.CloseAndOpenServed : Prop :=
  (∀ (k : Ticket) (f : FeederId) (s : State), s.inReset = false →
     k.source = (if s.key = .atRemote then .fromStation else .fromPanel) →
     (s.mode = .service ∨ s.mode = .replay) → (s.sq f).state = .opened → s.estop = false →
     (s.sq f).spring = true → (s.sq f).breaker = .opened → (s.sq f).contactor = .opened →
     (s.sq f).blind = false → (s.sq f).frozen = false →
     (s.feeder f).prot.theta ≤ thetaReclose s f →
     (s.rect.state = .running ∨ s.rect.state = .probe ∨ s.rect.state = .hold) →
       ∃ t, exec (.closeFeeder k f.num) s = .next (answer k .feederCmd .done t) ∧
         (t.sq f).state = .testing ∧ (t.sq f).test.kind = some .manual
           ∧ (t.sq f).test.step = some .liveCheck ∧ (t.sq f).test.count = 0
           ∧ (t.sq f).shotCount = (s.sq f).shotCount ∧ (t.sq f).tripLine = false
           ∧ t.rect.testers.get f = true
           ∧ t.rect.state = (if s.rect.state = .hold then .probe else s.rect.state)
           ∧ (∀ e, e ≠ f → t.feeder e = s.feeder e))
  ∧ (∀ (k : Ticket) (f : FeederId) (s : State), s.inReset = false →
       ∃ t, exec (.openFeeder k f.num) s = .next (answer k .feederCmd .done t) ∧
         let r := s.sq f
         let r' := t.sq f
         (s.mode ≠ .shadow → (r.state = .closed ∨ r.state = .closing) →
           r'.state = .opening ∧ r'.shotCount = 0 ∧ r'.closeTimer = none ∧ r'.sotf = none
             ∧ r'.reclaim = none ∧ r'.openTimer = some ((s.feeder f).row.brk.tOpenMax * 1000)
             ∧ r'.tripLine = false ∧ (∀ e, e ≠ f → t.feeder e = s.feeder e))
         ∧ (s.mode ≠ .shadow → r.state = .deadTime →
             r'.state = .opened ∧ r'.shotCount = 0 ∧ r'.dead = none ∧ r'.phase = none
               ∧ r'.pendingTest = false ∧ r'.farClear = false
               ∧ (r.pendingTest = true → t.rect.latched.get f = false)
               ∧ (∀ e, e ≠ f → t.feeder e = s.feeder e))
         ∧ (s.mode ≠ .shadow → r.state = .testing → r.openRequested = false →
             r.contactor ≠ .opened → s.rect.latched.get f = false →
             r'.state = .testing ∧ r'.openRequested = true ∧ r'.test.step = none
               ∧ r'.closeTimer = some ((s.feeder f).row.brk.tCloseMax * 1000))
         ∧ (s.mode ≠ .shadow → r.state = .testing → r.openRequested = false →
             s.rect.latched.get f = false → s.reports.length < 40 →
             r'.test.last =
                 some { outcome := .aborted .opened, r := none, uAvg := none, ubAvg := none }
               ∧ Reported t .lineTest (.feeder f) (some .opened) none none
               ∧ t.rect.testers.get f = false
               ∧ (r.contactor = .opened →
                   r'.state = .opened ∧ r'.shotCount = 0 ∧ r'.tripLine = false)
               ∧ (r.contactor ≠ .opened →
                   r'.shotTaken = false
                     ∧ r'.shotCount =
                         (if r.shotTaken = true then r.shotCount - 1 else r.shotCount)))
         ∧ ((r.state = .out ∨ r.state = .opened ∨ r.state = .opening ∨ r.state = .tripping
               ∨ r.state = .lockout) →
             t = takeRequest k (.openFeeder f.num) s))

/-- R121 to R124: the rectifier commands under the key outside SHADOW. RUN in PARKED enters STARTING with α
at α_max and sync-valid clear, in STARTING and RUNNING has no effect, and in HOLD and PROBE sets run
pending with cause NONE. REST in RUNNING enters the rest state with cause REST, or PROBE with it as target
while tests are being served; in PROBE it sets the target; in HOLD it clears run and retry pending; in
STARTING it parks the group; in PARKED it has no effect. RESET in FAULTED with the AC breaker OPEN and the
emergency stop released parks the group with cause RESET and releases the AC trip line. -/
def Obligations.RectifierCommandsServed : Prop :=
  ∀ (k : Ticket) (s : State), s.inReset = false →
    k.source = (if s.key = .atRemote then .fromStation else .fromPanel) → s.mode ≠ .shadow →
      (s.mode ≠ .config → s.rectValid = true → s.estop = false → s.rect.stackTrip = false →
        s.rect.firing ≠ .faulty → s.rect.state = .parked →
          ∃ t, exec (.rectRun k) s = .next (answer k .rectCmd .done t)
            ∧ t.rect.state = .starting ∧ t.rect.cause = .none
            ∧ t.rect.alpha = s.rectRow.alphaMax ∧ t.rect.syncValid = false
            ∧ (s.rect.acPos = .closed → t.rect.firstCrossingWait = true
                ∧ t.rect.acTimer = some (if s.rectRow.freq = 60 then 50001 else 60000))
            ∧ (s.rect.acPos ≠ .closed → t.rect.firstCrossingWait = false
                ∧ t.rect.acTimer = some 1000000)
            ∧ t.feeders = s.feeders)
      ∧ (s.mode ≠ .config → s.rectValid = true → s.estop = false → s.rect.stackTrip = false →
          s.rect.firing ≠ .faulty → (s.rect.state = .starting ∨ s.rect.state = .running) →
            exec (.rectRun k) s = .next (answer k .rectCmd .done (takeRequest k .rectRun s)))
      ∧ (s.rect.state = .running → (∀ f, s.rect.testers.get f = false) →
          ∃ t, exec (.rectRest k) s = .next (answer k .rectCmd .done t)
            ∧ t.rect.cause = .rest ∧ t.rect.limitHold = 0 ∧ t.rect.n = 0
            ∧ (s.rest = .hold →
                t.rect.state = .hold ∧ t.rect.syncValid = s.rect.syncValid
                  ∧ t.rect.acTimer = s.rect.acTimer)
            ∧ (s.rest = .parked →
                t.rect.state = .parked ∧ t.rect.syncValid = false
                  ∧ t.rect.acTimer = some 1000000)
            ∧ t.feeders = s.feeders)
      ∧ (s.rect.state = .faulted → s.rect.acPos = .opened → s.estop = false →
          ∃ t, exec (.rectReset k) s = .next (answer k .rectCmd .done t)
            ∧ t.rect.state = .parked ∧ t.rect.cause = .reset ∧ t.rect.acTrip = false
            ∧ t.rect.faults = FaultCauses.empty ∧ t.rect.firstFault = none
            ∧ t.rect.overcurrent = 0 ∧ t.rect.acTimer = s.rect.acTimer
            ∧ t.rect.latched = s.rect.latched ∧ t.feeders = s.feeders)
      ∧ (s.mode ≠ .config → s.rectValid = true → s.estop = false → s.rect.stackTrip = false →
          s.rect.firing ≠ .faulty → (s.rect.state = .hold ∨ s.rect.state = .probe) →
            exec (.rectRun k) s =
              .next
                (answer k .rectCmd .done
                  ((takeRequest k .rectRun s).setRect
                    { s.rect with
                      runPending := true, retryPending := false, limitHold := 0, cause := .none })))
      ∧ (s.rect.state = .running → (∃ f, s.rect.testers.get f = true) →
          ∃ t, exec (.rectRest k) s = .next (answer k .rectCmd .done t)
            ∧ t.rect = { s.rect with
                state := .probe, cause := .none, probeTarget := s.rest, limitHold := 0
                firstCrossingWait := false }
            ∧ t.feeders = s.feeders ∧ t.ports = s.ports)
      ∧ (s.rect.state = .probe →
          exec (.rectRest k) s =
            .next
              (answer k .rectCmd .done
                ((takeRequest k .rectRest s).setRect
                  { s.rect with
                    probeTarget := s.rest, runPending := false, retryPending := false
                    limitHold := 0 })))
      ∧ (s.rect.state = .hold →
          exec (.rectRest k) s =
            .next
              (answer k .rectCmd .done
                ((takeRequest k .rectRest s).setRect
                  { s.rect with runPending := false, retryPending := false, cause := .rest })))
      ∧ (s.rect.state = .starting →
          ∃ t, exec (.rectRest k) s = .next (answer k .rectCmd .done t)
            ∧ t.rect.state = .parked ∧ t.rect.cause = .rest ∧ t.rect.acTimer = some 1000000
            ∧ t.rect.firstCrossingWait = false ∧ t.rect.latched = s.rect.latched
            ∧ t.feeders = s.feeders)
      ∧ (s.rect.state = .parked →
          exec (.rectRest k) s = .next (answer k .rectCmd .done (takeRequest k .rectRest s)))

/-- R177, R182, R183: SET_MODE of the mode in force is answered DONE with no effect; CONFIG to SERVICE
with valid RECT settings changes the mode with a MODE_CHANGE report, puts IOC and DDL at rest with the trip
hold clear and empties the repeat records. SERVICE to CONFIG does the same where every feeder is OUT,
OPEN or in a LOCKOUT other than BREAKER_FAILURE and the group in HOLD, PARKED or FAULTED. A transition
outside the table is REFUSED_MODE, one whose condition fails REFUSED_STATE, an unknown mode BAD_VALUE, and
the panel has no authority.

R97, R141: CONFIG to SHADOW mirrors: a feeder in OPEN whose breaker is CLOSED becomes CLOSED, and a group
not FAULTED takes RUNNING on a closed AC breaker, else PARKED, with no command offered. (That its AC timer
stops is log entry 18.) SHADOW to SERVICE makes the mirror real: CLOSED feeders have the reclaim complete,
the blind action served for flags already set, and a group RUNNING without sync-valid starts (log entry
41). SHADOW to CONFIG, with no feeder CLOSED, turns RUNNING to HOLD with cause REST. R191: an emergency
stop still asserted is served after SHADOW and REPLAY. (ModeStatesLaw: StepKeepsModeStates.)

(The model's choices beside these rules: the reclaim complete as shot count 0 and a stopped timer, log
entry 42; the FEEDER_STATE report of a feeder mirrored on entry, log entry 44; the blind action before the
emergency stop, log entry 12; BLIND before FROZEN where both are set, log entry 49.)

R50, R98, R142, R184: CONFIG to REPLAY, with every feeder OUT and the group PARKED, starts the simulation.

R50, R67, R98, R142: the change from REPLAY to CONFIG takes every feeder to OUT with its positions
UNKNOWN, its thermal image 0 and its trip line released, parks the group with cause REPLAY_END and the AC
trip line released, and ends the simulation, the emergency stop being released. -/
def Obligations.DeviceModeChanged : Prop :=
  (∀ (k : Ticket) (s : State), s.inReset = false → k.source = .fromStation →
     exec (.setMode k (some s.mode)) s =
         .next (answer k .setMode .done (takeRequest k (.setMode (some s.mode)) s))
     ∧ (s.mode = .config → s.rectValid = true →
         ∃ t, exec (.setMode k (some .service)) s = .next (answer k .setMode .done t)
           ∧ t.mode = .service
           ∧ t.reports = (submit .modeChange .device none (some 2) (some 1) s).reports
           ∧ (∀ f, (t.feeder f).prot =
                 { (s.feeder f).prot with iocCount := 0, ddl := Ddl.rest, hold := false }
               ∧ (t.feeder f).repeatRec = none ∧ t.sq f = s.sq f
               ∧ (t.feeder f).row = (s.feeder f).row)
           ∧ t.rect = s.rect ∧ t.ports = s.ports ∧ t.ties = s.ties)
     ∧ (s.mode = .config → s.rectValid = false →
         exec (.setMode k (some .service)) s =
           .next (answer k .setMode .refusedState (takeRequest k (.setMode (some .service)) s)))
     ∧ (s.mode = .service → ∀ m, m = .shadow ∨ m = .replay →
         exec (.setMode k (some m)) s =
           .next (answer k .setMode .refusedMode (takeRequest k (.setMode (some m)) s))))
  ∧ (∀ (k : Ticket) (s : State), s.inReset = false → k.source = .fromStation → s.mode = .replay →
       s.estop = false →
         ∃ t, exec (.setMode k (some .config)) s = .next (answer k .setMode .done t)
           ∧ t.mode = .config
           ∧ (∀ f, (t.sq f).state = .out ∧ (t.sq f).tripLine = false ∧ (t.sq f).breaker = .unknown
               ∧ (t.sq f).contactor = .unknown ∧ (t.sq f).spring = false
               ∧ (t.feeder f).prot.theta = 0 ∧ (t.feeder f).prot.alarm = false
               ∧ (t.feeder f).intake.ring = [] ∧ (t.feeder f).intake.lastSeq = none
               ∧ (t.feeder f).entry = none ∧ (t.feeder f).repeatRec = none
               ∧ (t.feeder f).simBreaker = SimDevice.start ∧ (t.feeder f).row = (s.feeder f).row)
           ∧ t.rect.state = .parked ∧ t.rect.cause = .replayEnd ∧ t.rect.acTrip = false
           ∧ t.rect.acPos = .unknown ∧ t.rect.firing = .unknown ∧ t.simAc = SimDevice.start)
  ∧ (∀ (k : Ticket) (s : State), s.inReset = false → k.source = .fromStation →
       let refused := fun (m : Option Mode) (status : Status) =>
         Host.Outcome.next (φ := Fault) (ρ := Refusal)
           (answer k .setMode status (takeRequest k (.setMode m) s))
       let rests := fun r : FeederRec =>
         r.state = .out ∨ r.state = .opened
           ∨ (r.state = .lockout ∧ r.lockoutCause ≠ some .breakerFailure)
       let quiet := s.rect.state = .hold ∨ s.rect.state = .parked ∨ s.rect.state = .faulted
       let disarmed := fun (t : State) (f : FeederId) =>
         (t.feeder f).prot = { (s.feeder f).prot with iocCount := 0, ddl := Ddl.rest, hold := false }
           ∧ (t.feeder f).repeatRec = none ∧ (t.feeder f).row = (s.feeder f).row
       exec (.setMode k none) s = refused none .badValue
       ∧ (s.mode = .config → s.rectValid = false →
           exec (.setMode k (some .shadow)) s = refused (some .shadow) .refusedState)
       ∧ (s.mode = .config → ((∃ f, (s.sq f).state ≠ .out) ∨ s.rect.state ≠ .parked) →
           exec (.setMode k (some .replay)) s = refused (some .replay) .refusedState)
       ∧ (s.mode = .service → ((∃ f, ¬ rests (s.sq f)) ∨ ¬ quiet) →
           exec (.setMode k (some .config)) s = refused (some .config) .refusedState)
       ∧ (s.mode = .shadow → (∃ f, (s.sq f).state = .closed) →
           exec (.setMode k (some .config)) s = refused (some .config) .refusedState)
       ∧ (s.mode = .shadow →
           exec (.setMode k (some .replay)) s = refused (some .replay) .refusedMode)
       ∧ (s.mode = .replay → ∀ m, m = .service ∨ m = .shadow →
           exec (.setMode k (some m)) s = refused (some m) .refusedMode)
       ∧ (s.mode = .service → (∀ f, rests (s.sq f)) → quiet →
           ∃ t, exec (.setMode k (some .config)) s = .next (answer k .setMode .done t)
             ∧ t.mode = .config
             ∧ t.reports = (submit .modeChange .device none (some 1) (some 2) s).reports
             ∧ (∀ f, disarmed t f ∧ t.sq f = s.sq f)
             ∧ t.rect = s.rect ∧ t.ports = s.ports ∧ t.ties = s.ties))
  ∧ (∀ (k : Ticket) (m : Option Mode) (s : State), s.inReset = false → k.source = .fromPanel →
       exec (.setMode k m) s =
         .next (answer k .setMode .refusedAuthority (takeRequest k (.setMode m) s)))
  ∧ (∀ (k : Ticket) (s : State), s.inReset = false → k.source = .fromStation → s.mode = .config →
       s.rectValid = true → ModeStatesLaw s → s.reports.length < 40 →
         ∃ t, exec (.setMode k (some .shadow)) s = .next (answer k .setMode .done t)
           ∧ t.mode = .shadow ∧ Reported t .modeChange .device none (some 3) (some 1)
           ∧ (∀ f,
               let mirrors := (s.sq f).state = .opened ∧ (s.sq f).breaker = .closed
               (mirrors →
                 (t.sq f).state = .closed ∧ (t.sq f).shotCount = 0 ∧ (t.sq f).reclaim = none
                   ∧ (t.sq f).tripLine = false
                   ∧ Reported t .feederState (.feeder f) none (some 5) (some 2))
               ∧ (¬ mirrors → t.sq f = s.sq f)
               ∧ (t.feeder f).prot =
                   { (s.feeder f).prot with iocCount := 0, ddl := Ddl.rest, hold := false }
               ∧ (t.feeder f).repeatRec = none ∧ (t.feeder f).row = (s.feeder f).row)
           ∧ (s.rect.state = .faulted → t.rect = s.rect)
           ∧ (s.rect.state ≠ .faulted →
               t.rect.state = (if s.rect.acPos = .closed then .running else .parked)
                 ∧ t.rect.acTimer = none ∧ t.rect.alpha = s.rect.alpha
                 ∧ t.rect.acTrip = s.rect.acTrip)
           ∧ t.ports = s.ports ∧ t.ties = s.ties)
  ∧ (∀ (k : Ticket) (s : State), s.inReset = false → k.source = .fromStation → s.mode = .config →
       (∀ f, (s.sq f).state = .out) → s.rect.state = .parked →
         ∃ t, exec (.setMode k (some .replay)) s = .next (answer k .setMode .done t)
           ∧ t.mode = .replay
           ∧ t.reports = (submit .modeChange .device none (some 4) (some 1) s).reports
           ∧ (∀ f,
               t.sq f = { s.sq f with breaker := .opened, contactor := .opened, spring := true }
                 ∧ (t.feeder f).intake =
                     { (s.feeder f).intake with lastSeq := none, resumption := true, ring := [] }
                 ∧ (t.feeder f).prot =
                     { iocCount := 0, ddl := Ddl.rest, theta := 0, alarm := false, hold := false }
                 ∧ (t.feeder f).entry = none ∧ (t.feeder f).repeatRec = none
                 ∧ (t.feeder f).simBreaker = SimDevice.start
                 ∧ (t.feeder f).simContactor = SimDevice.start
                 ∧ (t.feeder f).row = (s.feeder f).row)
           ∧ t.rectIntake =
               { s.rectIntake with
                 lastSeq := none, resumption := true, silence := none, arriving := false
                 busbarValid := false }
           ∧ t.rect =
               { s.rect with
                 acPos := .opened, firing := .healthy, syncValid := false, watch := none
                 latched := PerFeeder.const false, testers := PerFeeder.const false }
           ∧ t.simAc = SimDevice.start ∧ t.ports = s.ports)
  ∧ (∀ (k : Ticket) (s : State), s.inReset = false → k.source = .fromStation → s.mode = .shadow →
       ModeStatesLaw s → s.reports.length < 20 →
         ∃ t, exec (.setMode k (some .service)) s = .next (answer k .setMode .done t)
           ∧ t.mode = .service ∧ Reported t .modeChange .device none (some 2) (some 3)
           ∧ (∀ f,
               let r := s.sq f
               let trips := (r.blind = true ∨ r.frozen = true)
                 ∧ (s.feeder f).row.brk.blindAction = .trip
               (r.state = .closed → trips →
                 (t.sq f).state = .tripping ∧ (t.sq f).tripLine = true
                   ∧ (t.sq f).primary = some (if r.blind = true then .blind else .frozen)
                   ∧ (t.sq f).tripCauses.emergency = s.estop)
               ∧ (r.state = .closed → ¬ trips → s.estop = true →
                   (t.sq f).state = .tripping ∧ (t.sq f).tripLine = true
                     ∧ (t.sq f).primary = some .emergency)
               ∧ (r.state = .closed → ¬ trips → s.estop = false →
                   t.sq f = { r with reclaim := none, shotCount := 0 })
               ∧ (r.state = .out ∨ r.state = .opened ∨ r.state = .lockout → t.sq f = r)
               ∧ (r.state = .tripping → (t.sq f).state = .tripping))
           ∧ (s.estop = false →
               ((s.rect.state ≠ .running ∨ s.rect.syncValid = true) → t.rect = s.rect)
               ∧ (s.rect.state = .running → s.rect.syncValid = false →
                   t.rect.state = .starting ∧ t.rect.firstCrossingWait = true
                     ∧ t.rect.syncValid = false
                     ∧ t.rect.acTimer = some (if s.rectRow.freq = 60 then 50001 else 60000)))
           ∧ (s.estop = true →
               t.rect.state = .faulted ∧ t.rect.faults.emergency = true
                 ∧ (s.rect.state ≠ .faulted →
                     t.rect.acTrip = true ∧ t.rect.firstFault = some .emergency)))
  ∧ (∀ (k : Ticket) (s : State), s.inReset = false → k.source = .fromStation → s.mode = .shadow →
       (∀ f, (s.sq f).state ≠ .closed) → ModeStatesLaw s → s.reports.length < 40 →
         ∃ t, exec (.setMode k (some .config)) s = .next (answer k .setMode .done t)
           ∧ t.mode = .config ∧ Reported t .modeChange .device none (some 1) (some 3)
           ∧ (∀ f, ((s.sq f).state = .out ∨ (s.sq f).state = .opened ∨ (s.sq f).state = .lockout
                 ∨ s.estop = false) → t.sq f = s.sq f)
           ∧ (s.estop = false → s.rect.state = .running →
               t.rect.state = .hold ∧ t.rect.cause = .rest ∧ t.rect.limitHold = 0 ∧ t.rect.n = 0)
           ∧ (s.estop = false → s.rect.state ≠ .running → t.rect = s.rect)
           ∧ (s.estop = true →
               t.rect.state = .faulted ∧ t.rect.faults.emergency = true
                 ∧ (s.rect.state ≠ .faulted →
                     t.rect.acTrip = true ∧ t.rect.firstFault = some .emergency)))
  ∧ (∀ (k : Ticket) (s : State), s.inReset = false → k.source = .fromStation → s.mode = .replay →
       s.estop = true →
         ∃ t, exec (.setMode k (some .config)) s = .next (answer k .setMode .done t)
           ∧ t.mode = .config ∧ (∀ f, (t.sq f).state = .out ∧ (t.sq f).tripLine = false)
           ∧ t.rect.state = .faulted ∧ t.rect.firstFault = some .emergency
           ∧ t.rect.acTrip = true)

/-- R48, R125, R188: SET_TIME sets station time and time-valid, marks intake and moves P by the change;
every other part of the device stays, and a value of 2^48 or more is refused with BAD_VALUE. (One that
writes the present time leaves the marker of intake as it is: R188's last words over R48, log entry 48.)

R9: PORT_RECOVER returns a LOST port held at 128 to GOOD with both counts 0 and a PORT_STATE report,
and in any other case is refused with REFUSED_STATE and leaves the port.

R77, R175, R179, R181: a request that cannot be read, or that names an unknown table, record or
action, is answered BAD_REQUEST, BAD_TABLE or BAD_VALUE and changes nothing else (log entry 37 for the
unknown record and actions). The answer carries the request's type, that of a request of unknown type or
wrong length as it was received. -/
def Obligations.TimePortAndBadRequests : Prop :=
  (∀ (k : Ticket) (n : Nat) (s : State), s.inReset = false → k.source = .fromStation →
     (n < 2 ^ 48 →
       ∃ t, exec (.setTime k n) s = .next (answer k .setTime .done t)
         ∧ t.time.toNat = n ∧ t.timeValid = true
         ∧ t.rectIntake.timeSet = (if n = s.time.toNat then s.rectIntake.timeSet else true)
         ∧ (∀ p, s.rect.p = some p → ∃ q, t.rect.p = some q ∧ q - t.time = p - s.time)
         ∧ { t with
             time := s.time
             timeValid := s.timeValid
             rectIntake := { t.rectIntake with timeSet := s.rectIntake.timeSet }
             rect := { t.rect with p := s.rect.p } }
           = takeRequest k (.setTime n) s)
     ∧ (2 ^ 48 ≤ n →
         exec (.setTime k n) s =
           .next (answer k .setTime .badValue (takeRequest k (.setTime n) s))))
  ∧ (∀ (k : Ticket) (p : Port) (s : State), s.inReset = false → k.source = .fromStation →
       let s' := takeRequest k (.portRecover (some p)) s
       let r := s.port p
       ((r.state = .lost ∧ r.recoveryCount = 128) →
         ∃ t, exec (.portRecover k (some p)) s = .next (answer k .portRecover .done t)
           ∧ t.port p = { r with state := .good, errorCount := 0, recoveryCount := 0 }.arbitrate
           ∧ t.reports = (submit .portState (.port p) none (some 1) (some 3) s).reports
           ∧ (t.putPort p s').putReports s' = s')
       ∧ (¬ (r.state = .lost ∧ r.recoveryCount = 128) →
           exec (.portRecover k (some p)) s = .next (answer k .portRecover .refusedState s')))
  ∧ (∀ (k : Ticket) (why : BadRequest) (s : State), s.inReset = false →
       let s' := takeRequest k (.bad why) s
       let status : Status :=
         match why with
         | .malformed _ => .badRequest
         | .unknownReadTable => .badTable
         | .unknownWriteTable => .badTable
         | .unknownRecord => .badValue
         | .unknownFeederAction _ => .badValue
         | .unknownRectAction =>
           if k.source ≠ (if s.key = .atRemote then .fromStation else .fromPanel) then .refusedAuthority
           else if s.mode = .shadow then .refusedMode
           else .badValue
       exec (.badRequest k why) s = .next (answer k (requestType (.bad why)) status s'))
  ∧ (∀ (type : Byte) (n : Nat),
       requestType (.bad (.malformed type)) = .asReceived type
         ∧ requestType (.bad .unknownReadTable) = .readRow
         ∧ requestType (.bad .unknownWriteTable) = .writeRow
         ∧ requestType (.bad .unknownRecord) = .readRecord
         ∧ requestType (.bad (.unknownFeederAction n)) = .feederCmd
         ∧ requestType (.bad .unknownRectAction) = .rectCmd)

/-- R18, R34, R51, R72, R99, R118, R143, R160, R174, R186: RESTART in CONFIG, with no feeder TRIPPING or in
a BREAKER_FAILURE lockout, gives every block its warm-restart values, keeps the settings, station time and
the tag counters, and reports RESTART with value1 2 as the only queued record. Of the rectifier record
run pending, retry pending, the accumulators, the limit hold and overcurrent counts and both feeder sets
are cleared and everything else is kept. Outside these conditions it is REFUSED_MODE or REFUSED_STATE. -/
def Obligations.WarmRestartTaken : Prop :=
  (∀ (k : Ticket) (s : State), s.inReset = false → k.source = .fromStation → s.mode = .config →
     (∀ f, (s.sq f).state ≠ .tripping
       ∧ ¬ ((s.sq f).state = .lockout ∧ (s.sq f).lockoutCause = some .breakerFailure)) →
       ∃ t, exec (.restart k) s = .next (answer k .restart .done t)
         ∧ (∀ f, t.sq f = FeederRec.fresh ∧ (t.feeder f).intake = FeederIntake.fresh
             ∧ (t.feeder f).prot = Protection.fresh ∧ (t.feeder f).row = (s.feeder f).row
             ∧ (t.feeder f).valid = (s.feeder f).valid
             ∧ (t.feeder f).section_ = (s.feeder f).section_ ∧ (t.feeder f).entry = none
             ∧ (t.feeder f).repeatRec = none ∧ (t.feeder f).decim = 0)
         ∧ (∀ p, t.port p =
             { PortRec.cold with
               recovery := (s.port p).recovery, sending := (s.port p).sending })
         ∧ (∀ i, t.tie i = { TieRec.cold with tag := (s.tie i).tag })
         ∧ t.rectIntake = RectIntake.fresh
         ∧ t.rect =
             { s.rect with
               runPending := false, retryPending := false, sumUb := 0, n := 0, peakIr := 0
               limitHold := 0, overcurrent := 0, latched := PerFeeder.const false
               testers := PerFeeder.const false }
         ∧ (∀ f, (t.feeder f).simBreaker = SimDevice.start
             ∧ (t.feeder f).simContactor = SimDevice.start)
         ∧ t.simAc = SimDevice.start ∧ t.mode = s.mode ∧ t.rest = s.rest ∧ t.ownNode = s.ownNode
         ∧ t.inReset = s.inReset
         ∧ t.rectRow = s.rectRow ∧ t.rectValid = s.rectValid ∧ t.reportRow = s.reportRow
         ∧ t.nodes = s.nodes ∧ t.requests = [] ∧ t.loss = 0 ∧ t.time = s.time
         ∧ t.timeValid = s.timeValid ∧ t.key = s.key ∧ t.estop = s.estop
         ∧ t.slots = PerSlot.const Slot.free
         ∧ t.reports.map (fun q => (q.record.kind, q.record.source, q.record.value1))
             = [(.restart, .device, some 2)])
  ∧ (∀ (k : Ticket) (s : State), s.inReset = false →
       let refused := fun (status : Status) =>
         Host.Outcome.next (φ := Fault) (ρ := Refusal)
           (answer k .restart status (takeRequest k .restart s))
       (k.source = .fromPanel → exec (.restart k) s = refused .refusedAuthority)
       ∧ (k.source = .fromStation → s.mode ≠ .config →
           exec (.restart k) s = refused .refusedMode)
       ∧ (k.source = .fromStation → s.mode = .config →
           (∃ f, (s.sq f).state = .tripping
             ∨ ((s.sq f).state = .lockout ∧ (s.sq f).lockoutCause = some .breakerFailure)) →
           exec (.restart k) s = refused .refusedState))

/-- R168, R169, R171: CAPTURE_START fills the lowest FREE slot with the feeder's last samples and
answers its number, is absorbed by a slot filling for the feeder, and is REFUSED_STATE with a CAPTURE_LOST
report when no slot is FREE. R168: the slot's 128 positions hold the ring's newest entry at 127 and each
older one its newer neighbour's gap before it, all others absent.

R169: an accepted sample fills the slot further: gap − 1 absent positions and its own, or absent ones to
the end; at 512 positions the slot is READY with a CAPTURE_READY report of the number present. R170:
OUT_OF_SERVICE ends the filling with absent positions.

R172: CAPTURE_READ of a READY slot answers its segment in four parts of four positions, an absent one
with zeros and its flag clear, the first part with the slot's feeder, trigger and trigger time; nothing but
the station port and the request queue changes. R172, R173: a FILLING slot answers BUSY and a FREE one
REFUSED_STATE, to CAPTURE_RELEASE too, which frees a READY slot; numbers out of range are BAD_VALUE, and
the panel has no authority. -/
def Obligations.CapturesServed : Prop :=
  (∀ (k : Ticket) (f : FeederId) (s : State), s.inReset = false → k.source = .fromStation →
     let s' := takeRequest k (.captureStart f.num) s
     (∀ c, fillingSlot s f = some c →
       exec (.captureStart k f.num) s =
         .next (sendReply k .captureStart .done 0 1 (.captureSlot c.num) s'))
     ∧ (∀ c, fillingSlot s f = none → freeSlot s = some c →
         exec (.captureStart k f.num) s =
           .next
             (sendReply k .captureStart .done 0 1 (.captureSlot c.num)
               { s' with
                 slots :=
                   s.slots.set c
                     { state := .filling, feeder := some f, trigger := some .manual
                       time := s.time, timeValid := s.timeValid
                       positions := prePositions (s.feeder f).intake.ring } }))
     ∧ (fillingSlot s f = none → freeSlot s = none →
         exec (.captureStart k f.num) s =
           .next
             (answer k .captureStart .refusedState
               (submit .captureLost (.feeder f) none (some 2) none s')))
     ∧ (∀ c : SlotId,
         let s' := takeRequest k (.captureRelease c.num) s
         ((s.slots.get c).state = .ready →
           exec (.captureRelease k c.num) s =
             .next (answer k .captureRelease .done { s' with slots := s.slots.set c Slot.free }))
         ∧ ((s.slots.get c).state = .filling →
             exec (.captureRelease k c.num) s = .next (answer k .captureRelease .busy s'))
         ∧ ((s.slots.get c).state = .free →
             exec (.captureRelease k c.num) s = .next (answer k .captureRelease .refusedState s'))))
  ∧ (∀ ring : List RingEntry,
       let back := fun e : RingEntry => max 1 (e.gap.getD 1)
       (prePositions ring).length = 128
         ∧ (∀ (older newer : List RingEntry) (e : RingEntry), ring = older ++ e :: newer →
             (newer.map back).sum ≤ 127 →
               (prePositions ring)[127 - (newer.map back).sum]? = some (some ⟨e.i, e.u, e.ub⟩))
         ∧ (∀ n, n ≤ 127 →
             (∀ (older newer : List RingEntry) (e : RingEntry), ring = older ++ e :: newer →
               (newer.map back).sum ≠ 127 - n) →
               (prePositions ring)[n]? = some none))
  ∧ (∀ (f : FeederId) (s : State),
       (∀ c, fillingSlot s f = some c →
         (s.slots.get c).state = .filling ∧ (s.slots.get c).feeder = some f)
       ∧ (fillingSlot s f = none → ∀ c : SlotId,
           ¬ ((s.slots.get c).state = .filling ∧ (s.slots.get c).feeder = some f))
       ∧ (∀ c, freeSlot s = some c →
           (s.slots.get c).state = .free
             ∧ ∀ d : SlotId, d.num < c.num → (s.slots.get d).state ≠ .free)
       ∧ (freeSlot s = none → ∀ c : SlotId, (s.slots.get c).state ≠ .free))
  ∧ (∀ (f : FeederId) (c : SlotId) (bytes : List Byte) (fr : RxFrame) (x : FeederSample) (g : Nat)
     (s : State),
       TakesSample f bytes fr x g s → fillingSlot s f = some c → s.reports.length < 50 →
         let slot := s.slots.get c
         let k := (s.feeder f).intake
         let h := handedGap k.resumption g k.carry
         let i := if x.iOver then (if 0 ≤ x.i then 32767 else -32768) else x.i
         let u := if x.uOver then 4095 else x.u
         let filled :=
           if slot.positions.length + h ≤ 512 then
             slot.positions ++ List.replicate (h - 1) none ++ [some ⟨i, u, s.rectIntake.ub⟩]
           else slot.positions ++ List.replicate (512 - slot.positions.length) none
         let full := 512 ≤ slot.positions.length + h
         ∃ t, exec (.feederSampleReceived bytes) s = .next t
           ∧ t.slots.get c =
               { slot with positions := filled, state := if full then .ready else .filling }
           ∧ (full →
               Reported t .captureReady (.feeder f) none (some c.num)
                 (some ((filled.filter Option.isSome).length : Nat))))
  ∧ (∀ (k : Ticket) (f : FeederId) (c : SlotId) (s : State), s.inReset = false →
       k.source = (if s.key = .atRemote then .fromStation else .fromPanel) → s.mode ≠ .shadow →
       ((s.sq f).state = .opened
         ∨ ((s.sq f).state = .lockout ∧ (s.sq f).lockoutCause ≠ some .breakerFailure)) →
       fillingSlot s f = some c → s.reports.length < 50 →
         let slot := s.slots.get c
         let ended := slot.positions ++ List.replicate (512 - slot.positions.length) none
         ∃ t, exec (.outOfService k f.num) s = .next (answer k .feederCmd .done t)
           ∧ t.slots = s.slots.set c { slot with positions := ended, state := .ready }
           ∧ Reported t .captureReady (.feeder f) none (some c.num)
               (some ((ended.filter Option.isSome).length : Nat)))
  ∧ (∀ (k : Ticket) (c : SlotId) (segment : Nat) (s : State), s.inReset = false →
       k.source = .fromStation → segment ≤ 31 →
       let s' := takeRequest k (.captureRead c.num segment) s
       let slot := s.slots.get c
       let r := s.port .sp
       let part := fun n : Nat =>
         Payload.reply
           { type := .captureRead, number := k.number, status := .done, part := n, parts := 4
             body :=
               .capturePart c.num segment
                 (((slot.positions.drop (16 * segment + 4 * n)).take 4).map positionView)
                 (if n = 0 then
                   some
                     { feeder := slot.feeder, trigger := slot.trigger, time := slot.time
                       timeValid := slot.timeValid }
                  else none) }
       let parts := [part 0, part 1, part 2, part 3]
       ((slot.state = .filling →
           exec (.captureRead k c.num segment) s = .next (answer k .captureRead .busy s'))
         ∧ (slot.state = .free →
             exec (.captureRead k c.num segment) s = .next (answer k .captureRead .refusedState s'))
         ∧ (slot.state = .ready →
             ∃ t, exec (.captureRead k c.num segment) s = .next t ∧ t.putPort .sp s' = s'
               ∧ (t.port .sp).nextSeq = r.nextSeq + 4#8
               ∧ (r.normal.length ≤ 28 →
                   (∀ m ∈ parts, ∃ q ∈ (t.port .sp).sending.toList ++ (t.port .sp).normal,
                     q.payload = m ∧ q.dest = k.requester)
                   ∧ ((r.state = .lost ∨ r.sending ≠ none) →
                       (t.port .sp).normal.map Frame.payload
                           = r.normal.map Frame.payload ++ parts
                         ∧ (t.port .sp).sending = r.sending ∧ (t.port .sp).urgent = r.urgent)
                   ∧ (r.state ≠ .lost → r.sending = none → r.urgent = [] → r.normal = [] →
                       (t.port .sp).sending.map Frame.payload = some (part 0)
                         ∧ (t.port .sp).normal.map Frame.payload = [part 1, part 2, part 3])))))
  ∧ (∀ p : Point,
       positionView (some p) = { present := true, i := p.i, u := p.u, ub := p.ub }
         ∧ positionView none = { present := false, i := 0, u := 0, ub := 0 })
  ∧ (∀ (k : Ticket) (n segment : Nat) (s : State), s.inReset = false →
       let start := fun (status : Status) =>
         Host.Outcome.next (φ := Fault) (ρ := Refusal)
           (answer k .captureStart status (takeRequest k (.captureStart n) s))
       let read := fun (status : Status) =>
         Host.Outcome.next (φ := Fault) (ρ := Refusal)
           (answer k .captureRead status (takeRequest k (.captureRead n segment) s))
       let release := fun (status : Status) =>
         Host.Outcome.next (φ := Fault) (ρ := Refusal)
           (answer k .captureRelease status (takeRequest k (.captureRelease n) s))
       (k.source = .fromPanel →
         exec (.captureStart k n) s = start .refusedAuthority
           ∧ exec (.captureRead k n segment) s = read .refusedAuthority
           ∧ exec (.captureRelease k n) s = release .refusedAuthority)
       ∧ (k.source = .fromStation →
           ((n = 0 ∨ 8 < n) → exec (.captureStart k n) s = start .badValue)
           ∧ ((3 < n ∨ 31 < segment) → exec (.captureRead k n segment) s = read .badValue)
           ∧ (3 < n → exec (.captureRelease k n) s = release .badValue)))

/-- R50, R185: INJECT in REPLAY hands a feeder node's payload to intake as the next sample in sequence,
with no gap; outside REPLAY it is REFUSED_MODE, and a payload that is not a sample of its node, or a node
that is no measuring unit, is BAD_VALUE.

R47, R48, R50: so it does with the rectifier unit's payload, whose reception stamp is the station time of its
taking: a crossing is placed by it, and one under UNIT_FAULT is recorded. The last conjunct gives all
effects of a sample that brings no overcurrent and no change of the stack trip flag. -/
def Obligations.SampleInjected : Prop :=
  ∀ (k : Ticket) (node : Nat) (payload : List Byte) (s : State), s.inReset = false →
    k.source = .fromStation →
      let s' := takeRequest k (.inject node payload) s
      let row := s.nodeRow (BitVec.ofNat 8 node)
      (s.mode ≠ .replay →
        exec (.inject k node payload) s = .next (answer k .inject .refusedMode s'))
      ∧ (s.mode = .replay →
          (62 < node ∨ (row.role ≠ .feederMu ∧ row.role ≠ .rectMu)
            ∨ (row.role = .feederMu ∧ payload.length ≠ 6)
            ∨ (row.role = .rectMu ∧ readRectSample payload = none)) →
          exec (.inject k node payload) s = .next (answer k .inject .badValue s'))
      ∧ (∀ f x, s.mode = .replay → node ≤ 62 → row.role = .feederMu → row.binding = some f →
          readFeederSample payload = some x →
            ∃ t, exec (.inject k node payload) s = .next (answer k .inject .done t) ∧
              let k' := (t.feeder f).intake
              let last := (s.feeder f).intake.lastSeq
              k'.lastSeq = some (match last with | some l => l + 1#8 | none => 0#8)
                ∧ (x.unitFault = false →
                    k'.resumption = false ∧ k'.carry = 0 ∧ k'.faultOnset = false
                      ∧ k'.lastAccepted.map Prod.fst
                          = some (if x.iOver then (if 0 ≤ x.i then 32767 else -32768) else x.i))
                ∧ (t.feeder f).decim = (s.feeder f).decim
                ∧ t.ports = s.ports ∧ t.nodes = s.nodes ∧ t.mode = s.mode)
      ∧ (∀ x, s.mode = .replay → node ≤ 62 → row.role = .rectMu → readRectSample payload = some x →
          let last := s.rectIntake.lastSeq
          let seq : Byte := match last with | some l => l + 1#8 | none => 0#8
          (x.unitFault = false →
            ∃ t, exec (.inject k node payload) s = .next (answer k .inject .done t)
              ∧ t.rectIntake =
                  { lastSeq := some seq, resumption := false, carry := 0, faultOnset := false
                    ub := if x.ubOver then 4095 else x.ub, ir := saturatedIr x, temp := x.temp
                    busbarValid := true, prevStamp := some s.time, timeSet := false
                    silence := some 20000, arriving := true }
              ∧ t.ports = s.ports ∧ t.nodes = s.nodes ∧ t.mode = s.mode)
          ∧ (x.unitFault = true →
              let k' := s.rectIntake
              let taken :=
                { s' with
                  rectIntake :=
                    { k' with
                      lastSeq := some seq, carry := min 255 (k'.carry + 1), faultOnset := true
                      busbarValid := false } }
              exec (.inject k node payload) s =
                .next
                  (answer k .inject .done
                    (if k'.faultOnset then taken
                     else submit .unitFault .rect none (some seq.toNat) none taken)))
          ∧ (x.unitFault = false → QuietRect x s →
              exec (.inject k node payload) s =
                .next (answer k .inject .done (afterRectSample s.time seq 1 x s'))))

/-! ## Discrete lines and resets -/

/-- R178: the first settled KEY level is the key position and is not reported; after it each change of the
counted position is reported with the new position and governs later requests; a position already in
force changes nothing (log entry 32).

R18, R187, R188, R190: RESET_N low gives every block its cold-reset values and holds the part in
reset; RESET_N high ends the reset, samples the straps, takes the node number with 63 as 62, writes the
provisional gateway row at node 1, or 2 for a part that is node 1, and reports RESTART with value1 1. The
waiting commands and the counter of free values are the model's own and stay.

R190, log entry 4: while RESET_N counts low the part takes no command but the reset lines. -/
def Obligations.KeyAndResetLines : Prop :=
  (∀ (pos : KeyPos) (s : State), s.inReset = false →
     (s.keySettled = false →
       exec (.keyFirstSettling pos) s = .next { s with key := pos, keySettled := true })
     ∧ (s.keySettled = true → pos ≠ s.key →
         ∃ t, exec (.keyChange pos) s = .next t ∧ t.key = pos
           ∧ t.reports =
               (submit .keyChange .device none (some (if pos = .atLocal then 1 else 2)) none s).reports
           ∧ ({ t with key := s.key }.putReports s) = s)
     ∧ (s.keySettled = true → pos = s.key → exec (.keyChange pos) s = .next s))
  ∧ (∀ (s : State) (rest : RestState) (straps : BitVec 6),
       exec .coldReset s = .next { State.reset with pending := s.pending, freeCount := s.freeCount }
       ∧ (s.inReset = false → exec (.resetRelease rest straps) s = .next s)
       ∧ (s.inReset = true →
           ∃ t, exec (.resetRelease rest straps) s = .next t ∧
             let own : BitVec 6 := if straps = 63#6 then 62#6 else straps
             let gateway : Nat := if own = 1#6 then 2 else 1
             t.inReset = false ∧ t.ownNode = own ∧ t.strapNode = straps ∧ t.strapRest = rest
               ∧ t.rest = rest ∧ (t.nodeRow (BitVec.ofNat 8 gateway)).role = .gateway
               ∧ (t.nodeRow (BitVec.ofNat 8 gateway)).side = .station
               ∧ (∀ n, n ≤ 63 → n ≠ gateway →
                   t.nodeRow (BitVec.ofNat 8 n) = s.nodeRow (BitVec.ofNat 8 n))
               ∧ t.feeders = s.feeders ∧ t.ports = s.ports ∧ t.mode = s.mode ∧ t.time = s.time
               ∧ t.reports = (submit .restart .device none (some 1) none s).reports))
  ∧ (∀ (c : Instr) (s : State), s.inReset = true → c ≠ .coldReset →
       (∀ rest node, c ≠ .resetRelease rest node) → exec c s = .next s)

/-- R96, R140, R191: the assertion of the emergency stop, outside SHADOW: feeders in TRIPPING keep
tripping with EMERGENCY among their causes, CLOSED, CLOSING and OPENING feeders trip and, where mapped,
intertrip the far end (R83, R95, R150), TESTING and DEAD_TIME feeders lock out with cause EMERGENCY (a test
aborted with its shot given back, R115), feeders in OUT, OPEN and LOCKOUT stay as they are, and the group
is FAULTED with EMERGENCY; in SHADOW only the report is made.
(Latched tests belong to DEAD_TIME: StepKeepsModeStates.)

R191: the release of the emergency stop is reported with value1 0 and changes no feeder and no state
of the group; a release without an assertion changes nothing (log entry 32).

R192: the summary alarm is asserted exactly while a feeder is in LOCKOUT, the group is FAULTED, a port
is LOST or the emergency stop is asserted; ALARM conducts when it is released outside reset; the trip
outputs follow their levels. -/
def Obligations.EmergencyStopAndOutputs : Prop :=
  (∀ s : State, s.inReset = false → s.estop = false →
     (∀ f, s.rect.latched.get f = true →
       (s.sq f).pendingTest = true ∧ (s.sq f).state = .deadTime) →
       ∃ t, exec .estopAsserted s = .next t ∧ t.estop = true ∧ summaryAlarm t = true
         ∧ (s.mode = .shadow →
             t = submit .emergency .device none (some 1) none { s with estop := true })
         ∧ (s.mode ≠ .shadow →
             t.rect.state = .faulted ∧ t.rect.faults.emergency = true
               ∧ (∀ f,
                   let r := s.sq f
                   let r' := t.sq f
                   (r.state = .closed ∨ r.state = .closing ∨ r.state = .opening →
                     r'.state = .tripping ∧ r'.primary = some .emergency
                       ∧ r'.tripLine = decide (s.mode ≠ .replay)
                       ∧ (∀ k, (s.feeder f).section_.tie = some k → s.mode ≠ .replay →
                           ((s.tie k).up = true →
                             ∃ e, (t.feeder f).entry = some e ∧ e.tie = k ∧ e.cause = .emergency
                               ∧ e.sectionId = (s.feeder f).section_.sectionId ∧ e.sends = 1
                               ∧ e.timer = 10000)
                           ∧ ((s.tie k).up = false →
                               (t.feeder f).entry = none ∧ r'.intertripFailed = true)))
                   ∧ (r.state = .tripping →
                       r'.state = .tripping ∧ r'.primary = r.primary
                         ∧ r'.tripCauses.emergency = true)
                   ∧ (r.state = .deadTime ∨ r.state = .testing →
                       r'.state = .lockout ∧ r'.lockoutCause = some (.trip .emergency))
                   ∧ (r.state = .testing → r.openRequested = false →
                       r'.shotCount = (if r.shotTaken = true then r.shotCount - 1 else r.shotCount)
                         ∧ r'.test.last =
                             some
                               { outcome := .aborted .emergency, r := none, uAvg := none
                                 ubAvg := none })
                   ∧ (r.state = .out ∨ r.state = .opened ∨ r.state = .lockout → r' = r))))
  ∧ (∀ s : State, s.inReset = false →
       (s.estop = true →
         ∃ t, exec .estopReleased s = .next t ∧ t.estop = false
           ∧ t.reports = (submit .emergency .device none (some 0) none s).reports
           ∧ ({ t with estop := true }.putReports s) = s)
       ∧ (s.estop = false → exec .estopReleased s = .next s))
  ∧ (∀ s : State,
       (summaryAlarm s = true ↔
         (∃ f, (s.sq f).state = .lockout) ∨ s.rect.state = .faulted
           ∨ (∃ p, (s.port p).state = .lost) ∨ s.estop = true)
       ∧ (alarmConducts s = true ↔ s.inReset = false ∧ summaryAlarm s = false)
       ∧ (∀ f, feederTripOutput s f = (s.sq f).tripLine) ∧ acTripOutput s = s.rect.acTrip)

end
end

