-- ==== Sys2Proof/Laws/State.lean ====
section
/-! SUPPORT. What each update of the state does to each field: reading back what was written, and every
other field as it was. -/

namespace Sys2Proof

/-! Containers -/

@[simp] theorem PerFeeder.get_set_same {α : Type} (v : PerFeeder α) (i : FeederId) (x : α) :
    (v.set i x).get i = x := by cases i <;> rfl

theorem PerFeeder.get_set_ne {α : Type} (v : PerFeeder α) {i j : FeederId} (x : α) (h : j ≠ i) :
    (v.set i x).get j = v.get j := by cases i <;> cases j <;> first | rfl | exact absurd rfl h

theorem PerFeeder.get_set {α : Type} (v : PerFeeder α) (i j : FeederId) (x : α) :
    (v.set i x).get j = if j = i then x else v.get j := by cases i <;> cases j <;> rfl

@[simp] theorem PerFeeder.set_get {α : Type} (v : PerFeeder α) (i : FeederId) : v.set i (v.get i) = v := by
  cases i <;> rfl

@[simp] theorem PerFeeder.set_set {α : Type} (v : PerFeeder α) (i : FeederId) (x y : α) :
    (v.set i x).set i y = v.set i y := by cases i <;> rfl

theorem PerFeeder.ext_get {α : Type} {v w : PerFeeder α} (h : ∀ i, v.get i = w.get i) : v = w := by
  cases v; cases w
  simp only [PerFeeder.mk.injEq]
  exact ⟨h .f1, h .f2, h .f3, h .f4, h .f5, h .f6, h .f7, h .f8⟩

@[simp] theorem PerPort.get_set_same {α : Type} (v : PerPort α) (i : Port) (x : α) :
    (v.set i x).get i = x := by cases i <;> rfl

theorem PerPort.get_set_ne {α : Type} (v : PerPort α) {i j : Port} (x : α) (h : j ≠ i) :
    (v.set i x).get j = v.get j := by cases i <;> cases j <;> first | rfl | exact absurd rfl h

theorem PerPort.get_set {α : Type} (v : PerPort α) (i j : Port) (x : α) :
    (v.set i x).get j = if j = i then x else v.get j := by cases i <;> cases j <;> rfl

@[simp] theorem PerPort.set_get {α : Type} (v : PerPort α) (i : Port) : v.set i (v.get i) = v := by
  cases i <;> rfl

@[simp] theorem PerPort.set_set {α : Type} (v : PerPort α) (i : Port) (x y : α) :
    (v.set i x).set i y = v.set i y := by cases i <;> rfl

theorem PerPort.ext_get {α : Type} {v w : PerPort α} (h : ∀ i, v.get i = w.get i) : v = w := by
  cases v; cases w
  simp only [PerPort.mk.injEq]
  exact ⟨h .fp, h .sp, h .ta, h .tb⟩

@[simp] theorem PerTie.get_set_same {α : Type} (v : PerTie α) (i : Tie) (x : α) :
    (v.set i x).get i = x := by cases i <;> rfl

theorem PerTie.get_set_ne {α : Type} (v : PerTie α) {i j : Tie} (x : α) (h : j ≠ i) :
    (v.set i x).get j = v.get j := by cases i <;> cases j <;> first | rfl | exact absurd rfl h

theorem PerTie.get_set {α : Type} (v : PerTie α) (i j : Tie) (x : α) :
    (v.set i x).get j = if j = i then x else v.get j := by cases i <;> cases j <;> rfl

@[simp] theorem PerTie.set_get {α : Type} (v : PerTie α) (i : Tie) : v.set i (v.get i) = v := by
  cases i <;> rfl

@[simp] theorem PerTie.set_set {α : Type} (v : PerTie α) (i : Tie) (x y : α) :
    (v.set i x).set i y = v.set i y := by cases i <;> rfl

theorem PerTie.ext_get {α : Type} {v w : PerTie α} (h : ∀ i, v.get i = w.get i) : v = w := by
  cases v; cases w
  simp only [PerTie.mk.injEq]
  exact ⟨h .a, h .b⟩

@[simp] theorem PerSlot.get_set_same {α : Type} (v : PerSlot α) (i : SlotId) (x : α) :
    (v.set i x).get i = x := by cases i <;> rfl

theorem PerSlot.get_set_ne {α : Type} (v : PerSlot α) {i j : SlotId} (x : α) (h : j ≠ i) :
    (v.set i x).get j = v.get j := by cases i <;> cases j <;> first | rfl | exact absurd rfl h

theorem PerSlot.get_set {α : Type} (v : PerSlot α) (i j : SlotId) (x : α) :
    (v.set i x).get j = if j = i then x else v.get j := by cases i <;> cases j <;> rfl

@[simp] theorem PerSlot.set_get {α : Type} (v : PerSlot α) (i : SlotId) : v.set i (v.get i) = v := by
  cases i <;> rfl

@[simp] theorem PerSlot.set_set {α : Type} (v : PerSlot α) (i : SlotId) (x y : α) :
    (v.set i x).set i y = v.set i y := by cases i <;> rfl

theorem PerSlot.ext_get {α : Type} {v w : PerSlot α} (h : ∀ i, v.get i = w.get i) : v = w := by
  cases v; cases w
  simp only [PerSlot.mk.injEq]
  exact ⟨h .s0, h .s1, h .s2, h .s3⟩

@[simp] theorem PerFeeder.get_map {α β : Type} (g : α → β) (v : PerFeeder α) (i : FeederId) :
    (v.map g).get i = g (v.get i) := by cases i <;> rfl

@[simp] theorem PerPort.get_map {α β : Type} (g : α → β) (v : PerPort α) (i : Port) :
    (v.map g).get i = g (v.get i) := by cases i <;> rfl

@[simp] theorem PerTie.get_map {α β : Type} (g : α → β) (v : PerTie α) (i : Tie) :
    (v.map g).get i = g (v.get i) := by cases i <;> rfl

@[simp] theorem PerFeeder.get_const {α : Type} (x : α) (i : FeederId) :
    (PerFeeder.const x).get i = x := by cases i <;> rfl

@[simp] theorem PerPort.get_const {α : Type} (x : α) (i : Port) :
    (PerPort.const x).get i = x := by cases i <;> rfl

@[simp] theorem PerSlot.get_const {α : Type} (x : α) (i : SlotId) :
    (PerSlot.const x).get i = x := by cases i <;> rfl

namespace Machine

/-! setPort -/

@[simp] theorem State.setPort_pending (s : State) (p : Port) (r : PortRec) :
    (s.setPort p r).pending = s.pending := rfl

@[simp] theorem State.setPort_freeCount (s : State) (p : Port) (r : PortRec) :
    (s.setPort p r).freeCount = s.freeCount := rfl

@[simp] theorem State.setPort_inReset (s : State) (p : Port) (r : PortRec) :
    (s.setPort p r).inReset = s.inReset := rfl

@[simp] theorem State.setPort_time (s : State) (p : Port) (r : PortRec) :
    (s.setPort p r).time = s.time := rfl

@[simp] theorem State.setPort_timeValid (s : State) (p : Port) (r : PortRec) :
    (s.setPort p r).timeValid = s.timeValid := rfl

@[simp] theorem State.setPort_mode (s : State) (p : Port) (r : PortRec) :
    (s.setPort p r).mode = s.mode := rfl

@[simp] theorem State.setPort_key (s : State) (p : Port) (r : PortRec) :
    (s.setPort p r).key = s.key := rfl

@[simp] theorem State.setPort_keySettled (s : State) (p : Port) (r : PortRec) :
    (s.setPort p r).keySettled = s.keySettled := rfl

@[simp] theorem State.setPort_estop (s : State) (p : Port) (r : PortRec) :
    (s.setPort p r).estop = s.estop := rfl

@[simp] theorem State.setPort_strapRest (s : State) (p : Port) (r : PortRec) :
    (s.setPort p r).strapRest = s.strapRest := rfl

@[simp] theorem State.setPort_strapNode (s : State) (p : Port) (r : PortRec) :
    (s.setPort p r).strapNode = s.strapNode := rfl

@[simp] theorem State.setPort_ownNode (s : State) (p : Port) (r : PortRec) :
    (s.setPort p r).ownNode = s.ownNode := rfl

@[simp] theorem State.setPort_rest (s : State) (p : Port) (r : PortRec) :
    (s.setPort p r).rest = s.rest := rfl

@[simp] theorem State.setPort_requests (s : State) (p : Port) (r : PortRec) :
    (s.setPort p r).requests = s.requests := rfl

@[simp] theorem State.setPort_nodes (s : State) (p : Port) (r : PortRec) :
    (s.setPort p r).nodes = s.nodes := rfl

@[simp] theorem State.setPort_feeders (s : State) (p : Port) (r : PortRec) :
    (s.setPort p r).feeders = s.feeders := rfl

@[simp] theorem State.setPort_rectIntake (s : State) (p : Port) (r : PortRec) :
    (s.setPort p r).rectIntake = s.rectIntake := rfl

@[simp] theorem State.setPort_rectRow (s : State) (p : Port) (r : PortRec) :
    (s.setPort p r).rectRow = s.rectRow := rfl

@[simp] theorem State.setPort_rectValid (s : State) (p : Port) (r : PortRec) :
    (s.setPort p r).rectValid = s.rectValid := rfl

@[simp] theorem State.setPort_rect (s : State) (p : Port) (r : PortRec) :
    (s.setPort p r).rect = s.rect := rfl

@[simp] theorem State.setPort_ties (s : State) (p : Port) (r : PortRec) :
    (s.setPort p r).ties = s.ties := rfl

@[simp] theorem State.setPort_reports (s : State) (p : Port) (r : PortRec) :
    (s.setPort p r).reports = s.reports := rfl

@[simp] theorem State.setPort_loss (s : State) (p : Port) (r : PortRec) :
    (s.setPort p r).loss = s.loss := rfl

@[simp] theorem State.setPort_reportRow (s : State) (p : Port) (r : PortRec) :
    (s.setPort p r).reportRow = s.reportRow := rfl

@[simp] theorem State.setPort_slots (s : State) (p : Port) (r : PortRec) :
    (s.setPort p r).slots = s.slots := rfl

@[simp] theorem State.setPort_simAc (s : State) (p : Port) (r : PortRec) :
    (s.setPort p r).simAc = s.simAc := rfl

@[simp] theorem State.setPort_feeder (s : State) (p : Port) (r : PortRec) (e : FeederId) :
    (s.setPort p r).feeder e = s.feeder e := rfl

@[simp] theorem State.setPort_sq (s : State) (p : Port) (r : PortRec) (e : FeederId) :
    (s.setPort p r).sq e = s.sq e := rfl

@[simp] theorem State.setPort_tie (s : State) (p : Port) (r : PortRec) (i : Tie) :
    (s.setPort p r).tie i = s.tie i := rfl

@[simp] theorem State.setPort_nodeRow (s : State) (p : Port) (r : PortRec) (n : Byte) :
    (s.setPort p r).nodeRow n = s.nodeRow n := rfl

/-! setFeeder -/

@[simp] theorem State.setFeeder_pending (s : State) (f : FeederId) (u : FeederUnit) :
    (s.setFeeder f u).pending = s.pending := rfl

@[simp] theorem State.setFeeder_freeCount (s : State) (f : FeederId) (u : FeederUnit) :
    (s.setFeeder f u).freeCount = s.freeCount := rfl

@[simp] theorem State.setFeeder_inReset (s : State) (f : FeederId) (u : FeederUnit) :
    (s.setFeeder f u).inReset = s.inReset := rfl

@[simp] theorem State.setFeeder_time (s : State) (f : FeederId) (u : FeederUnit) :
    (s.setFeeder f u).time = s.time := rfl

@[simp] theorem State.setFeeder_timeValid (s : State) (f : FeederId) (u : FeederUnit) :
    (s.setFeeder f u).timeValid = s.timeValid := rfl

@[simp] theorem State.setFeeder_mode (s : State) (f : FeederId) (u : FeederUnit) :
    (s.setFeeder f u).mode = s.mode := rfl

@[simp] theorem State.setFeeder_key (s : State) (f : FeederId) (u : FeederUnit) :
    (s.setFeeder f u).key = s.key := rfl

@[simp] theorem State.setFeeder_keySettled (s : State) (f : FeederId) (u : FeederUnit) :
    (s.setFeeder f u).keySettled = s.keySettled := rfl

@[simp] theorem State.setFeeder_estop (s : State) (f : FeederId) (u : FeederUnit) :
    (s.setFeeder f u).estop = s.estop := rfl

@[simp] theorem State.setFeeder_strapRest (s : State) (f : FeederId) (u : FeederUnit) :
    (s.setFeeder f u).strapRest = s.strapRest := rfl

@[simp] theorem State.setFeeder_strapNode (s : State) (f : FeederId) (u : FeederUnit) :
    (s.setFeeder f u).strapNode = s.strapNode := rfl

@[simp] theorem State.setFeeder_ownNode (s : State) (f : FeederId) (u : FeederUnit) :
    (s.setFeeder f u).ownNode = s.ownNode := rfl

@[simp] theorem State.setFeeder_rest (s : State) (f : FeederId) (u : FeederUnit) :
    (s.setFeeder f u).rest = s.rest := rfl

@[simp] theorem State.setFeeder_requests (s : State) (f : FeederId) (u : FeederUnit) :
    (s.setFeeder f u).requests = s.requests := rfl

@[simp] theorem State.setFeeder_ports (s : State) (f : FeederId) (u : FeederUnit) :
    (s.setFeeder f u).ports = s.ports := rfl

@[simp] theorem State.setFeeder_nodes (s : State) (f : FeederId) (u : FeederUnit) :
    (s.setFeeder f u).nodes = s.nodes := rfl

@[simp] theorem State.setFeeder_rectIntake (s : State) (f : FeederId) (u : FeederUnit) :
    (s.setFeeder f u).rectIntake = s.rectIntake := rfl

@[simp] theorem State.setFeeder_rectRow (s : State) (f : FeederId) (u : FeederUnit) :
    (s.setFeeder f u).rectRow = s.rectRow := rfl

@[simp] theorem State.setFeeder_rectValid (s : State) (f : FeederId) (u : FeederUnit) :
    (s.setFeeder f u).rectValid = s.rectValid := rfl

@[simp] theorem State.setFeeder_rect (s : State) (f : FeederId) (u : FeederUnit) :
    (s.setFeeder f u).rect = s.rect := rfl

@[simp] theorem State.setFeeder_ties (s : State) (f : FeederId) (u : FeederUnit) :
    (s.setFeeder f u).ties = s.ties := rfl

@[simp] theorem State.setFeeder_reports (s : State) (f : FeederId) (u : FeederUnit) :
    (s.setFeeder f u).reports = s.reports := rfl

@[simp] theorem State.setFeeder_loss (s : State) (f : FeederId) (u : FeederUnit) :
    (s.setFeeder f u).loss = s.loss := rfl

@[simp] theorem State.setFeeder_reportRow (s : State) (f : FeederId) (u : FeederUnit) :
    (s.setFeeder f u).reportRow = s.reportRow := rfl

@[simp] theorem State.setFeeder_slots (s : State) (f : FeederId) (u : FeederUnit) :
    (s.setFeeder f u).slots = s.slots := rfl

@[simp] theorem State.setFeeder_simAc (s : State) (f : FeederId) (u : FeederUnit) :
    (s.setFeeder f u).simAc = s.simAc := rfl

@[simp] theorem State.setFeeder_port (s : State) (f : FeederId) (u : FeederUnit) (q : Port) :
    (s.setFeeder f u).port q = s.port q := rfl

@[simp] theorem State.setFeeder_tie (s : State) (f : FeederId) (u : FeederUnit) (i : Tie) :
    (s.setFeeder f u).tie i = s.tie i := rfl

@[simp] theorem State.setFeeder_nodeRow (s : State) (f : FeederId) (u : FeederUnit) (n : Byte) :
    (s.setFeeder f u).nodeRow n = s.nodeRow n := rfl

/-! setSq -/

@[simp] theorem State.setSq_pending (s : State) (f : FeederId) (r : FeederRec) :
    (s.setSq f r).pending = s.pending := rfl

@[simp] theorem State.setSq_freeCount (s : State) (f : FeederId) (r : FeederRec) :
    (s.setSq f r).freeCount = s.freeCount := rfl

@[simp] theorem State.setSq_inReset (s : State) (f : FeederId) (r : FeederRec) :
    (s.setSq f r).inReset = s.inReset := rfl

@[simp] theorem State.setSq_time (s : State) (f : FeederId) (r : FeederRec) :
    (s.setSq f r).time = s.time := rfl

@[simp] theorem State.setSq_timeValid (s : State) (f : FeederId) (r : FeederRec) :
    (s.setSq f r).timeValid = s.timeValid := rfl

@[simp] theorem State.setSq_mode (s : State) (f : FeederId) (r : FeederRec) :
    (s.setSq f r).mode = s.mode := rfl

@[simp] theorem State.setSq_key (s : State) (f : FeederId) (r : FeederRec) :
    (s.setSq f r).key = s.key := rfl

@[simp] theorem State.setSq_keySettled (s : State) (f : FeederId) (r : FeederRec) :
    (s.setSq f r).keySettled = s.keySettled := rfl

@[simp] theorem State.setSq_estop (s : State) (f : FeederId) (r : FeederRec) :
    (s.setSq f r).estop = s.estop := rfl

@[simp] theorem State.setSq_strapRest (s : State) (f : FeederId) (r : FeederRec) :
    (s.setSq f r).strapRest = s.strapRest := rfl

@[simp] theorem State.setSq_strapNode (s : State) (f : FeederId) (r : FeederRec) :
    (s.setSq f r).strapNode = s.strapNode := rfl

@[simp] theorem State.setSq_ownNode (s : State) (f : FeederId) (r : FeederRec) :
    (s.setSq f r).ownNode = s.ownNode := rfl

@[simp] theorem State.setSq_rest (s : State) (f : FeederId) (r : FeederRec) :
    (s.setSq f r).rest = s.rest := rfl

@[simp] theorem State.setSq_requests (s : State) (f : FeederId) (r : FeederRec) :
    (s.setSq f r).requests = s.requests := rfl

@[simp] theorem State.setSq_ports (s : State) (f : FeederId) (r : FeederRec) :
    (s.setSq f r).ports = s.ports := rfl

@[simp] theorem State.setSq_nodes (s : State) (f : FeederId) (r : FeederRec) :
    (s.setSq f r).nodes = s.nodes := rfl

@[simp] theorem State.setSq_rectIntake (s : State) (f : FeederId) (r : FeederRec) :
    (s.setSq f r).rectIntake = s.rectIntake := rfl

@[simp] theorem State.setSq_rectRow (s : State) (f : FeederId) (r : FeederRec) :
    (s.setSq f r).rectRow = s.rectRow := rfl

@[simp] theorem State.setSq_rectValid (s : State) (f : FeederId) (r : FeederRec) :
    (s.setSq f r).rectValid = s.rectValid := rfl

@[simp] theorem State.setSq_rect (s : State) (f : FeederId) (r : FeederRec) :
    (s.setSq f r).rect = s.rect := rfl

@[simp] theorem State.setSq_ties (s : State) (f : FeederId) (r : FeederRec) :
    (s.setSq f r).ties = s.ties := rfl

@[simp] theorem State.setSq_reports (s : State) (f : FeederId) (r : FeederRec) :
    (s.setSq f r).reports = s.reports := rfl

@[simp] theorem State.setSq_loss (s : State) (f : FeederId) (r : FeederRec) :
    (s.setSq f r).loss = s.loss := rfl

@[simp] theorem State.setSq_reportRow (s : State) (f : FeederId) (r : FeederRec) :
    (s.setSq f r).reportRow = s.reportRow := rfl

@[simp] theorem State.setSq_slots (s : State) (f : FeederId) (r : FeederRec) :
    (s.setSq f r).slots = s.slots := rfl

@[simp] theorem State.setSq_simAc (s : State) (f : FeederId) (r : FeederRec) :
    (s.setSq f r).simAc = s.simAc := rfl

@[simp] theorem State.setSq_port (s : State) (f : FeederId) (r : FeederRec) (q : Port) :
    (s.setSq f r).port q = s.port q := rfl

@[simp] theorem State.setSq_tie (s : State) (f : FeederId) (r : FeederRec) (i : Tie) :
    (s.setSq f r).tie i = s.tie i := rfl

@[simp] theorem State.setSq_nodeRow (s : State) (f : FeederId) (r : FeederRec) (n : Byte) :
    (s.setSq f r).nodeRow n = s.nodeRow n := rfl

/-! setIntake -/

@[simp] theorem State.setIntake_pending (s : State) (f : FeederId) (k : FeederIntake) :
    (s.setIntake f k).pending = s.pending := rfl

@[simp] theorem State.setIntake_freeCount (s : State) (f : FeederId) (k : FeederIntake) :
    (s.setIntake f k).freeCount = s.freeCount := rfl

@[simp] theorem State.setIntake_inReset (s : State) (f : FeederId) (k : FeederIntake) :
    (s.setIntake f k).inReset = s.inReset := rfl

@[simp] theorem State.setIntake_time (s : State) (f : FeederId) (k : FeederIntake) :
    (s.setIntake f k).time = s.time := rfl

@[simp] theorem State.setIntake_timeValid (s : State) (f : FeederId) (k : FeederIntake) :
    (s.setIntake f k).timeValid = s.timeValid := rfl

@[simp] theorem State.setIntake_mode (s : State) (f : FeederId) (k : FeederIntake) :
    (s.setIntake f k).mode = s.mode := rfl

@[simp] theorem State.setIntake_key (s : State) (f : FeederId) (k : FeederIntake) :
    (s.setIntake f k).key = s.key := rfl

@[simp] theorem State.setIntake_keySettled (s : State) (f : FeederId) (k : FeederIntake) :
    (s.setIntake f k).keySettled = s.keySettled := rfl

@[simp] theorem State.setIntake_estop (s : State) (f : FeederId) (k : FeederIntake) :
    (s.setIntake f k).estop = s.estop := rfl

@[simp] theorem State.setIntake_strapRest (s : State) (f : FeederId) (k : FeederIntake) :
    (s.setIntake f k).strapRest = s.strapRest := rfl

@[simp] theorem State.setIntake_strapNode (s : State) (f : FeederId) (k : FeederIntake) :
    (s.setIntake f k).strapNode = s.strapNode := rfl

@[simp] theorem State.setIntake_ownNode (s : State) (f : FeederId) (k : FeederIntake) :
    (s.setIntake f k).ownNode = s.ownNode := rfl

@[simp] theorem State.setIntake_rest (s : State) (f : FeederId) (k : FeederIntake) :
    (s.setIntake f k).rest = s.rest := rfl

@[simp] theorem State.setIntake_requests (s : State) (f : FeederId) (k : FeederIntake) :
    (s.setIntake f k).requests = s.requests := rfl

@[simp] theorem State.setIntake_ports (s : State) (f : FeederId) (k : FeederIntake) :
    (s.setIntake f k).ports = s.ports := rfl

@[simp] theorem State.setIntake_nodes (s : State) (f : FeederId) (k : FeederIntake) :
    (s.setIntake f k).nodes = s.nodes := rfl

@[simp] theorem State.setIntake_rectIntake (s : State) (f : FeederId) (k : FeederIntake) :
    (s.setIntake f k).rectIntake = s.rectIntake := rfl

@[simp] theorem State.setIntake_rectRow (s : State) (f : FeederId) (k : FeederIntake) :
    (s.setIntake f k).rectRow = s.rectRow := rfl

@[simp] theorem State.setIntake_rectValid (s : State) (f : FeederId) (k : FeederIntake) :
    (s.setIntake f k).rectValid = s.rectValid := rfl

@[simp] theorem State.setIntake_rect (s : State) (f : FeederId) (k : FeederIntake) :
    (s.setIntake f k).rect = s.rect := rfl

@[simp] theorem State.setIntake_ties (s : State) (f : FeederId) (k : FeederIntake) :
    (s.setIntake f k).ties = s.ties := rfl

@[simp] theorem State.setIntake_reports (s : State) (f : FeederId) (k : FeederIntake) :
    (s.setIntake f k).reports = s.reports := rfl

@[simp] theorem State.setIntake_loss (s : State) (f : FeederId) (k : FeederIntake) :
    (s.setIntake f k).loss = s.loss := rfl

@[simp] theorem State.setIntake_reportRow (s : State) (f : FeederId) (k : FeederIntake) :
    (s.setIntake f k).reportRow = s.reportRow := rfl

@[simp] theorem State.setIntake_slots (s : State) (f : FeederId) (k : FeederIntake) :
    (s.setIntake f k).slots = s.slots := rfl

@[simp] theorem State.setIntake_simAc (s : State) (f : FeederId) (k : FeederIntake) :
    (s.setIntake f k).simAc = s.simAc := rfl

@[simp] theorem State.setIntake_port (s : State) (f : FeederId) (k : FeederIntake) (q : Port) :
    (s.setIntake f k).port q = s.port q := rfl

@[simp] theorem State.setIntake_tie (s : State) (f : FeederId) (k : FeederIntake) (i : Tie) :
    (s.setIntake f k).tie i = s.tie i := rfl

@[simp] theorem State.setIntake_nodeRow (s : State) (f : FeederId) (k : FeederIntake) (n : Byte) :
    (s.setIntake f k).nodeRow n = s.nodeRow n := rfl

/-! setProt -/

@[simp] theorem State.setProt_pending (s : State) (f : FeederId) (r : Protection) :
    (s.setProt f r).pending = s.pending := rfl

@[simp] theorem State.setProt_freeCount (s : State) (f : FeederId) (r : Protection) :
    (s.setProt f r).freeCount = s.freeCount := rfl

@[simp] theorem State.setProt_inReset (s : State) (f : FeederId) (r : Protection) :
    (s.setProt f r).inReset = s.inReset := rfl

@[simp] theorem State.setProt_time (s : State) (f : FeederId) (r : Protection) :
    (s.setProt f r).time = s.time := rfl

@[simp] theorem State.setProt_timeValid (s : State) (f : FeederId) (r : Protection) :
    (s.setProt f r).timeValid = s.timeValid := rfl

@[simp] theorem State.setProt_mode (s : State) (f : FeederId) (r : Protection) :
    (s.setProt f r).mode = s.mode := rfl

@[simp] theorem State.setProt_key (s : State) (f : FeederId) (r : Protection) :
    (s.setProt f r).key = s.key := rfl

@[simp] theorem State.setProt_keySettled (s : State) (f : FeederId) (r : Protection) :
    (s.setProt f r).keySettled = s.keySettled := rfl

@[simp] theorem State.setProt_estop (s : State) (f : FeederId) (r : Protection) :
    (s.setProt f r).estop = s.estop := rfl

@[simp] theorem State.setProt_strapRest (s : State) (f : FeederId) (r : Protection) :
    (s.setProt f r).strapRest = s.strapRest := rfl

@[simp] theorem State.setProt_strapNode (s : State) (f : FeederId) (r : Protection) :
    (s.setProt f r).strapNode = s.strapNode := rfl

@[simp] theorem State.setProt_ownNode (s : State) (f : FeederId) (r : Protection) :
    (s.setProt f r).ownNode = s.ownNode := rfl

@[simp] theorem State.setProt_rest (s : State) (f : FeederId) (r : Protection) :
    (s.setProt f r).rest = s.rest := rfl

@[simp] theorem State.setProt_requests (s : State) (f : FeederId) (r : Protection) :
    (s.setProt f r).requests = s.requests := rfl

@[simp] theorem State.setProt_ports (s : State) (f : FeederId) (r : Protection) :
    (s.setProt f r).ports = s.ports := rfl

@[simp] theorem State.setProt_nodes (s : State) (f : FeederId) (r : Protection) :
    (s.setProt f r).nodes = s.nodes := rfl

@[simp] theorem State.setProt_rectIntake (s : State) (f : FeederId) (r : Protection) :
    (s.setProt f r).rectIntake = s.rectIntake := rfl

@[simp] theorem State.setProt_rectRow (s : State) (f : FeederId) (r : Protection) :
    (s.setProt f r).rectRow = s.rectRow := rfl

@[simp] theorem State.setProt_rectValid (s : State) (f : FeederId) (r : Protection) :
    (s.setProt f r).rectValid = s.rectValid := rfl

@[simp] theorem State.setProt_rect (s : State) (f : FeederId) (r : Protection) :
    (s.setProt f r).rect = s.rect := rfl

@[simp] theorem State.setProt_ties (s : State) (f : FeederId) (r : Protection) :
    (s.setProt f r).ties = s.ties := rfl

@[simp] theorem State.setProt_reports (s : State) (f : FeederId) (r : Protection) :
    (s.setProt f r).reports = s.reports := rfl

@[simp] theorem State.setProt_loss (s : State) (f : FeederId) (r : Protection) :
    (s.setProt f r).loss = s.loss := rfl

@[simp] theorem State.setProt_reportRow (s : State) (f : FeederId) (r : Protection) :
    (s.setProt f r).reportRow = s.reportRow := rfl

@[simp] theorem State.setProt_slots (s : State) (f : FeederId) (r : Protection) :
    (s.setProt f r).slots = s.slots := rfl

@[simp] theorem State.setProt_simAc (s : State) (f : FeederId) (r : Protection) :
    (s.setProt f r).simAc = s.simAc := rfl

@[simp] theorem State.setProt_port (s : State) (f : FeederId) (r : Protection) (q : Port) :
    (s.setProt f r).port q = s.port q := rfl

@[simp] theorem State.setProt_tie (s : State) (f : FeederId) (r : Protection) (i : Tie) :
    (s.setProt f r).tie i = s.tie i := rfl

@[simp] theorem State.setProt_nodeRow (s : State) (f : FeederId) (r : Protection) (n : Byte) :
    (s.setProt f r).nodeRow n = s.nodeRow n := rfl

/-! setRect -/

@[simp] theorem State.setRect_pending (s : State) (r : RectRec) :
    (s.setRect r).pending = s.pending := rfl

@[simp] theorem State.setRect_freeCount (s : State) (r : RectRec) :
    (s.setRect r).freeCount = s.freeCount := rfl

@[simp] theorem State.setRect_inReset (s : State) (r : RectRec) :
    (s.setRect r).inReset = s.inReset := rfl

@[simp] theorem State.setRect_time (s : State) (r : RectRec) :
    (s.setRect r).time = s.time := rfl

@[simp] theorem State.setRect_timeValid (s : State) (r : RectRec) :
    (s.setRect r).timeValid = s.timeValid := rfl

@[simp] theorem State.setRect_mode (s : State) (r : RectRec) :
    (s.setRect r).mode = s.mode := rfl

@[simp] theorem State.setRect_key (s : State) (r : RectRec) :
    (s.setRect r).key = s.key := rfl

@[simp] theorem State.setRect_keySettled (s : State) (r : RectRec) :
    (s.setRect r).keySettled = s.keySettled := rfl

@[simp] theorem State.setRect_estop (s : State) (r : RectRec) :
    (s.setRect r).estop = s.estop := rfl

@[simp] theorem State.setRect_strapRest (s : State) (r : RectRec) :
    (s.setRect r).strapRest = s.strapRest := rfl

@[simp] theorem State.setRect_strapNode (s : State) (r : RectRec) :
    (s.setRect r).strapNode = s.strapNode := rfl

@[simp] theorem State.setRect_ownNode (s : State) (r : RectRec) :
    (s.setRect r).ownNode = s.ownNode := rfl

@[simp] theorem State.setRect_rest (s : State) (r : RectRec) :
    (s.setRect r).rest = s.rest := rfl

@[simp] theorem State.setRect_requests (s : State) (r : RectRec) :
    (s.setRect r).requests = s.requests := rfl

@[simp] theorem State.setRect_ports (s : State) (r : RectRec) :
    (s.setRect r).ports = s.ports := rfl

@[simp] theorem State.setRect_nodes (s : State) (r : RectRec) :
    (s.setRect r).nodes = s.nodes := rfl

@[simp] theorem State.setRect_feeders (s : State) (r : RectRec) :
    (s.setRect r).feeders = s.feeders := rfl

@[simp] theorem State.setRect_rectIntake (s : State) (r : RectRec) :
    (s.setRect r).rectIntake = s.rectIntake := rfl

@[simp] theorem State.setRect_rectRow (s : State) (r : RectRec) :
    (s.setRect r).rectRow = s.rectRow := rfl

@[simp] theorem State.setRect_rectValid (s : State) (r : RectRec) :
    (s.setRect r).rectValid = s.rectValid := rfl

@[simp] theorem State.setRect_ties (s : State) (r : RectRec) :
    (s.setRect r).ties = s.ties := rfl

@[simp] theorem State.setRect_reports (s : State) (r : RectRec) :
    (s.setRect r).reports = s.reports := rfl

@[simp] theorem State.setRect_loss (s : State) (r : RectRec) :
    (s.setRect r).loss = s.loss := rfl

@[simp] theorem State.setRect_reportRow (s : State) (r : RectRec) :
    (s.setRect r).reportRow = s.reportRow := rfl

@[simp] theorem State.setRect_slots (s : State) (r : RectRec) :
    (s.setRect r).slots = s.slots := rfl

@[simp] theorem State.setRect_simAc (s : State) (r : RectRec) :
    (s.setRect r).simAc = s.simAc := rfl

@[simp] theorem State.setRect_port (s : State) (r : RectRec) (q : Port) :
    (s.setRect r).port q = s.port q := rfl

@[simp] theorem State.setRect_feeder (s : State) (r : RectRec) (e : FeederId) :
    (s.setRect r).feeder e = s.feeder e := rfl

@[simp] theorem State.setRect_sq (s : State) (r : RectRec) (e : FeederId) :
    (s.setRect r).sq e = s.sq e := rfl

@[simp] theorem State.setRect_tie (s : State) (r : RectRec) (i : Tie) :
    (s.setRect r).tie i = s.tie i := rfl

@[simp] theorem State.setRect_nodeRow (s : State) (r : RectRec) (n : Byte) :
    (s.setRect r).nodeRow n = s.nodeRow n := rfl

/-! setRectIntake -/

@[simp] theorem State.setRectIntake_pending (s : State) (r : RectIntake) :
    (s.setRectIntake r).pending = s.pending := rfl

@[simp] theorem State.setRectIntake_freeCount (s : State) (r : RectIntake) :
    (s.setRectIntake r).freeCount = s.freeCount := rfl

@[simp] theorem State.setRectIntake_inReset (s : State) (r : RectIntake) :
    (s.setRectIntake r).inReset = s.inReset := rfl

@[simp] theorem State.setRectIntake_time (s : State) (r : RectIntake) :
    (s.setRectIntake r).time = s.time := rfl

@[simp] theorem State.setRectIntake_timeValid (s : State) (r : RectIntake) :
    (s.setRectIntake r).timeValid = s.timeValid := rfl

@[simp] theorem State.setRectIntake_mode (s : State) (r : RectIntake) :
    (s.setRectIntake r).mode = s.mode := rfl

@[simp] theorem State.setRectIntake_key (s : State) (r : RectIntake) :
    (s.setRectIntake r).key = s.key := rfl

@[simp] theorem State.setRectIntake_keySettled (s : State) (r : RectIntake) :
    (s.setRectIntake r).keySettled = s.keySettled := rfl

@[simp] theorem State.setRectIntake_estop (s : State) (r : RectIntake) :
    (s.setRectIntake r).estop = s.estop := rfl

@[simp] theorem State.setRectIntake_strapRest (s : State) (r : RectIntake) :
    (s.setRectIntake r).strapRest = s.strapRest := rfl

@[simp] theorem State.setRectIntake_strapNode (s : State) (r : RectIntake) :
    (s.setRectIntake r).strapNode = s.strapNode := rfl

@[simp] theorem State.setRectIntake_ownNode (s : State) (r : RectIntake) :
    (s.setRectIntake r).ownNode = s.ownNode := rfl

@[simp] theorem State.setRectIntake_rest (s : State) (r : RectIntake) :
    (s.setRectIntake r).rest = s.rest := rfl

@[simp] theorem State.setRectIntake_requests (s : State) (r : RectIntake) :
    (s.setRectIntake r).requests = s.requests := rfl

@[simp] theorem State.setRectIntake_ports (s : State) (r : RectIntake) :
    (s.setRectIntake r).ports = s.ports := rfl

@[simp] theorem State.setRectIntake_nodes (s : State) (r : RectIntake) :
    (s.setRectIntake r).nodes = s.nodes := rfl

@[simp] theorem State.setRectIntake_feeders (s : State) (r : RectIntake) :
    (s.setRectIntake r).feeders = s.feeders := rfl

@[simp] theorem State.setRectIntake_rectRow (s : State) (r : RectIntake) :
    (s.setRectIntake r).rectRow = s.rectRow := rfl

@[simp] theorem State.setRectIntake_rectValid (s : State) (r : RectIntake) :
    (s.setRectIntake r).rectValid = s.rectValid := rfl

@[simp] theorem State.setRectIntake_rect (s : State) (r : RectIntake) :
    (s.setRectIntake r).rect = s.rect := rfl

@[simp] theorem State.setRectIntake_ties (s : State) (r : RectIntake) :
    (s.setRectIntake r).ties = s.ties := rfl

@[simp] theorem State.setRectIntake_reports (s : State) (r : RectIntake) :
    (s.setRectIntake r).reports = s.reports := rfl

@[simp] theorem State.setRectIntake_loss (s : State) (r : RectIntake) :
    (s.setRectIntake r).loss = s.loss := rfl

@[simp] theorem State.setRectIntake_reportRow (s : State) (r : RectIntake) :
    (s.setRectIntake r).reportRow = s.reportRow := rfl

@[simp] theorem State.setRectIntake_slots (s : State) (r : RectIntake) :
    (s.setRectIntake r).slots = s.slots := rfl

@[simp] theorem State.setRectIntake_simAc (s : State) (r : RectIntake) :
    (s.setRectIntake r).simAc = s.simAc := rfl

@[simp] theorem State.setRectIntake_port (s : State) (r : RectIntake) (q : Port) :
    (s.setRectIntake r).port q = s.port q := rfl

@[simp] theorem State.setRectIntake_feeder (s : State) (r : RectIntake) (e : FeederId) :
    (s.setRectIntake r).feeder e = s.feeder e := rfl

@[simp] theorem State.setRectIntake_sq (s : State) (r : RectIntake) (e : FeederId) :
    (s.setRectIntake r).sq e = s.sq e := rfl

@[simp] theorem State.setRectIntake_tie (s : State) (r : RectIntake) (i : Tie) :
    (s.setRectIntake r).tie i = s.tie i := rfl

@[simp] theorem State.setRectIntake_nodeRow (s : State) (r : RectIntake) (n : Byte) :
    (s.setRectIntake r).nodeRow n = s.nodeRow n := rfl

/-! setTie -/

@[simp] theorem State.setTie_pending (s : State) (t : Tie) (r : TieRec) :
    (s.setTie t r).pending = s.pending := rfl

@[simp] theorem State.setTie_freeCount (s : State) (t : Tie) (r : TieRec) :
    (s.setTie t r).freeCount = s.freeCount := rfl

@[simp] theorem State.setTie_inReset (s : State) (t : Tie) (r : TieRec) :
    (s.setTie t r).inReset = s.inReset := rfl

@[simp] theorem State.setTie_time (s : State) (t : Tie) (r : TieRec) :
    (s.setTie t r).time = s.time := rfl

@[simp] theorem State.setTie_timeValid (s : State) (t : Tie) (r : TieRec) :
    (s.setTie t r).timeValid = s.timeValid := rfl

@[simp] theorem State.setTie_mode (s : State) (t : Tie) (r : TieRec) :
    (s.setTie t r).mode = s.mode := rfl

@[simp] theorem State.setTie_key (s : State) (t : Tie) (r : TieRec) :
    (s.setTie t r).key = s.key := rfl

@[simp] theorem State.setTie_keySettled (s : State) (t : Tie) (r : TieRec) :
    (s.setTie t r).keySettled = s.keySettled := rfl

@[simp] theorem State.setTie_estop (s : State) (t : Tie) (r : TieRec) :
    (s.setTie t r).estop = s.estop := rfl

@[simp] theorem State.setTie_strapRest (s : State) (t : Tie) (r : TieRec) :
    (s.setTie t r).strapRest = s.strapRest := rfl

@[simp] theorem State.setTie_strapNode (s : State) (t : Tie) (r : TieRec) :
    (s.setTie t r).strapNode = s.strapNode := rfl

@[simp] theorem State.setTie_ownNode (s : State) (t : Tie) (r : TieRec) :
    (s.setTie t r).ownNode = s.ownNode := rfl

@[simp] theorem State.setTie_rest (s : State) (t : Tie) (r : TieRec) :
    (s.setTie t r).rest = s.rest := rfl

@[simp] theorem State.setTie_requests (s : State) (t : Tie) (r : TieRec) :
    (s.setTie t r).requests = s.requests := rfl

@[simp] theorem State.setTie_ports (s : State) (t : Tie) (r : TieRec) :
    (s.setTie t r).ports = s.ports := rfl

@[simp] theorem State.setTie_nodes (s : State) (t : Tie) (r : TieRec) :
    (s.setTie t r).nodes = s.nodes := rfl

@[simp] theorem State.setTie_feeders (s : State) (t : Tie) (r : TieRec) :
    (s.setTie t r).feeders = s.feeders := rfl

@[simp] theorem State.setTie_rectIntake (s : State) (t : Tie) (r : TieRec) :
    (s.setTie t r).rectIntake = s.rectIntake := rfl

@[simp] theorem State.setTie_rectRow (s : State) (t : Tie) (r : TieRec) :
    (s.setTie t r).rectRow = s.rectRow := rfl

@[simp] theorem State.setTie_rectValid (s : State) (t : Tie) (r : TieRec) :
    (s.setTie t r).rectValid = s.rectValid := rfl

@[simp] theorem State.setTie_rect (s : State) (t : Tie) (r : TieRec) :
    (s.setTie t r).rect = s.rect := rfl

@[simp] theorem State.setTie_reports (s : State) (t : Tie) (r : TieRec) :
    (s.setTie t r).reports = s.reports := rfl

@[simp] theorem State.setTie_loss (s : State) (t : Tie) (r : TieRec) :
    (s.setTie t r).loss = s.loss := rfl

@[simp] theorem State.setTie_reportRow (s : State) (t : Tie) (r : TieRec) :
    (s.setTie t r).reportRow = s.reportRow := rfl

@[simp] theorem State.setTie_slots (s : State) (t : Tie) (r : TieRec) :
    (s.setTie t r).slots = s.slots := rfl

@[simp] theorem State.setTie_simAc (s : State) (t : Tie) (r : TieRec) :
    (s.setTie t r).simAc = s.simAc := rfl

@[simp] theorem State.setTie_port (s : State) (t : Tie) (r : TieRec) (q : Port) :
    (s.setTie t r).port q = s.port q := rfl

@[simp] theorem State.setTie_feeder (s : State) (t : Tie) (r : TieRec) (e : FeederId) :
    (s.setTie t r).feeder e = s.feeder e := rfl

@[simp] theorem State.setTie_sq (s : State) (t : Tie) (r : TieRec) (e : FeederId) :
    (s.setTie t r).sq e = s.sq e := rfl

@[simp] theorem State.setTie_nodeRow (s : State) (t : Tie) (r : TieRec) (n : Byte) :
    (s.setTie t r).nodeRow n = s.nodeRow n := rfl

/-! setSlot -/

@[simp] theorem State.setSlot_pending (s : State) (k : SlotId) (c : Slot) :
    (s.setSlot k c).pending = s.pending := rfl

@[simp] theorem State.setSlot_freeCount (s : State) (k : SlotId) (c : Slot) :
    (s.setSlot k c).freeCount = s.freeCount := rfl

@[simp] theorem State.setSlot_inReset (s : State) (k : SlotId) (c : Slot) :
    (s.setSlot k c).inReset = s.inReset := rfl

@[simp] theorem State.setSlot_time (s : State) (k : SlotId) (c : Slot) :
    (s.setSlot k c).time = s.time := rfl

@[simp] theorem State.setSlot_timeValid (s : State) (k : SlotId) (c : Slot) :
    (s.setSlot k c).timeValid = s.timeValid := rfl

@[simp] theorem State.setSlot_mode (s : State) (k : SlotId) (c : Slot) :
    (s.setSlot k c).mode = s.mode := rfl

@[simp] theorem State.setSlot_key (s : State) (k : SlotId) (c : Slot) :
    (s.setSlot k c).key = s.key := rfl

@[simp] theorem State.setSlot_keySettled (s : State) (k : SlotId) (c : Slot) :
    (s.setSlot k c).keySettled = s.keySettled := rfl

@[simp] theorem State.setSlot_estop (s : State) (k : SlotId) (c : Slot) :
    (s.setSlot k c).estop = s.estop := rfl

@[simp] theorem State.setSlot_strapRest (s : State) (k : SlotId) (c : Slot) :
    (s.setSlot k c).strapRest = s.strapRest := rfl

@[simp] theorem State.setSlot_strapNode (s : State) (k : SlotId) (c : Slot) :
    (s.setSlot k c).strapNode = s.strapNode := rfl

@[simp] theorem State.setSlot_ownNode (s : State) (k : SlotId) (c : Slot) :
    (s.setSlot k c).ownNode = s.ownNode := rfl

@[simp] theorem State.setSlot_rest (s : State) (k : SlotId) (c : Slot) :
    (s.setSlot k c).rest = s.rest := rfl

@[simp] theorem State.setSlot_requests (s : State) (k : SlotId) (c : Slot) :
    (s.setSlot k c).requests = s.requests := rfl

@[simp] theorem State.setSlot_ports (s : State) (k : SlotId) (c : Slot) :
    (s.setSlot k c).ports = s.ports := rfl

@[simp] theorem State.setSlot_nodes (s : State) (k : SlotId) (c : Slot) :
    (s.setSlot k c).nodes = s.nodes := rfl

@[simp] theorem State.setSlot_feeders (s : State) (k : SlotId) (c : Slot) :
    (s.setSlot k c).feeders = s.feeders := rfl

@[simp] theorem State.setSlot_rectIntake (s : State) (k : SlotId) (c : Slot) :
    (s.setSlot k c).rectIntake = s.rectIntake := rfl

@[simp] theorem State.setSlot_rectRow (s : State) (k : SlotId) (c : Slot) :
    (s.setSlot k c).rectRow = s.rectRow := rfl

@[simp] theorem State.setSlot_rectValid (s : State) (k : SlotId) (c : Slot) :
    (s.setSlot k c).rectValid = s.rectValid := rfl

@[simp] theorem State.setSlot_rect (s : State) (k : SlotId) (c : Slot) :
    (s.setSlot k c).rect = s.rect := rfl

@[simp] theorem State.setSlot_ties (s : State) (k : SlotId) (c : Slot) :
    (s.setSlot k c).ties = s.ties := rfl

@[simp] theorem State.setSlot_reports (s : State) (k : SlotId) (c : Slot) :
    (s.setSlot k c).reports = s.reports := rfl

@[simp] theorem State.setSlot_loss (s : State) (k : SlotId) (c : Slot) :
    (s.setSlot k c).loss = s.loss := rfl

@[simp] theorem State.setSlot_reportRow (s : State) (k : SlotId) (c : Slot) :
    (s.setSlot k c).reportRow = s.reportRow := rfl

@[simp] theorem State.setSlot_simAc (s : State) (k : SlotId) (c : Slot) :
    (s.setSlot k c).simAc = s.simAc := rfl

@[simp] theorem State.setSlot_port (s : State) (k : SlotId) (c : Slot) (q : Port) :
    (s.setSlot k c).port q = s.port q := rfl

@[simp] theorem State.setSlot_feeder (s : State) (k : SlotId) (c : Slot) (e : FeederId) :
    (s.setSlot k c).feeder e = s.feeder e := rfl

@[simp] theorem State.setSlot_sq (s : State) (k : SlotId) (c : Slot) (e : FeederId) :
    (s.setSlot k c).sq e = s.sq e := rfl

@[simp] theorem State.setSlot_tie (s : State) (k : SlotId) (c : Slot) (i : Tie) :
    (s.setSlot k c).tie i = s.tie i := rfl

@[simp] theorem State.setSlot_nodeRow (s : State) (k : SlotId) (c : Slot) (n : Byte) :
    (s.setSlot k c).nodeRow n = s.nodeRow n := rfl

/-! Reading back what was written -/

@[simp] theorem State.setPort_port_same (s : State) (p : Port) (r : PortRec) :
    (s.setPort p r).port p = r := PerPort.get_set_same _ _ _

theorem State.setPort_port_ne (s : State) {p q : Port} (r : PortRec) (h : q ≠ p) :
    (s.setPort p r).port q = s.port q := PerPort.get_set_ne _ _ h

@[simp] theorem State.setFeeder_feeder_same (s : State) (f : FeederId) (u : FeederUnit) :
    (s.setFeeder f u).feeder f = u := PerFeeder.get_set_same _ _ _

theorem State.setFeeder_feeder_ne (s : State) {f e : FeederId} (u : FeederUnit) (h : e ≠ f) :
    (s.setFeeder f u).feeder e = s.feeder e := PerFeeder.get_set_ne _ _ h

@[simp] theorem State.setFeeder_sq_same (s : State) (f : FeederId) (u : FeederUnit) :
    (s.setFeeder f u).sq f = u.sq := by simp [State.sq]

theorem State.setFeeder_sq_ne (s : State) {f e : FeederId} (u : FeederUnit) (h : e ≠ f) :
    (s.setFeeder f u).sq e = s.sq e := by simp [State.sq, State.setFeeder_feeder_ne s u h]

@[simp] theorem State.setSq_feeder_same (s : State) (f : FeederId) (r : FeederRec) :
    (s.setSq f r).feeder f = { s.feeder f with sq := r } := State.setFeeder_feeder_same _ _ _

theorem State.setSq_feeder_ne (s : State) {f e : FeederId} (r : FeederRec) (h : e ≠ f) :
    (s.setSq f r).feeder e = s.feeder e := State.setFeeder_feeder_ne _ _ h

@[simp] theorem State.setSq_sq_same (s : State) (f : FeederId) (r : FeederRec) :
    (s.setSq f r).sq f = r := by simp [State.sq]

theorem State.setSq_sq_ne (s : State) {f e : FeederId} (r : FeederRec) (h : e ≠ f) :
    (s.setSq f r).sq e = s.sq e := by simp [State.sq, State.setSq_feeder_ne s r h]

@[simp] theorem State.setIntake_feeder_same (s : State) (f : FeederId) (k : FeederIntake) :
    (s.setIntake f k).feeder f = { s.feeder f with intake := k } := State.setFeeder_feeder_same _ _ _

theorem State.setIntake_feeder_ne (s : State) {f e : FeederId} (k : FeederIntake) (h : e ≠ f) :
    (s.setIntake f k).feeder e = s.feeder e := State.setFeeder_feeder_ne _ _ h

@[simp] theorem State.setIntake_sq (s : State) (f : FeederId) (k : FeederIntake) (e : FeederId) :
    (s.setIntake f k).sq e = s.sq e := by
  by_cases h : e = f
  · subst h; simp [State.sq]
  · simp [State.sq, State.setIntake_feeder_ne s k h]

@[simp] theorem State.setProt_feeder_same (s : State) (f : FeederId) (r : Protection) :
    (s.setProt f r).feeder f = { s.feeder f with prot := r } := State.setFeeder_feeder_same _ _ _

theorem State.setProt_feeder_ne (s : State) {f e : FeederId} (r : Protection) (h : e ≠ f) :
    (s.setProt f r).feeder e = s.feeder e := State.setFeeder_feeder_ne _ _ h

@[simp] theorem State.setProt_sq (s : State) (f : FeederId) (r : Protection) (e : FeederId) :
    (s.setProt f r).sq e = s.sq e := by
  by_cases h : e = f
  · subst h; simp [State.sq]
  · simp [State.sq, State.setProt_feeder_ne s r h]

@[simp] theorem State.setRect_rect (s : State) (r : RectRec) : (s.setRect r).rect = r := rfl

@[simp] theorem State.setRectIntake_rectIntake (s : State) (r : RectIntake) :
    (s.setRectIntake r).rectIntake = r := rfl

@[simp] theorem State.setTie_tie_same (s : State) (t : Tie) (r : TieRec) : (s.setTie t r).tie t = r :=
  PerTie.get_set_same _ _ _

theorem State.setTie_tie_ne (s : State) {t i : Tie} (r : TieRec) (h : i ≠ t) :
    (s.setTie t r).tie i = s.tie i := PerTie.get_set_ne _ _ h

/-! Writing back what was read, and writing twice -/

@[simp] theorem State.setPort_self (s : State) (p : Port) : s.setPort p (s.port p) = s := by
  simp [State.setPort, State.port]

@[simp] theorem State.setPort_setPort (s : State) (p : Port) (r q : PortRec) :
    (s.setPort p r).setPort p q = s.setPort p q := by simp [State.setPort]

@[simp] theorem State.setFeeder_self (s : State) (f : FeederId) : s.setFeeder f (s.feeder f) = s := by
  simp [State.setFeeder, State.feeder]

@[simp] theorem State.setFeeder_setFeeder (s : State) (f : FeederId) (u v : FeederUnit) :
    (s.setFeeder f u).setFeeder f v = s.setFeeder f v := by simp [State.setFeeder]

@[simp] theorem State.setSq_setSq (s : State) (f : FeederId) (r q : FeederRec) :
    (s.setSq f r).setSq f q = s.setSq f q := by simp [State.setSq]

@[simp] theorem State.setRect_setRect (s : State) (r q : RectRec) :
    (s.setRect r).setRect q = s.setRect q := rfl

@[simp] theorem State.setTie_self (s : State) (t : Tie) : s.setTie t (s.tie t) = s := by
  simp [State.setTie, State.tie]

@[simp] theorem State.setTie_setTie (s : State) (t : Tie) (r q : TieRec) :
    (s.setTie t r).setTie t q = s.setTie t q := by simp [State.setTie]

end Machine

end Sys2Proof
end

