-- ==== Sys2Proof/Laws/Ops.lean ====
section
/-! SUPPORT. What each shared operation of Machine/Ops.lean does, said once: reports, queues, the arbiter,
frames offered, commands to the plant, and serving every feeder. -/

namespace Sys2Proof.Machine

/-! Reports -/

@[simp] theorem submit_pending (k : ReportKind) (src : Source) (c : Option Cause) (v w : Option Int)
    (s : State) : (submit k src c v w s).pending = s.pending := by unfold submit; split <;> rfl

@[simp] theorem submit_freeCount (k : ReportKind) (src : Source) (c : Option Cause) (v w : Option Int)
    (s : State) : (submit k src c v w s).freeCount = s.freeCount := by unfold submit; split <;> rfl

@[simp] theorem submit_inReset (k : ReportKind) (src : Source) (c : Option Cause) (v w : Option Int)
    (s : State) : (submit k src c v w s).inReset = s.inReset := by unfold submit; split <;> rfl

@[simp] theorem submit_time (k : ReportKind) (src : Source) (c : Option Cause) (v w : Option Int)
    (s : State) : (submit k src c v w s).time = s.time := by unfold submit; split <;> rfl

@[simp] theorem submit_timeValid (k : ReportKind) (src : Source) (c : Option Cause) (v w : Option Int)
    (s : State) : (submit k src c v w s).timeValid = s.timeValid := by unfold submit; split <;> rfl

@[simp] theorem submit_mode (k : ReportKind) (src : Source) (c : Option Cause) (v w : Option Int)
    (s : State) : (submit k src c v w s).mode = s.mode := by unfold submit; split <;> rfl

@[simp] theorem submit_key (k : ReportKind) (src : Source) (c : Option Cause) (v w : Option Int)
    (s : State) : (submit k src c v w s).key = s.key := by unfold submit; split <;> rfl

@[simp] theorem submit_keySettled (k : ReportKind) (src : Source) (c : Option Cause) (v w : Option Int)
    (s : State) : (submit k src c v w s).keySettled = s.keySettled := by unfold submit; split <;> rfl

@[simp] theorem submit_estop (k : ReportKind) (src : Source) (c : Option Cause) (v w : Option Int)
    (s : State) : (submit k src c v w s).estop = s.estop := by unfold submit; split <;> rfl

@[simp] theorem submit_strapRest (k : ReportKind) (src : Source) (c : Option Cause) (v w : Option Int)
    (s : State) : (submit k src c v w s).strapRest = s.strapRest := by unfold submit; split <;> rfl

@[simp] theorem submit_strapNode (k : ReportKind) (src : Source) (c : Option Cause) (v w : Option Int)
    (s : State) : (submit k src c v w s).strapNode = s.strapNode := by unfold submit; split <;> rfl

@[simp] theorem submit_ownNode (k : ReportKind) (src : Source) (c : Option Cause) (v w : Option Int)
    (s : State) : (submit k src c v w s).ownNode = s.ownNode := by unfold submit; split <;> rfl

@[simp] theorem submit_rest (k : ReportKind) (src : Source) (c : Option Cause) (v w : Option Int)
    (s : State) : (submit k src c v w s).rest = s.rest := by unfold submit; split <;> rfl

@[simp] theorem submit_requests (k : ReportKind) (src : Source) (c : Option Cause) (v w : Option Int)
    (s : State) : (submit k src c v w s).requests = s.requests := by unfold submit; split <;> rfl

@[simp] theorem submit_ports (k : ReportKind) (src : Source) (c : Option Cause) (v w : Option Int)
    (s : State) : (submit k src c v w s).ports = s.ports := by unfold submit; split <;> rfl

@[simp] theorem submit_nodes (k : ReportKind) (src : Source) (c : Option Cause) (v w : Option Int)
    (s : State) : (submit k src c v w s).nodes = s.nodes := by unfold submit; split <;> rfl

@[simp] theorem submit_feeders (k : ReportKind) (src : Source) (c : Option Cause) (v w : Option Int)
    (s : State) : (submit k src c v w s).feeders = s.feeders := by unfold submit; split <;> rfl

@[simp] theorem submit_rectIntake (k : ReportKind) (src : Source) (c : Option Cause) (v w : Option Int)
    (s : State) : (submit k src c v w s).rectIntake = s.rectIntake := by unfold submit; split <;> rfl

@[simp] theorem submit_rectRow (k : ReportKind) (src : Source) (c : Option Cause) (v w : Option Int)
    (s : State) : (submit k src c v w s).rectRow = s.rectRow := by unfold submit; split <;> rfl

@[simp] theorem submit_rectValid (k : ReportKind) (src : Source) (c : Option Cause) (v w : Option Int)
    (s : State) : (submit k src c v w s).rectValid = s.rectValid := by unfold submit; split <;> rfl

@[simp] theorem submit_rect (k : ReportKind) (src : Source) (c : Option Cause) (v w : Option Int)
    (s : State) : (submit k src c v w s).rect = s.rect := by unfold submit; split <;> rfl

@[simp] theorem submit_ties (k : ReportKind) (src : Source) (c : Option Cause) (v w : Option Int)
    (s : State) : (submit k src c v w s).ties = s.ties := by unfold submit; split <;> rfl

@[simp] theorem submit_reportRow (k : ReportKind) (src : Source) (c : Option Cause) (v w : Option Int)
    (s : State) : (submit k src c v w s).reportRow = s.reportRow := by unfold submit; split <;> rfl

@[simp] theorem submit_slots (k : ReportKind) (src : Source) (c : Option Cause) (v w : Option Int)
    (s : State) : (submit k src c v w s).slots = s.slots := by unfold submit; split <;> rfl

@[simp] theorem submit_simAc (k : ReportKind) (src : Source) (c : Option Cause) (v w : Option Int)
    (s : State) : (submit k src c v w s).simAc = s.simAc := by unfold submit; split <;> rfl

@[simp] theorem submit_port (k : ReportKind) (src : Source) (c : Option Cause) (v w : Option Int)
    (s : State) (p : Port) : (submit k src c v w s).port p = s.port p := by unfold submit; split <;> rfl

@[simp] theorem submit_feeder (k : ReportKind) (src : Source) (c : Option Cause) (v w : Option Int)
    (s : State) (f : FeederId) : (submit k src c v w s).feeder f = s.feeder f := by unfold submit; split <;> rfl

@[simp] theorem submit_sq (k : ReportKind) (src : Source) (c : Option Cause) (v w : Option Int)
    (s : State) (f : FeederId) : (submit k src c v w s).sq f = s.sq f := by unfold submit; split <;> rfl

@[simp] theorem submit_tie (k : ReportKind) (src : Source) (c : Option Cause) (v w : Option Int)
    (s : State) (t : Tie) : (submit k src c v w s).tie t = s.tie t := by unfold submit; split <;> rfl

@[simp] theorem submit_nodeRow (k : ReportKind) (src : Source) (c : Option Cause) (v w : Option Int)
    (s : State) (n : Byte) : (submit k src c v w s).nodeRow n = s.nodeRow n := by unfold submit; split <;> rfl

/-- A submission changes the report queue and the loss count alone (R161, R164). -/
theorem submit_frame (k : ReportKind) (src : Source) (c : Option Cause) (v w : Option Int) (s : State) :
    (submit k src c v w s).putReports s = s := by
  unfold submit State.putReports; split <;> rfl

/-- The queue and the loss count after a submission depend on the queue, the loss count, the time and its
flag alone (R161, R164). -/
theorem submit_congr (k : ReportKind) (src : Source) (c : Option Cause) (v w : Option Int) {s t : State}
    (hr : s.reports = t.reports) (hl : s.loss = t.loss) (ht : s.time = t.time)
    (hv : s.timeValid = t.timeValid) :
    (submit k src c v w s).reports = (submit k src c v w t).reports
      ∧ (submit k src c v w s).loss = (submit k src c v w t).loss := by
  unfold submit reportStamp
  rw [hr, hl, ht, hv]
  split <;> exact ⟨rfl, rfl⟩

theorem submit_of_room (k : ReportKind) (src : Source) (c : Option Cause) (v w : Option Int) {s : State}
    (h : s.reports.length < 64) :
    (submit k src c v w s).reports =
      s.reports ++
        [{ record :=
             { time := reportStamp s, timeValid := s.timeValid, kind := k, source := src, cause := c
               value1 := v, value2 := w, lostBefore := if s.loss = 0 then none else some s.loss }
           age := 0 }]
      ∧ (submit k src c v w s).loss = 0 := by
  have h' : s.reports.length < Config.reportCapacity := h
  unfold submit
  rw [if_pos h']
  exact ⟨rfl, rfl⟩

theorem submit_of_full (k : ReportKind) (src : Source) (c : Option Cause) (v w : Option Int) {s : State}
    (h : 64 ≤ s.reports.length) :
    (submit k src c v w s).reports = s.reports
      ∧ (submit k src c v w s).loss = satInc 255 s.loss := by
  have h' : ¬ s.reports.length < Config.reportCapacity := Nat.not_lt.mpr h
  unfold submit
  rw [if_neg h']
  exact ⟨rfl, rfl⟩

theorem submit_length_le (k : ReportKind) (src : Source) (c : Option Cause) (v w : Option Int)
    {s : State} (h : s.reports.length ≤ 64) : (submit k src c v w s).reports.length ≤ 64 := by
  by_cases hr : s.reports.length < 64
  · rw [(submit_of_room k src c v w hr).1]; simp; omega
  · rw [(submit_of_full k src c v w (Nat.not_lt.mp hr)).1]; exact h

/-! Counts and clamps -/

theorem satInc_eq_min {top n : Nat} (h : n ≤ top) : satInc top n = min top (n + 1) := by
  unfold satInc; split <;> omega

theorem satInc_le {top n : Nat} (h : n ≤ top) : satInc top n ≤ top := by
  unfold satInc; split <;> omega

theorem clampInt_bounds {lo hi : Int} (x : Int) (h : lo ≤ hi) :
    lo ≤ clampInt lo hi x ∧ clampInt lo hi x ≤ hi := by
  unfold clampInt; split
  · omega
  · split <;> omega

theorem clampInt_of_mem {lo hi x : Int} (h1 : lo ≤ x) (h2 : x ≤ hi) : clampInt lo hi x = x := by
  unfold clampInt; split
  · omega
  · split <;> omega

/-! Queues -/

theorem replaceFirst_length {test : Frame → Bool} {new : Frame} {q r : List Frame}
    (h : replaceFirst test new q = some r) : r.length = q.length := by
  induction q generalizing r with
  | nil => simp [replaceFirst] at h
  | cons a q ih =>
    simp only [replaceFirst] at h
    split at h
    · cases h; rfl
    · obtain ⟨r', hr, rfl⟩ := Option.map_eq_some_iff.mp h
      simp [ih hr]

theorem replaceFirst_append {test : Frame → Bool} {new old : Frame} {a : List Frame} (b : List Frame)
    (ha : ∀ x ∈ a, test x = false) (ho : test old = true) :
    replaceFirst test new (a ++ old :: b) = some (a ++ new :: b) := by
  induction a with
  | nil => simp [replaceFirst, ho]
  | cons x a ih =>
    have hx := ha x (by simp)
    simp [replaceFirst, hx, ih fun y hy => ha y (by simp [hy])]

theorem replaceFirst_eq_none {test : Frame → Bool} {new : Frame} {a : List Frame} :
    replaceFirst test new a = none ↔ ∀ x ∈ a, test x = false := by
  induction a with
  | nil => simp [replaceFirst]
  | cons x a ih =>
    by_cases hx : test x = true
    · simp [replaceFirst, hx]
    · have hx' : test x = false := by simpa using hx
      simp [replaceFirst, hx', ih]

theorem removeFirst_length {test : Frame → Bool} {q r : List Frame} (h : removeFirst test q = some r) :
    r.length + 1 = q.length := by
  induction q generalizing r with
  | nil => simp [removeFirst] at h
  | cons a q ih =>
    simp only [removeFirst] at h
    split at h
    · cases h; rfl
    · obtain ⟨r', hr, rfl⟩ := Option.map_eq_some_iff.mp h
      simpa using ih hr

theorem removeFirst_append {test : Frame → Bool} {old : Frame} {a : List Frame} (b : List Frame)
    (ha : ∀ x ∈ a, test x = false) (ho : test old = true) :
    removeFirst test (a ++ old :: b) = some (a ++ b) := by
  induction a with
  | nil => simp [removeFirst, ho]
  | cons x a ih =>
    have hx := ha x (by simp)
    simp [removeFirst, hx, ih fun y hy => ha y (by simp [hy])]

theorem removeFirst_eq_none {test : Frame → Bool} {a : List Frame} :
    removeFirst test a = none ↔ ∀ x ∈ a, test x = false := by
  induction a with
  | nil => simp [removeFirst]
  | cons x a ih =>
    by_cases hx : test x = true
    · simp [removeFirst, hx]
    · have hx' : test x = false := by simpa using hx
      simp [removeFirst, hx', ih]

theorem offeredCommand_length_le {c : FieldCommand} {frame : Frame} {q : List Frame}
    (h : q.length ≤ 24) : (offeredCommand c frame q).length ≤ 24 := by
  unfold offeredCommand
  split
  · next r hr => rw [replaceFirst_length hr]; exact h
  · split
    · next hl => simp [Config.urgentCapacity] at hl ⊢; omega
    · exact h

theorem offeredTie_length_le {m : TieMsg} {frame : Frame} {q : List Frame} (h : q.length ≤ 24) :
    (offeredTie m frame q).length ≤ 24 := by
  unfold offeredTie
  split
  · next r hr => rw [replaceFirst_length hr]; exact h
  split
  · next hl => simp [Config.urgentCapacity] at hl ⊢; omega
  split
  · exact h
  split
  · next r hr => have := removeFirst_length hr; simp; omega
  split
  · next r hr => have := removeFirst_length hr; simp; omega
  · exact h

/-! The arbiter -/

/-- The four things the arbiter can do with a port record (R11). -/
theorem PortRec.arbitrate_cases (r : PortRec) :
    ((r.state = .lost ∨ r.sending.isSome) ∧ r.arbitrate = r)
      ∨ (r.state ≠ .lost ∧ r.sending = none
          ∧ ((∃ f rest, r.urgent = f :: rest
                ∧ r.arbitrate = { r with urgent := rest, sending := some f })
            ∨ (∃ f rest, r.urgent = [] ∧ r.normal = f :: rest
                ∧ r.arbitrate = { r with normal := rest, sending := some f })
            ∨ (r.urgent = [] ∧ r.normal = [] ∧ r.arbitrate = r))) := by
  by_cases h : r.state = .lost ∨ r.sending.isSome
  · exact .inl ⟨h, by simp [PortRec.arbitrate, h]⟩
  · obtain ⟨hs, hn⟩ := not_or.mp h
    have hn' : r.sending = none := by simpa using hn
    refine .inr ⟨hs, hn', ?_⟩
    cases hu : r.urgent with
    | cons f rest => exact .inl ⟨f, rest, rfl, by simp [PortRec.arbitrate, hs, hn', hu]⟩
    | nil =>
      cases hm : r.normal with
      | cons f rest => exact .inr (.inl ⟨f, rest, rfl, rfl, by simp [PortRec.arbitrate, hs, hn', hu, hm]⟩)
      | nil => exact .inr (.inr ⟨rfl, rfl, by simp [PortRec.arbitrate, hs, hn', hu, hm]⟩)

@[simp] theorem PortRec.arbitrate_state (r : PortRec) : r.arbitrate.state = r.state := by
  unfold PortRec.arbitrate; split
  · rfl
  · split <;> rfl

@[simp] theorem PortRec.arbitrate_recovery (r : PortRec) : r.arbitrate.recovery = r.recovery := by
  unfold PortRec.arbitrate; split
  · rfl
  · split <;> rfl

@[simp] theorem PortRec.arbitrate_errorCount (r : PortRec) : r.arbitrate.errorCount = r.errorCount := by
  unfold PortRec.arbitrate; split
  · rfl
  · split <;> rfl

@[simp] theorem PortRec.arbitrate_recoveryCount (r : PortRec) : r.arbitrate.recoveryCount = r.recoveryCount := by
  unfold PortRec.arbitrate; split
  · rfl
  · split <;> rfl

@[simp] theorem PortRec.arbitrate_lastError (r : PortRec) : r.arbitrate.lastError = r.lastError := by
  unfold PortRec.arbitrate; split
  · rfl
  · split <;> rfl

@[simp] theorem PortRec.arbitrate_rejected (r : PortRec) : r.arbitrate.rejected = r.rejected := by
  unfold PortRec.arbitrate; split
  · rfl
  · split <;> rfl

@[simp] theorem PortRec.arbitrate_forwardedDrop (r : PortRec) : r.arbitrate.forwardedDrop = r.forwardedDrop := by
  unfold PortRec.arbitrate; split
  · rfl
  · split <;> rfl

@[simp] theorem PortRec.arbitrate_nextSeq (r : PortRec) : r.arbitrate.nextSeq = r.nextSeq := by
  unfold PortRec.arbitrate; split
  · rfl
  · split <;> rfl

theorem PortRec.arbitrate_urgent_sublist (r : PortRec) : r.arbitrate.urgent.Sublist r.urgent := by
  rcases r.arbitrate_cases with ⟨_, h⟩ | ⟨_, _, ⟨f, rest, hu, h⟩ | ⟨f, rest, _, _, h⟩ | ⟨_, _, h⟩⟩ <;>
    rw [h] <;> simp [*]

theorem PortRec.arbitrate_normal_sublist (r : PortRec) : r.arbitrate.normal.Sublist r.normal := by
  rcases r.arbitrate_cases with ⟨_, h⟩ | ⟨_, _, ⟨f, rest, hu, h⟩ | ⟨f, rest, _, hn, h⟩ | ⟨_, _, h⟩⟩ <;>
    rw [h] <;> simp [*]

/-- The arbiter changes the record of its port alone (R11). -/
theorem arbitrate_eq (p : Port) (s : State) : arbitrate p s = s.setPort p (s.port p).arbitrate := rfl

/-! Frames offered: each is a change of one port record -/

theorem reject_eq (p : Port) (s : State) :
    reject p s = s.setPort p { s.port p with rejected := satInc 65535 (s.port p).rejected } := rfl

theorem offerForwarded_eq (p : Port) (frame : Frame) (s : State) :
    offerForwarded p frame s =
      s.setPort p
        (if (s.port p).normal.length < 32 then
          { s.port p with normal := (s.port p).normal ++ [frame] }.arbitrate
        else { s.port p with forwardedDrop := satInc 65535 (s.port p).forwardedDrop }) := by
  by_cases h : (s.port p).normal.length < 32 <;>
    simp [offerForwarded, arbitrate, Config.normalCapacity, h]

theorem offerReplyFrame_eq (p : Port) (dest : Byte) (reply : Reply) (s : State) :
    offerReplyFrame p dest reply s =
      s.setPort p
        (PortRec.arbitrate
          { s.port p with
            nextSeq := (s.port p).nextSeq + 1#8
            normal :=
              if (s.port p).normal.length < 32 then
                (s.port p).normal ++ [originated s p .reply dest (.reply reply)]
              else (s.port p).normal }) := by
  simp only [offerReplyFrame, arbitrate, advanceSeq, State.setPort_port_same, State.setPort_setPort]
  rfl

theorem offerTie_eq (t : Tie) (m : TieMsg) (s : State) :
    offerTie t m s =
      s.setPort t.port
        (PortRec.arbitrate
          { s.port t.port with
            urgent :=
              offeredTie m (originated s t.port .tie 63#8 (.tie m)) (s.port t.port).urgent
            nextSeq := (s.port t.port).nextSeq + 1#8 }) := by
  simp [offerTie, arbitrate, advanceSeq]

theorem offerCommandFrame_eq (dest : Byte) (c : FieldCommand) (s : State) :
    offerCommandFrame dest c s =
      s.setPort .fp
        (PortRec.arbitrate
          { s.port .fp with
            urgent :=
              offeredCommand c (originated s .fp .command dest (.command c)) (s.port .fp).urgent
            nextSeq := (s.port .fp).nextSeq + 1#8 }) := by
  simp [offerCommandFrame, arbitrate, advanceSeq]

/-! Commands to the plant -/

/-- Outside REPLAY a command changes the record of the field port at most (R13, R120). -/
theorem offerField_port_only {c : FieldCommand} {s : State} (h : s.mode ≠ .replay) :
    ∃ r, offerField c s = s.setPort .fp r := by
  simp only [offerField, h, if_false]
  split
  · exact ⟨_, offerCommandFrame_eq _ _ _⟩
  · exact ⟨s.port .fp, by simp⟩

/-- In REPLAY a command goes to the plant simulation (R184). -/
theorem offerField_replay {c : FieldCommand} {s : State} (h : s.mode = .replay) :
    offerField c s = simCommand c s := by simp [offerField, h]

@[simp] theorem offerField_pending (c : FieldCommand) (s : State) : (offerField c s).pending = s.pending := by
  by_cases h : s.mode = .replay
  · rw [offerField_replay h]; cases c <;> rfl
  · obtain ⟨r, hr⟩ := offerField_port_only (c := c) h; rw [hr]; rfl

@[simp] theorem offerField_freeCount (c : FieldCommand) (s : State) : (offerField c s).freeCount = s.freeCount := by
  by_cases h : s.mode = .replay
  · rw [offerField_replay h]; cases c <;> rfl
  · obtain ⟨r, hr⟩ := offerField_port_only (c := c) h; rw [hr]; rfl

@[simp] theorem offerField_inReset (c : FieldCommand) (s : State) : (offerField c s).inReset = s.inReset := by
  by_cases h : s.mode = .replay
  · rw [offerField_replay h]; cases c <;> rfl
  · obtain ⟨r, hr⟩ := offerField_port_only (c := c) h; rw [hr]; rfl

@[simp] theorem offerField_time (c : FieldCommand) (s : State) : (offerField c s).time = s.time := by
  by_cases h : s.mode = .replay
  · rw [offerField_replay h]; cases c <;> rfl
  · obtain ⟨r, hr⟩ := offerField_port_only (c := c) h; rw [hr]; rfl

@[simp] theorem offerField_timeValid (c : FieldCommand) (s : State) : (offerField c s).timeValid = s.timeValid := by
  by_cases h : s.mode = .replay
  · rw [offerField_replay h]; cases c <;> rfl
  · obtain ⟨r, hr⟩ := offerField_port_only (c := c) h; rw [hr]; rfl

@[simp] theorem offerField_mode (c : FieldCommand) (s : State) : (offerField c s).mode = s.mode := by
  by_cases h : s.mode = .replay
  · rw [offerField_replay h]; cases c <;> rfl
  · obtain ⟨r, hr⟩ := offerField_port_only (c := c) h; rw [hr]; rfl

@[simp] theorem offerField_key (c : FieldCommand) (s : State) : (offerField c s).key = s.key := by
  by_cases h : s.mode = .replay
  · rw [offerField_replay h]; cases c <;> rfl
  · obtain ⟨r, hr⟩ := offerField_port_only (c := c) h; rw [hr]; rfl

@[simp] theorem offerField_keySettled (c : FieldCommand) (s : State) : (offerField c s).keySettled = s.keySettled := by
  by_cases h : s.mode = .replay
  · rw [offerField_replay h]; cases c <;> rfl
  · obtain ⟨r, hr⟩ := offerField_port_only (c := c) h; rw [hr]; rfl

@[simp] theorem offerField_estop (c : FieldCommand) (s : State) : (offerField c s).estop = s.estop := by
  by_cases h : s.mode = .replay
  · rw [offerField_replay h]; cases c <;> rfl
  · obtain ⟨r, hr⟩ := offerField_port_only (c := c) h; rw [hr]; rfl

@[simp] theorem offerField_strapRest (c : FieldCommand) (s : State) : (offerField c s).strapRest = s.strapRest := by
  by_cases h : s.mode = .replay
  · rw [offerField_replay h]; cases c <;> rfl
  · obtain ⟨r, hr⟩ := offerField_port_only (c := c) h; rw [hr]; rfl

@[simp] theorem offerField_strapNode (c : FieldCommand) (s : State) : (offerField c s).strapNode = s.strapNode := by
  by_cases h : s.mode = .replay
  · rw [offerField_replay h]; cases c <;> rfl
  · obtain ⟨r, hr⟩ := offerField_port_only (c := c) h; rw [hr]; rfl

@[simp] theorem offerField_ownNode (c : FieldCommand) (s : State) : (offerField c s).ownNode = s.ownNode := by
  by_cases h : s.mode = .replay
  · rw [offerField_replay h]; cases c <;> rfl
  · obtain ⟨r, hr⟩ := offerField_port_only (c := c) h; rw [hr]; rfl

@[simp] theorem offerField_rest (c : FieldCommand) (s : State) : (offerField c s).rest = s.rest := by
  by_cases h : s.mode = .replay
  · rw [offerField_replay h]; cases c <;> rfl
  · obtain ⟨r, hr⟩ := offerField_port_only (c := c) h; rw [hr]; rfl

@[simp] theorem offerField_requests (c : FieldCommand) (s : State) : (offerField c s).requests = s.requests := by
  by_cases h : s.mode = .replay
  · rw [offerField_replay h]; cases c <;> rfl
  · obtain ⟨r, hr⟩ := offerField_port_only (c := c) h; rw [hr]; rfl

@[simp] theorem offerField_nodes (c : FieldCommand) (s : State) : (offerField c s).nodes = s.nodes := by
  by_cases h : s.mode = .replay
  · rw [offerField_replay h]; cases c <;> rfl
  · obtain ⟨r, hr⟩ := offerField_port_only (c := c) h; rw [hr]; rfl

@[simp] theorem offerField_rectIntake (c : FieldCommand) (s : State) : (offerField c s).rectIntake = s.rectIntake := by
  by_cases h : s.mode = .replay
  · rw [offerField_replay h]; cases c <;> rfl
  · obtain ⟨r, hr⟩ := offerField_port_only (c := c) h; rw [hr]; rfl

@[simp] theorem offerField_rectRow (c : FieldCommand) (s : State) : (offerField c s).rectRow = s.rectRow := by
  by_cases h : s.mode = .replay
  · rw [offerField_replay h]; cases c <;> rfl
  · obtain ⟨r, hr⟩ := offerField_port_only (c := c) h; rw [hr]; rfl

@[simp] theorem offerField_rectValid (c : FieldCommand) (s : State) : (offerField c s).rectValid = s.rectValid := by
  by_cases h : s.mode = .replay
  · rw [offerField_replay h]; cases c <;> rfl
  · obtain ⟨r, hr⟩ := offerField_port_only (c := c) h; rw [hr]; rfl

@[simp] theorem offerField_rect (c : FieldCommand) (s : State) : (offerField c s).rect = s.rect := by
  by_cases h : s.mode = .replay
  · rw [offerField_replay h]; cases c <;> rfl
  · obtain ⟨r, hr⟩ := offerField_port_only (c := c) h; rw [hr]; rfl

@[simp] theorem offerField_ties (c : FieldCommand) (s : State) : (offerField c s).ties = s.ties := by
  by_cases h : s.mode = .replay
  · rw [offerField_replay h]; cases c <;> rfl
  · obtain ⟨r, hr⟩ := offerField_port_only (c := c) h; rw [hr]; rfl

@[simp] theorem offerField_reports (c : FieldCommand) (s : State) : (offerField c s).reports = s.reports := by
  by_cases h : s.mode = .replay
  · rw [offerField_replay h]; cases c <;> rfl
  · obtain ⟨r, hr⟩ := offerField_port_only (c := c) h; rw [hr]; rfl

@[simp] theorem offerField_loss (c : FieldCommand) (s : State) : (offerField c s).loss = s.loss := by
  by_cases h : s.mode = .replay
  · rw [offerField_replay h]; cases c <;> rfl
  · obtain ⟨r, hr⟩ := offerField_port_only (c := c) h; rw [hr]; rfl

@[simp] theorem offerField_reportRow (c : FieldCommand) (s : State) : (offerField c s).reportRow = s.reportRow := by
  by_cases h : s.mode = .replay
  · rw [offerField_replay h]; cases c <;> rfl
  · obtain ⟨r, hr⟩ := offerField_port_only (c := c) h; rw [hr]; rfl

@[simp] theorem offerField_slots (c : FieldCommand) (s : State) : (offerField c s).slots = s.slots := by
  by_cases h : s.mode = .replay
  · rw [offerField_replay h]; cases c <;> rfl
  · obtain ⟨r, hr⟩ := offerField_port_only (c := c) h; rw [hr]; rfl

@[simp] theorem offerField_sq (c : FieldCommand) (s : State) (f : FeederId) :
    (offerField c s).sq f = s.sq f := by
  by_cases h : s.mode = .replay
  · rw [offerField_replay h]
    cases c with
    | breaker g b => by_cases hf : f = g <;> [subst hf; skip] <;>
        simp [simCommand, State.sq, State.setFeeder_feeder_ne, *]
    | testContactor g b => by_cases hf : f = g <;> [subst hf; skip] <;>
        simp [simCommand, State.sq, State.setFeeder_feeder_ne, *]
    | firingSet x => rfl
    | acBreaker b => rfl
  · obtain ⟨r, hr⟩ := offerField_port_only (c := c) h; rw [hr]; rfl

/-! Serving every feeder -/

theorem forFeeders_eq (g : FeederId → State → State) (s : State) :
    forFeeders g s =
      g .f8 (g .f7 (g .f6 (g .f5 (g .f4 (g .f3 (g .f2 (g .f1 s))))))) := rfl

/-- What each serving keeps, serving every feeder keeps. -/
theorem forFeeders_induct {P : State → Prop} {g : FeederId → State → State}
    (h : ∀ f s, P s → P (g f s)) {s : State} (hs : P s) : P (forFeeders g s) := by
  rw [forFeeders_eq]
  exact h _ _ (h _ _ (h _ _ (h _ _ (h _ _ (h _ _ (h _ _ (h _ _ hs)))))))

/-- A serving that changes nothing for any feeder leaves the state. -/
theorem forFeeders_id {g : FeederId → State → State} {s : State} (h : ∀ f, g f s = s) :
    forFeeders g s = s := by
  rw [forFeeders_eq]; simp [h]

/-! Nodes -/

theorem findNode_spec {s : State} {role : Role} {binding : Option FeederId} {n : Byte}
    (h : findNode s role binding = some n) :
    (s.nodeRow n).role = role ∧ (s.nodeRow n).binding = binding := by
  obtain ⟨m, hm, rfl⟩ := Option.map_eq_some_iff.mp h
  have := List.find?_some hm
  simpa using this

end Sys2Proof.Machine
end

