-- ==== Sys2Proof/Laws/Fixed.lean ====
section
/-! SUPPORT. What no frame, timer, sample, trip, test or tie message of the feeders, the group and the ties
changes: device data and settings. One lemma per operation, and what follows for each datum. -/

namespace Sys2Proof.Machine

/-- What the feeders, the rectifier group and the ties leave alone: the device data and the settings. -/
structure Fixed where
  inReset : Bool
  time : Stamp
  timeValid : Bool
  mode : Mode
  key : KeyPos
  keySettled : Bool
  estop : Bool
  strapRest : RestState
  strapNode : BitVec 6
  ownNode : BitVec 6
  rest : RestState
  requests : List QueuedRequest
  nodes : Vector NodeRow 64
  rectRow : RectRow
  rectValid : Bool
  reportRow : ReportRow
  pending : List Instr
  rectIntake : RectIntake
  settings : PerFeeder (FeederRow × Bool × SectionRow)

/-- The fixed part of a state. -/
def State.fixed (s : State) : Fixed where
  inReset := s.inReset
  time := s.time
  timeValid := s.timeValid
  mode := s.mode
  key := s.key
  keySettled := s.keySettled
  estop := s.estop
  strapRest := s.strapRest
  strapNode := s.strapNode
  ownNode := s.ownNode
  rest := s.rest
  requests := s.requests
  nodes := s.nodes
  rectRow := s.rectRow
  rectValid := s.rectValid
  reportRow := s.reportRow
  pending := s.pending
  rectIntake := s.rectIntake
  settings := s.feeders.map fun u => (u.row, u.valid, u.section_)

/-! What follows when the fixed part is the same -/

theorem inReset_of_fixed {s t : State} (h : t.fixed = s.fixed) : t.inReset = s.inReset :=
  congrArg Fixed.inReset h

theorem time_of_fixed {s t : State} (h : t.fixed = s.fixed) : t.time = s.time :=
  congrArg Fixed.time h

theorem timeValid_of_fixed {s t : State} (h : t.fixed = s.fixed) : t.timeValid = s.timeValid :=
  congrArg Fixed.timeValid h

theorem mode_of_fixed {s t : State} (h : t.fixed = s.fixed) : t.mode = s.mode :=
  congrArg Fixed.mode h

theorem key_of_fixed {s t : State} (h : t.fixed = s.fixed) : t.key = s.key :=
  congrArg Fixed.key h

theorem keySettled_of_fixed {s t : State} (h : t.fixed = s.fixed) : t.keySettled = s.keySettled :=
  congrArg Fixed.keySettled h

theorem estop_of_fixed {s t : State} (h : t.fixed = s.fixed) : t.estop = s.estop :=
  congrArg Fixed.estop h

theorem strapRest_of_fixed {s t : State} (h : t.fixed = s.fixed) : t.strapRest = s.strapRest :=
  congrArg Fixed.strapRest h

theorem strapNode_of_fixed {s t : State} (h : t.fixed = s.fixed) : t.strapNode = s.strapNode :=
  congrArg Fixed.strapNode h

theorem ownNode_of_fixed {s t : State} (h : t.fixed = s.fixed) : t.ownNode = s.ownNode :=
  congrArg Fixed.ownNode h

theorem rest_of_fixed {s t : State} (h : t.fixed = s.fixed) : t.rest = s.rest :=
  congrArg Fixed.rest h

theorem requests_of_fixed {s t : State} (h : t.fixed = s.fixed) : t.requests = s.requests :=
  congrArg Fixed.requests h

theorem nodes_of_fixed {s t : State} (h : t.fixed = s.fixed) : t.nodes = s.nodes :=
  congrArg Fixed.nodes h

theorem rectRow_of_fixed {s t : State} (h : t.fixed = s.fixed) : t.rectRow = s.rectRow :=
  congrArg Fixed.rectRow h

theorem rectValid_of_fixed {s t : State} (h : t.fixed = s.fixed) : t.rectValid = s.rectValid :=
  congrArg Fixed.rectValid h

theorem reportRow_of_fixed {s t : State} (h : t.fixed = s.fixed) : t.reportRow = s.reportRow :=
  congrArg Fixed.reportRow h

theorem pending_of_fixed {s t : State} (h : t.fixed = s.fixed) : t.pending = s.pending :=
  congrArg Fixed.pending h

theorem rectIntake_of_fixed {s t : State} (h : t.fixed = s.fixed) : t.rectIntake = s.rectIntake :=
  congrArg Fixed.rectIntake h

theorem settings_of_fixed {s t : State} (h : t.fixed = s.fixed) (f : FeederId) :
    (t.feeder f).row = (s.feeder f).row ∧ (t.feeder f).valid = (s.feeder f).valid
      ∧ (t.feeder f).section_ = (s.feeder f).section_ := by
  have := congrArg (fun x => (Fixed.settings x).get f) h
  simp only [State.fixed, PerFeeder.get_map, Prod.mk.injEq] at this
  exact this

theorem nodeRow_of_fixed {s t : State} (h : t.fixed = s.fixed) (n : Byte) : t.nodeRow n = s.nodeRow n := by
  unfold State.nodeRow; rw [nodes_of_fixed h]

theorem findNode_of_fixed {s t : State} (h : t.fixed = s.fixed) (role : Role) (b : Option FeederId) :
    findNode t role b = findNode s role b := by
  unfold findNode; simp only [nodeRow_of_fixed h]

/-! The plain updates -/

@[simp] theorem State.setPort_fixed (s : State) (p : Port) (r : PortRec) :
    (s.setPort p r).fixed = s.fixed := rfl

@[simp] theorem State.setRect_fixed (s : State) (r : RectRec) : (s.setRect r).fixed = s.fixed := rfl

@[simp] theorem State.setTie_fixed (s : State) (t : Tie) (r : TieRec) : (s.setTie t r).fixed = s.fixed :=
  rfl

@[simp] theorem State.setSlot_fixed (s : State) (k : SlotId) (c : Slot) :
    (s.setSlot k c).fixed = s.fixed := rfl

@[simp] theorem State.freeCount_fixed (s : State) (n : Nat) : ({ s with freeCount := n }).fixed = s.fixed :=
  rfl

@[simp] theorem State.simAc_fixed (s : State) (d : SimDevice) : ({ s with simAc := d }).fixed = s.fixed :=
  rfl

@[simp] theorem State.setFeeder_fixed (s : State) (f : FeederId) (u : FeederUnit)
    (hr : u.row = (s.feeder f).row) (hv : u.valid = (s.feeder f).valid)
    (hs : u.section_ = (s.feeder f).section_) : (s.setFeeder f u).fixed = s.fixed := by
  have : (s.setFeeder f u).fixed.settings = s.fixed.settings := by
    apply PerFeeder.ext_get
    intro e
    by_cases h : e = f
    · subst h; simp [State.fixed, State.setFeeder, hr, hv, hs, State.feeder]
    · simp [State.fixed, State.setFeeder, PerFeeder.get_set_ne _ _ h]
  simp only [State.fixed] at this
  simp [State.fixed, this]

@[simp] theorem State.setSq_fixed (s : State) (f : FeederId) (r : FeederRec) :
    (s.setSq f r).fixed = s.fixed := by simp [State.setSq]

@[simp] theorem State.setIntake_fixed (s : State) (f : FeederId) (k : FeederIntake) :
    (s.setIntake f k).fixed = s.fixed := by simp [State.setIntake]

@[simp] theorem State.setProt_fixed (s : State) (f : FeederId) (r : Protection) :
    (s.setProt f r).fixed = s.fixed := by simp [State.setProt]

@[simp] theorem submit_fixed (k : ReportKind) (src : Source) (c : Option Cause) (v w : Option Int)
    (s : State) : (submit k src c v w s).fixed = s.fixed := by unfold submit; split <;> rfl

@[simp] theorem reject_fixed (p : Port) (s : State) : (reject p s).fixed = s.fixed := rfl

@[simp] theorem arbitrate_fixed (p : Port) (s : State) : (arbitrate p s).fixed = s.fixed := rfl

@[simp] theorem offerForwarded_fixed (p : Port) (frame : Frame) (s : State) :
    (offerForwarded p frame s).fixed = s.fixed := by rw [offerForwarded_eq]; rfl

@[simp] theorem offerTie_fixed (t : Tie) (m : TieMsg) (s : State) :
    (offerTie t m s).fixed = s.fixed := by rw [offerTie_eq]; rfl

@[simp] theorem simCommand_fixed (c : FieldCommand) (s : State) : (simCommand c s).fixed = s.fixed := by
  cases c <;> simp [simCommand]

@[simp] theorem offerField_fixed (c : FieldCommand) (s : State) : (offerField c s).fixed = s.fixed := by
  by_cases h : s.mode = .replay
  · rw [offerField_replay h]; simp
  · obtain ⟨r, hr⟩ := offerField_port_only (c := c) h; rw [hr]; rfl

theorem forFeeders_fixed {g : FeederId → State → State} (h : ∀ f s, (g f s).fixed = s.fixed)
    (s : State) : (forFeeders g s).fixed = s.fixed :=
  forFeeders_induct (P := fun t => t.fixed = s.fixed) (fun f t ht => (h f t).trans ht) rfl

/-! Captures -/

@[simp] theorem trigger_fixed (f : FeederId) (kind : TriggerKind) (s : State) :
    (trigger f kind s).fixed = s.fixed := by
  unfold trigger
  repeat' split
  all_goals simp

@[simp] theorem storePositions_fixed (f : FeederId) (k : SlotId) (positions : List (Option Point))
    (s : State) :
    (storePositions f k positions s).fixed = s.fixed := by
  unfold storePositions
  dsimp only
  repeat' split
  all_goals simp

@[simp] theorem fillCapture_fixed (f : FeederId) (h : Nat) (p : Point) (s : State) :
    (fillCapture f h p s).fixed = s.fixed := by
  unfold fillCapture
  repeat' split
  all_goals simp

@[simp] theorem endCapture_fixed (f : FeederId) (s : State) : (endCapture f s).fixed = s.fixed := by
  unfold endCapture
  dsimp only
  repeat' split
  all_goals simp

/-! Feeders and the group -/

@[simp] theorem withdrawLatched_fixed (f : FeederId) (s : State) :
    (withdrawLatched f s).fixed = s.fixed := by
  unfold withdrawLatched
  dsimp only
  simp

@[simp] theorem disarmIfLeft_fixed (f : FeederId) (old new : FeederState) (s : State) :
    (disarmIfLeft f old new s).fixed = s.fixed := by
  unfold disarmIfLeft
  repeat' split
  all_goals simp

@[simp] theorem enterCore_fixed (f : FeederId) (new : FeederState) (cause : Option LockoutCause)
    (s : State) :
    (enterCore f new cause s).fixed = s.fixed := by
  unfold enterCore
  dsimp only
  repeat' split
  all_goals simp

@[simp] theorem reportFeederState_fixed (f : FeederId) (new old : FeederState) (s : State) :
    (reportFeederState f new old s).fixed = s.fixed := by
  unfold reportFeederState
  simp

@[simp] theorem offerSeq_fixed (c : FieldCommand) (s : State) : (offerSeq c s).fixed = s.fixed := by
  unfold offerSeq
  repeat' split
  all_goals simp

@[simp] theorem startCloseTimer_fixed (f : FeederId) (s : State) :
    (startCloseTimer f s).fixed = s.fixed := by
  unfold startCloseTimer
  dsimp only
  simp

@[simp] theorem reportLineTest_fixed (f : FeederId) (x : LastResult) (s : State) :
    (reportLineTest f x s).fixed = s.fixed := by
  unfold reportLineTest
  dsimp only
  repeat' split
  all_goals simp

@[simp] theorem recordResult_fixed (f : FeederId) (x : LastResult) (s : State) :
    (recordResult f x s).fixed = s.fixed := by
  unfold recordResult
  dsimp only
  simp

@[simp] theorem enterPhase_fixed (f : FeederId) (ph : Phase) (timer : Timer) (s : State) :
    (enterPhase f ph timer s).fixed = s.fixed := by
  unfold enterPhase
  dsimp only
  repeat' split
  all_goals simp

@[simp] theorem enterTiming_fixed (f : FeederId) (s : State) : (enterTiming f s).fixed = s.fixed := by
  unfold enterTiming
  simp

@[simp] theorem enterCooling_fixed (f : FeederId) (s : State) : (enterCooling f s).fixed = s.fixed := by
  unfold enterCooling
  simp

@[simp] theorem enterFarEndWait_fixed (f : FeederId) (s : State) :
    (enterFarEndWait f s).fixed = s.fixed := by
  unfold enterFarEndWait
  simp

@[simp] theorem offerRect_fixed (force : Bool) (c : FieldCommand) (s : State) :
    (offerRect force c s).fixed = s.fixed := by
  unfold offerRect
  repeat' split
  all_goals simp

@[simp] theorem offerBlocked_fixed (force : Bool) (s : State) :
    (offerBlocked force s).fixed = s.fixed := by
  unfold offerBlocked
  simp

@[simp] theorem rectMove_fixed (new : RectState) (cause : RectCause) (s : State) :
    (rectMove new cause s).fixed = s.fixed := by
  unfold rectMove
  dsimp only
  repeat' split
  all_goals simp

@[simp] theorem park_fixed (cause : RectCause) (s : State) : (park cause s).fixed = s.fixed := by
  unfold park
  dsimp only
  simp

@[simp] theorem enterRest_fixed (target : RestState) (cause : RectCause) (s : State) :
    (enterRest target cause s).fixed = s.fixed := by
  unfold enterRest
  repeat' split
  all_goals simp

@[simp] theorem beginCrossingWait_fixed (s : State) : (beginCrossingWait s).fixed = s.fixed := by
  unfold beginCrossingWait
  dsimp only
  simp

@[simp] theorem enterStarting_fixed (s : State) : (enterStarting s).fixed = s.fixed := by
  unfold enterStarting
  dsimp only
  repeat' split
  all_goals simp

/-! Line tests and dead time -/

@[simp] theorem abortEffects_fixed (f : FeederId) (reason : AbortReason) (uAvg ubAvg : Option Nat)
    (s : State) :
    (abortEffects f reason uAvg ubAvg s).fixed = s.fixed := by
  unfold abortEffects
  dsimp only
  repeat' split
  all_goals simp

@[simp] theorem giveShotBack_fixed (f : FeederId) (s : State) :
    (giveShotBack f s).fixed = s.fixed := by
  unfold giveShotBack
  dsimp only
  repeat' split
  all_goals simp

@[simp] theorem returnAfterFlag_fixed (f : FeederId) (s : State) :
    (returnAfterFlag f s).fixed = s.fixed := by
  unfold returnAfterFlag
  dsimp only
  repeat' split
  all_goals simp

@[simp] theorem enterTesting_fixed (f : FeederId) (kind : TestKind) (origin : Option TestOrigin)
    (s : State) :
    (enterTesting f kind origin s).fixed = s.fixed := by
  unfold enterTesting
  dsimp only
  simp

@[simp] theorem beginContactorCheck_fixed (f : FeederId) (s : State) :
    (beginContactorCheck f s).fixed = s.fixed := by
  unfold beginContactorCheck
  dsimp only
  repeat' split
  all_goals simp

@[simp] theorem addTester_fixed (f : FeederId) (s : State) : (addTester f s).fixed = s.fixed := by
  unfold addTester
  dsimp only
  simp

@[simp] theorem dropTester_fixed (f : FeederId) (s : State) : (dropTester f s).fixed = s.fixed := by
  unfold dropTester
  dsimp only
  simp

@[simp] theorem startLatched_fixed (f : FeederId) (s : State) : (startLatched f s).fixed = s.fixed := by
  unfold startLatched
  dsimp only
  repeat' split
  all_goals simp

@[simp] theorem startAllLatched_fixed (s : State) : (startAllLatched s).fixed = s.fixed :=
  forFeeders_fixed startLatched_fixed s

@[simp] theorem enterRunning_fixed (s : State) : (enterRunning s).fixed = s.fixed := by
  unfold enterRunning
  simp

@[simp] theorem probeEnd_fixed (s : State) : (probeEnd s).fixed = s.fixed := by
  unfold probeEnd
  repeat' split
  all_goals simp

@[simp] theorem leaveTesting_fixed (f : FeederId) (s : State) : (leaveTesting f s).fixed = s.fixed := by
  unfold leaveTesting
  dsimp only
  repeat' split
  all_goals simp

@[simp] theorem enterState_fixed (f : FeederId) (new : FeederState) (cause : Option LockoutCause)
    (s : State) :
    (enterState f new cause s).fixed = s.fixed := by
  unfold enterState
  repeat' split
  all_goals simp

@[simp] theorem enterOut_fixed (f : FeederId) (s : State) : (enterOut f s).fixed = s.fixed := by
  unfold enterOut
  dsimp only
  repeat' split
  all_goals simp

@[simp] theorem sendSection_fixed (f : FeederId) (hold : Bool) (s : State) :
    (sendSection f hold s).fixed = s.fixed := by
  unfold sendSection
  dsimp only
  repeat' split
  all_goals simp

@[simp] theorem lockout_fixed (f : FeederId) (cause : LockoutCause) (offered : Bool) (s : State) :
    (lockout f cause offered s).fixed = s.fixed := by
  unfold lockout
  dsimp only
  repeat' split
  all_goals simp

@[simp] theorem latchTest_fixed (f : FeederId) (s : State) : (latchTest f s).fixed = s.fixed := by
  unfold latchTest
  dsimp only
  repeat' split
  all_goals simp

@[simp] theorem probeFromHold_fixed (s : State) : (probeFromHold s).fixed = s.fixed := by
  unfold probeFromHold
  dsimp only
  simp

@[simp] theorem startTest_fixed (f : FeederId) (kind : TestKind) (origin : Option TestOrigin)
    (s : State) :
    (startTest f kind origin s).fixed = s.fixed := by
  unfold startTest
  simp

@[simp] theorem abortUnstarted_fixed (f : FeederId) (reason : AbortReason) (origin : TestOrigin)
    (s : State) :
    (abortUnstarted f reason origin s).fixed = s.fixed := by
  unfold abortUnstarted
  dsimp only
  simp

@[simp] theorem coolFirst_fixed (f : FeederId) (origin : TestOrigin) (s : State) :
    (coolFirst f origin s).fixed = s.fixed := by
  unfold coolFirst
  dsimp only
  simp

@[simp] theorem awaitSupply_fixed (f : FeederId) (origin : TestOrigin) (s : State) :
    (awaitSupply f origin s).fixed = s.fixed := by
  unfold awaitSupply
  dsimp only
  simp

@[simp] theorem testRequest_fixed (f : FeederId) (origin : TestOrigin) (s : State) :
    (testRequest f origin s).fixed = s.fixed := by
  unfold testRequest
  dsimp only
  repeat' split
  all_goals simp

@[simp] theorem farEndDown_fixed (f : FeederId) (s : State) : (farEndDown f s).fixed = s.fixed := by
  unfold farEndDown
  dsimp only
  simp

@[simp] theorem enterFarEnd_fixed (f : FeederId) (s : State) : (enterFarEnd f s).fixed = s.fixed := by
  unfold enterFarEnd
  dsimp only
  repeat' split
  all_goals simp

@[simp] theorem abortReturn_fixed (f : FeederId) (reason : AbortReason) (s : State) :
    (abortReturn f reason s).fixed = s.fixed := by
  unfold abortReturn
  dsimp only
  repeat' split
  all_goals simp

@[simp] theorem abortTesting_fixed (f : FeederId) (reason : AbortReason) (uAvg ubAvg : Option Nat)
    (s : State) :
    (abortTesting f reason uAvg ubAvg s).fixed = s.fixed := by
  unfold abortTesting
  simp

@[simp] theorem abortForGood_fixed (f : FeederId) (reason : AbortReason) (s : State) :
    (abortForGood f reason s).fixed = s.fixed := by
  unfold abortForGood
  simp

@[simp] theorem abortTest_fixed (f : FeederId) (reason : AbortReason) (uAvg ubAvg : Option Nat)
    (s : State) :
    (abortTest f reason uAvg ubAvg s).fixed = s.fixed := by
  unfold abortTest
  simp

@[simp] theorem manualRequest_fixed (f : FeederId) (s : State) :
    (manualRequest f s).fixed = s.fixed := by
  unfold manualRequest
  dsimp only
  repeat' split
  all_goals simp

@[simp] theorem enterClosing_fixed (f : FeederId) (s : State) : (enterClosing f s).fixed = s.fixed := by
  unfold enterClosing
  dsimp only
  simp

@[simp] theorem serveShort_fixed (f : FeederId) (s : State) : (serveShort f s).fixed = s.fixed := by
  unfold serveShort
  dsimp only
  repeat' split
  all_goals simp

@[simp] theorem serveResult_fixed (f : FeederId) (x : LastResult) (s : State) :
    (serveResult f x s).fixed = s.fixed := by
  unfold serveResult
  dsimp only
  repeat' split
  all_goals simp

@[simp] theorem contactorFailure_fixed (f : FeederId) (offer : Bool) (s : State) :
    (contactorFailure f offer s).fixed = s.fixed := by
  unfold contactorFailure
  dsimp only
  repeat' split
  all_goals simp

@[simp] theorem supplyLostFor_fixed (testers : PerFeeder Bool) (f : FeederId) (s : State) :
    (supplyLostFor testers f s).fixed = s.fixed := by
  unfold supplyLostFor
  repeat' split
  all_goals simp

@[simp] theorem supplyLost_fixed (s : State) : (supplyLost s).fixed = s.fixed :=
  (forFeeders_fixed (supplyLostFor_fixed _) _).trans rfl

@[simp] theorem holdLosing_fixed (cause : RectCause) (s : State) :
    (holdLosing cause s).fixed = s.fixed := by
  unfold holdLosing
  simp

@[simp] theorem parkLosing_fixed (cause : RectCause) (s : State) :
    (parkLosing cause s).fixed = s.fixed := by
  unfold parkLosing
  simp

@[simp] theorem rectFault_fixed (cause : FaultCause) (s : State) :
    (rectFault cause s).fixed = s.fixed := by
  unfold rectFault
  dsimp only
  repeat' split
  all_goals simp

/-! Trips -/

@[simp] theorem intertripFailNotice_fixed (f : FeederId) (s : State) :
    (intertripFailNotice f s).fixed = s.fixed := by
  unfold intertripFailNotice
  dsimp only
  repeat' split
  all_goals simp

@[simp] theorem intertripFail_fixed (f : FeederId) (cause : InterCause) (sectionId : Nat)
    (why : InterFail) (s : State) :
    (intertripFail f cause sectionId why s).fixed = s.fixed := by
  unfold intertripFail
  dsimp only
  simp

@[simp] theorem setEntry_fixed (f : FeederId) (t : Tie) (cause : InterCause) (tag : Byte)
    (timer : Nat) (s : State) :
    (setEntry f t cause tag timer s).fixed = s.fixed := by
  unfold setEntry
  dsimp only
  simp

@[simp] theorem reportSent_fixed (f : FeederId) (cause : InterCause) (sectionId : Nat) (tag : Byte)
    (s : State) :
    (reportSent f cause sectionId tag s).fixed = s.fixed := by
  unfold reportSent
  simp

@[simp] theorem advanceTag_fixed (t : Tie) (s : State) : (advanceTag t s).fixed = s.fixed := by
  unfold advanceTag
  dsimp only
  simp

@[simp] theorem intertripRequest_fixed (f : FeederId) (cause : InterCause) (s : State) :
    (intertripRequest f cause s).fixed = s.fixed := by
  unfold intertripRequest
  dsimp only
  repeat' split
  all_goals simp

@[simp] theorem startTrip_fixed (f : FeederId) (req : TripRequest) (s : State) :
    (startTrip f req s).fixed = s.fixed := by
  unfold startTrip
  dsimp only
  repeat' split
  all_goals simp

@[simp] theorem requestTrip_fixed (f : FeederId) (req : TripRequest) (s : State) :
    (requestTrip f req s).fixed = s.fixed := by
  unfold requestTrip
  dsimp only
  repeat' split
  all_goals simp

@[simp] theorem flagAction_fixed (f : FeederId) (blind : Bool) (s : State) :
    (flagAction f blind s).fixed = s.fixed := by
  unfold flagAction
  dsimp only
  repeat' split
  all_goals simp

@[simp] theorem closedFlags_fixed (f : FeederId) (s : State) : (closedFlags f s).fixed = s.fixed := by
  unfold closedFlags
  dsimp only
  repeat' split
  all_goals simp

@[simp] theorem freshDeadTime_fixed (f : FeederId) (s : State) :
    (freshDeadTime f s).fixed = s.fixed := by
  unfold freshDeadTime
  dsimp only
  simp

@[simp] theorem afterTrip_fixed (f : FeederId) (s : State) : (afterTrip f s).fixed = s.fixed := by
  unfold afterTrip
  dsimp only
  repeat' split
  all_goals simp

@[simp] theorem breakerFailure_fixed (f : FeederId) (s : State) :
    (breakerFailure f s).fixed = s.fixed := by
  unfold breakerFailure
  dsimp only
  repeat' split
  all_goals simp

@[simp] theorem estopFeeder_fixed (f : FeederId) (s : State) : (estopFeeder f s).fixed = s.fixed := by
  unfold estopFeeder
  dsimp only
  repeat' split
  all_goals simp

@[simp] theorem serveEstop_fixed (s : State) : (serveEstop s).fixed = s.fixed := by
  unfold serveEstop
  split
  · rfl
  · simp [forFeeders_fixed estopFeeder_fixed]

/-! The breaker unit -/

@[simp] theorem reportOpened_fixed (f : FeederId) (cause : Option TripCause) (s : State) :
    (reportOpened f cause s).fixed = s.fixed := by
  unfold reportOpened
  simp

@[simp] theorem tripConfirmed_fixed (f : FeederId) (s : State) :
    (tripConfirmed f s).fixed = s.fixed := by
  unfold tripConfirmed
  dsimp only
  simp

@[simp] theorem openingConfirmed_fixed (f : FeederId) (s : State) :
    (openingConfirmed f s).fixed = s.fixed := by
  unfold openingConfirmed
  dsimp only
  simp

@[simp] theorem externalOpening_fixed (f : FeederId) (s : State) :
    (externalOpening f s).fixed = s.fixed := by
  unfold externalOpening
  dsimp only
  simp

@[simp] theorem confirmOpen_fixed (f : FeederId) (s : State) : (confirmOpen f s).fixed = s.fixed := by
  unfold confirmOpen
  dsimp only
  repeat' split
  all_goals simp

@[simp] theorem closingConfirmed_fixed (f : FeederId) (s : State) :
    (closingConfirmed f s).fixed = s.fixed := by
  unfold closingConfirmed
  dsimp only
  simp

@[simp] theorem reportUncommanded_fixed (f : FeederId) (device : Int) (s : State) :
    (reportUncommanded f device s).fixed = s.fixed := by
  unfold reportUncommanded
  simp

@[simp] theorem uncommandedTrip_fixed (f : FeederId) (s : State) :
    (uncommandedTrip f s).fixed = s.fixed := by
  unfold uncommandedTrip
  dsimp only
  repeat' split
  all_goals simp

@[simp] theorem enterClosedComplete_fixed (f : FeederId) (s : State) :
    (enterClosedComplete f s).fixed = s.fixed := by
  unfold enterClosedComplete
  dsimp only
  simp

@[simp] theorem takeOver_fixed (f : FeederId) (s : State) : (takeOver f s).fixed = s.fixed := by
  unfold takeOver
  simp

@[simp] theorem confirmClosed_fixed (f : FeederId) (s : State) :
    (confirmClosed f s).fixed = s.fixed := by
  unfold confirmClosed
  dsimp only
  repeat' split
  all_goals simp

@[simp] theorem servePending_fixed (f : FeederId) (s : State) : (servePending f s).fixed = s.fixed := by
  unfold servePending
  dsimp only
  repeat' split
  all_goals simp

@[simp] theorem openWaitEnd_fixed (f : FeederId) (s : State) : (openWaitEnd f s).fixed = s.fixed := by
  unfold openWaitEnd
  dsimp only
  simp

@[simp] theorem testContactor_fixed (f : FeederId) (closed : Bool) (s : State) :
    (testContactor f closed s).fixed = s.fixed := by
  unfold testContactor
  dsimp only
  repeat' split
  all_goals simp

@[simp] theorem confirmContactor_fixed (f : FeederId) (closed : Bool) (s : State) :
    (confirmContactor f closed s).fixed = s.fixed := by
  unfold confirmContactor
  dsimp only
  repeat' split
  all_goals simp

@[simp] theorem breakerChanged_fixed (f : FeederId) (pos : BreakerPos) (s : State) :
    (breakerChanged f pos s).fixed = s.fixed := by
  unfold breakerChanged
  repeat' split
  all_goals simp

@[simp] theorem contactorChanged_fixed (f : FeederId) (pos : ContactorPos) (s : State) :
    (contactorChanged f pos s).fixed = s.fixed := by
  unfold contactorChanged
  repeat' split
  all_goals simp

@[simp] theorem breakerStatus_fixed (f : FeederId) (x : BreakerStatus) (s : State) :
    (breakerStatus f x s).fixed = s.fixed := by
  unfold breakerStatus
  dsimp only
  repeat' split
  all_goals simp

/-! Timers of a feeder -/

@[simp] theorem openExpired_fixed (f : FeederId) (s : State) : (openExpired f s).fixed = s.fixed := by
  unfold openExpired
  dsimp only
  repeat' split
  all_goals simp

@[simp] theorem contactorTimeout_fixed (f : FeederId) (s : State) :
    (contactorTimeout f s).fixed = s.fixed := by
  unfold contactorTimeout
  dsimp only
  repeat' split
  all_goals simp

@[simp] theorem closeExpired_fixed (f : FeederId) (s : State) : (closeExpired f s).fixed = s.fixed := by
  unfold closeExpired
  dsimp only
  repeat' split
  all_goals simp

@[simp] theorem sotfExpired_fixed (f : FeederId) (s : State) : (sotfExpired f s).fixed = s.fixed := by
  unfold sotfExpired
  dsimp only
  simp

@[simp] theorem reclaimExpired_fixed (f : FeederId) (s : State) :
    (reclaimExpired f s).fixed = s.fixed := by
  unfold reclaimExpired
  dsimp only
  repeat' split
  all_goals simp

@[simp] theorem deadTimeExpired_fixed (f : FeederId) (s : State) :
    (deadTimeExpired f s).fixed = s.fixed := by
  unfold deadTimeExpired
  dsimp only
  repeat' split
  all_goals simp

@[simp] theorem followExpired_fixed (f : FeederId) (s : State) :
    (followExpired f s).fixed = s.fixed := by
  unfold followExpired
  dsimp only
  repeat' split
  all_goals simp

@[simp] theorem blindExpired_fixed (f : FeederId) (s : State) : (blindExpired f s).fixed = s.fixed := by
  unfold blindExpired
  dsimp only
  repeat' split
  all_goals simp

/-! Protection -/

@[simp] theorem thermalSample_fixed (f : FeederId) (i : Int) (s : State) :
    (thermalSample f i s).fixed = s.fixed := by
  unfold thermalSample
  dsimp only
  repeat' split
  all_goals simp

@[simp] theorem wouldTrip_fixed (f : FeederId) (req : TripRequest) (s : State) :
    (wouldTrip f req s).fixed = s.fixed := by
  unfold wouldTrip
  dsimp only
  repeat' split
  all_goals simp

@[simp] theorem raiseTrip_fixed (f : FeederId) (req : TripRequest) (s : State) :
    (raiseTrip f req s).fixed = s.fixed := by
  unfold raiseTrip
  dsimp only
  repeat' split
  all_goals simp

@[simp] theorem reportSlowRise_fixed (f : FeederId) (e : DdlEvent) (s : State) :
    (reportSlowRise f e s).fixed = s.fixed := by
  unfold reportSlowRise
  repeat' split
  all_goals simp

@[simp] theorem armedSample_fixed (f : FeederId) (x : FeederTaken) (s : State) :
    (armedSample f x s).fixed = s.fixed := by
  unfold armedSample
  dsimp only
  repeat' split
  all_goals simp

@[simp] theorem protectionSample_fixed (f : FeederId) (x : FeederTaken) (s : State) :
    (protectionSample f x s).fixed = s.fixed := by
  unfold protectionSample
  repeat' split
  all_goals simp

/-! The group -/

@[simp] theorem offerFiring_fixed (correction : Int) (block resync : Bool) (s : State) :
    (offerFiring correction block resync s).fixed = s.fixed := by
  unfold offerFiring
  simp

@[simp] theorem anchorReference_fixed (tm : Stamp) (s : State) :
    (anchorReference tm s).fixed = s.fixed := by
  unfold anchorReference
  dsimp only
  simp

@[simp] theorem hardSync_fixed (tm : Stamp) (s : State) : (hardSync tm s).fixed = s.fixed := by
  unfold hardSync
  dsimp only
  simp

@[simp] theorem anchorCrossing_fixed (tm : Stamp) (s : State) :
    (anchorCrossing tm s).fixed = s.fixed := by
  unfold anchorCrossing
  dsimp only
  simp

@[simp] theorem slip_fixed (tm : Stamp) (e : Int) (s : State) : (slip tm e s).fixed = s.fixed := by
  unfold slip
  dsimp only
  simp

@[simp] theorem regulate_fixed (s : State) : (regulate s).fixed = s.fixed := by
  unfold regulate
  dsimp only
  repeat' split
  all_goals simp

@[simp] theorem wakeTest_fixed (s : State) : (wakeTest s).fixed = s.fixed := by
  unfold wakeTest
  dsimp only
  repeat' split
  all_goals simp

@[simp] theorem trackReference_fixed (p : Stamp) (e corr : Int) (s : State) :
    (trackReference p e corr s).fixed = s.fixed := by
  unfold trackReference
  dsimp only
  simp

@[simp] theorem trackCrossing_fixed (p : Stamp) (e : Int) (s : State) :
    (trackCrossing p e s).fixed = s.fixed := by
  unfold trackCrossing
  dsimp only
  repeat' split
  all_goals simp

@[simp] theorem runningCrossing_fixed (tm : Stamp) (s : State) :
    (runningCrossing tm s).fixed = s.fixed := by
  unfold runningCrossing
  dsimp only
  repeat' split
  all_goals simp

@[simp] theorem takeCrossing_fixed (tm : Stamp) (s : State) : (takeCrossing tm s).fixed = s.fixed := by
  unfold takeCrossing
  repeat' split
  all_goals simp

@[simp] theorem referenceLost_fixed (s : State) : (referenceLost s).fixed = s.fixed := by
  unfold referenceLost
  dsimp only
  repeat' split
  all_goals simp

@[simp] theorem watchExpired_fixed (s : State) : (watchExpired s).fixed = s.fixed := by
  unfold watchExpired
  dsimp only
  repeat' split
  all_goals simp

@[simp] theorem accumulate_fixed (x : RectTaken) (s : State) : (accumulate x s).fixed = s.fixed := by
  unfold accumulate
  dsimp only
  repeat' split
  all_goals simp

@[simp] theorem faultOrWouldTrip_fixed (cause : FaultCause) (s : State) :
    (faultOrWouldTrip cause s).fixed = s.fixed := by
  unfold faultOrWouldTrip
  repeat' split
  all_goals simp

@[simp] theorem testOvercurrent_fixed (x : RectTaken) (s : State) :
    (testOvercurrent x s).fixed = s.fixed := by
  unfold testOvercurrent
  dsimp only
  repeat' split
  all_goals simp

@[simp] theorem testStackWarning_fixed (temp : Int) (s : State) :
    (testStackWarning temp s).fixed = s.fixed := by
  unfold testStackWarning
  dsimp only
  repeat' split
  all_goals simp

@[simp] theorem stackHold_fixed (s : State) : (stackHold s).fixed = s.fixed := by
  unfold stackHold
  dsimp only
  simp

@[simp] theorem stackEndsProbe_fixed (s : State) : (stackEndsProbe s).fixed = s.fixed := by
  unfold stackEndsProbe
  repeat' split
  all_goals simp

@[simp] theorem stackOnset_fixed (s : State) : (stackOnset s).fixed = s.fixed := by
  unfold stackOnset
  repeat' split
  all_goals simp

@[simp] theorem stackCleared_fixed (s : State) : (stackCleared s).fixed = s.fixed := by
  unfold stackCleared
  dsimp only
  repeat' split
  all_goals simp

@[simp] theorem testStackTrip_fixed (temp : Int) (s : State) :
    (testStackTrip temp s).fixed = s.fixed := by
  unfold testStackTrip
  dsimp only
  repeat' split
  all_goals simp

@[simp] theorem testStack_fixed (temp : Int) (s : State) : (testStack temp s).fixed = s.fixed := by
  unfold testStack
  repeat' split
  all_goals simp

@[simp] theorem rectSample_fixed (x : RectTaken) (s : State) : (rectSample x s).fixed = s.fixed := by
  unfold rectSample
  dsimp only
  repeat' split
  all_goals simp

@[simp] theorem firingStatus_fixed (st : FiringState) (s : State) :
    (firingStatus st s).fixed = s.fixed := by
  unfold firingStatus
  dsimp only
  repeat' split
  all_goals simp

@[simp] theorem mirrorRunning_fixed (s : State) : (mirrorRunning s).fixed = s.fixed := by
  unfold mirrorRunning
  repeat' split
  all_goals simp

@[simp] theorem mirrorParked_fixed (s : State) : (mirrorParked s).fixed = s.fixed := by
  unfold mirrorParked
  repeat' split
  all_goals simp

@[simp] theorem acUncommandedClose_fixed (s : State) : (acUncommandedClose s).fixed = s.fixed := by
  unfold acUncommandedClose
  dsimp only
  repeat' split
  all_goals simp

@[simp] theorem acClosed_fixed (s : State) : (acClosed s).fixed = s.fixed := by
  unfold acClosed
  repeat' split
  all_goals simp

@[simp] theorem acOpened_fixed (s : State) : (acOpened s).fixed = s.fixed := by
  unfold acOpened
  dsimp only
  repeat' split
  all_goals simp

@[simp] theorem acMirrored_fixed (pos : BreakerPos) (s : State) :
    (acMirrored pos s).fixed = s.fixed := by
  unfold acMirrored
  repeat' split
  all_goals simp

@[simp] theorem acStatus_fixed (pos : BreakerPos) (s : State) : (acStatus pos s).fixed = s.fixed := by
  unfold acStatus
  dsimp only
  repeat' split
  all_goals simp

@[simp] theorem acTimerExpired_fixed (s : State) : (acTimerExpired s).fixed = s.fixed := by
  unfold acTimerExpired
  dsimp only
  repeat' split
  all_goals simp

@[simp] theorem serveRun_fixed (s : State) : (serveRun s).fixed = s.fixed := by
  unfold serveRun
  dsimp only
  repeat' split
  all_goals simp

@[simp] theorem restIntoProbe_fixed (s : State) : (restIntoProbe s).fixed = s.fixed := by
  unfold restIntoProbe
  dsimp only
  simp

@[simp] theorem serveRest_fixed (s : State) : (serveRest s).fixed = s.fixed := by
  unfold serveRest
  dsimp only
  repeat' split
  all_goals simp

@[simp] theorem serveReset_fixed (s : State) : (serveReset s).fixed = s.fixed := by
  unfold serveReset
  dsimp only
  simp

/-! Line-test samples -/

@[simp] theorem coolingSample_fixed (f : FeederId) (s : State) :
    (coolingSample f s).fixed = s.fixed := by
  unfold coolingSample
  repeat' split
  all_goals simp

@[simp] theorem closeContactor_fixed (f : FeederId) (s : State) :
    (closeContactor f s).fixed = s.fixed := by
  unfold closeContactor
  dsimp only
  simp

@[simp] theorem liveSample_fixed (f : FeederId) (x : FeederTaken) (s : State) :
    (liveSample f x s).fixed = s.fixed := by
  unfold liveSample
  dsimp only
  repeat' split
  all_goals simp

@[simp] theorem settleSample_fixed (f : FeederId) (s : State) : (settleSample f s).fixed = s.fixed := by
  unfold settleSample
  dsimp only
  repeat' split
  all_goals simp

@[simp] theorem sumsComplete_fixed (f : FeederId) (sumU sumUb : Nat) (s : State) :
    (sumsComplete f sumU sumUb s).fixed = s.fixed := by
  unfold sumsComplete
  dsimp only
  repeat' split
  all_goals simp

@[simp] theorem sumSample_fixed (f : FeederId) (x : FeederTaken) (s : State) :
    (sumSample f x s).fixed = s.fixed := by
  unfold sumSample
  dsimp only
  repeat' split
  all_goals simp

@[simp] theorem testSample_fixed (f : FeederId) (x : FeederTaken) (s : State) :
    (testSample f x s).fixed = s.fixed := by
  unfold testSample
  dsimp only
  repeat' split
  all_goals simp

@[simp] theorem sequenceSample_fixed (f : FeederId) (x : FeederTaken) (s : State) :
    (sequenceSample f x s).fixed = s.fixed := by
  unfold sequenceSample
  dsimp only
  repeat' split
  all_goals simp

/-! Ties -/

@[simp] theorem failEntryOn_fixed (t : Tie) (f : FeederId) (s : State) :
    (failEntryOn t f s).fixed = s.fixed := by
  unfold failEntryOn
  repeat' split
  all_goals simp

@[simp] theorem downNotice_fixed (t : Tie) (f : FeederId) (s : State) :
    (downNotice t f s).fixed = s.fixed := by
  unfold downNotice
  dsimp only
  repeat' split
  all_goals simp

@[simp] theorem tieGoesDown_fixed (t : Tie) (why : Int) (s : State) :
    (tieGoesDown t why s).fixed = s.fixed := by
  unfold tieGoesDown
  dsimp only
  split <;> simp [forFeeders_fixed (downNotice_fixed t), forFeeders_fixed (failEntryOn_fixed t)]

@[simp] theorem tieLost_fixed (t : Tie) (s : State) : (tieLost t s).fixed = s.fixed := by
  unfold tieLost
  dsimp only
  repeat' split
  all_goals simp

@[simp] theorem tieSilenceExpiry_fixed (t : Tie) (s : State) :
    (tieSilenceExpiry t s).fixed = s.fixed := by
  unfold tieSilenceExpiry
  dsimp only
  repeat' split
  all_goals simp

@[simp] theorem beatGapExpiry_fixed (t : Tie) (s : State) : (beatGapExpiry t s).fixed = s.fixed := by
  unfold beatGapExpiry
  dsimp only
  repeat' split
  all_goals simp

@[simp] theorem beatSendExpiry_fixed (t : Tie) (s : State) : (beatSendExpiry t s).fixed = s.fixed := by
  unfold beatSendExpiry
  dsimp only
  repeat' split
  all_goals simp

@[simp] theorem countBeat_fixed (t : Tie) (s : State) : (countBeat t s).fixed = s.fixed := by
  unfold countBeat
  dsimp only
  repeat' split
  all_goals simp

@[simp] theorem recordFarMode_fixed (t : Tie) (m : Mode) (s : State) :
    (recordFarMode t m s).fixed = s.fixed := by
  unfold recordFarMode
  dsimp only
  repeat' split
  all_goals simp

@[simp] theorem repeatExpiry_fixed (f : FeederId) (s : State) : (repeatExpiry f s).fixed = s.fixed := by
  unfold repeatExpiry
  dsimp only
  repeat' split
  all_goals simp

@[simp] theorem entryAcked_fixed (f : FeederId) (e : Entry) (result : AckResult) (s : State) :
    (entryAcked f e result s).fixed = s.fixed := by
  unfold entryAcked
  dsimp only
  simp

@[simp] theorem replayEntryExpiry_fixed (f : FeederId) (s : State) :
    (replayEntryExpiry f s).fixed = s.fixed := by
  unfold replayEntryExpiry
  repeat' split
  all_goals simp

@[simp] theorem serveAck_fixed (f : FeederId) (e : Entry) (result : AckResult) (s : State) :
    (serveAck f e result s).fixed = s.fixed := by
  unfold serveAck
  repeat' split
  all_goals simp

@[simp] theorem receiveAck_fixed (t : Tie) (sec tag : Byte) (result : AckResult) (s : State) :
    (receiveAck t sec tag result s).fixed = s.fixed := by
  unfold receiveAck
  repeat' split
  all_goals simp

@[simp] theorem interDeadTime_fixed (f : FeederId) (s : State) :
    (interDeadTime f s).fixed = s.fixed := by
  unfold interDeadTime
  dsimp only
  repeat' split
  all_goals simp

@[simp] theorem interAction_fixed (f : FeederId) (s : State) : (interAction f s).fixed = s.fixed := by
  unfold interAction
  dsimp only
  repeat' split
  all_goals simp

@[simp] theorem answerTripReq_fixed (t : Tie) (sec : Byte) (cause : InterCause) (tag : Byte)
    (result : AckResult) (s : State) :
    (answerTripReq t sec cause tag result s).fixed = s.fixed := by
  unfold answerTripReq
  simp

@[simp] theorem serveTripReq_fixed (t : Tie) (f : FeederId) (sec : Byte) (cause : InterCause)
    (tag : Byte) (s : State) :
    (serveTripReq t f sec cause tag s).fixed = s.fixed := by
  unfold serveTripReq
  dsimp only
  simp

@[simp] theorem receiveTripReq_fixed (t : Tie) (sec : Byte) (cause : InterCause) (tag : Byte)
    (s : State) :
    (receiveTripReq t sec cause tag s).fixed = s.fixed := by
  unfold receiveTripReq
  repeat' split
  all_goals simp

@[simp] theorem windowExpiry_fixed (f : FeederId) (s : State) : (windowExpiry f s).fixed = s.fixed := by
  unfold windowExpiry
  dsimp only
  simp

@[simp] theorem followerClear_fixed (f : FeederId) (s : State) :
    (followerClear f s).fixed = s.fixed := by
  unfold followerClear
  dsimp only
  repeat' split
  all_goals simp

@[simp] theorem receiveSection_fixed (t : Tie) (hold : Bool) (sec : Byte) (s : State) :
    (receiveSection t hold sec s).fixed = s.fixed := by
  unfold receiveSection
  dsimp only
  repeat' split
  all_goals simp

@[simp] theorem serveTieMsg_fixed (t : Tie) (m : TieMsg) (s : State) :
    (serveTieMsg t m s).fixed = s.fixed := by
  unfold serveTieMsg
  repeat' split
  all_goals simp

@[simp] theorem restartSilence_fixed (t : Tie) (s : State) : (restartSilence t s).fixed = s.fixed := by
  unfold restartSilence
  dsimp only
  repeat' split
  all_goals simp

@[simp] theorem tieFrame_fixed (t : Tie) (payload : List Byte) (s : State) :
    (tieFrame t payload s).fixed = s.fixed := by
  unfold tieFrame
  dsimp only
  repeat' split
  all_goals simp

/-! Intake -/

@[simp] theorem setFrozen_fixed (f : FeederId) (i : Int) (s : State) :
    (setFrozen f i s).fixed = s.fixed := by
  unfold setFrozen
  dsimp only
  simp

@[simp] theorem detectFrozen_fixed (f : FeederId) (x : FeederTaken) (s : State) :
    (detectFrozen f x s).fixed = s.fixed := by
  unfold detectFrozen
  dsimp only
  repeat' split
  all_goals simp

@[simp] theorem clearFrozen_fixed (f : FeederId) (x : FeederTaken) (s : State) :
    (clearFrozen f x s).fixed = s.fixed := by
  unfold clearFrozen
  dsimp only
  repeat' split
  all_goals simp

@[simp] theorem frozenSample_fixed (f : FeederId) (x : FeederTaken) (s : State) :
    (frozenSample f x s).fixed = s.fixed := by
  unfold frozenSample
  repeat' split
  all_goals simp

@[simp] theorem watchSample_fixed (f : FeederId) (seq : Byte) (s : State) :
    (watchSample f seq s).fixed = s.fixed := by
  unfold watchSample
  dsimp only
  repeat' split
  all_goals simp

@[simp] theorem recordAccepted_fixed (f : FeederId) (seq : Byte) (x : FeederTaken) (s : State) :
    (recordAccepted f seq x s).fixed = s.fixed := by
  unfold recordAccepted
  dsimp only
  repeat' split
  all_goals simp

@[simp] theorem decimate_fixed (f : FeederId) (fr : RxFrame) (s : State) :
    (decimate f fr s).fixed = s.fixed := by
  unfold decimate
  dsimp only
  repeat' split
  all_goals simp

@[simp] theorem acceptFeeder_fixed (f : FeederId) (seq : Byte) (g : Nat) (x : FeederSample)
    (copy : Option RxFrame) (s : State) :
    (acceptFeeder f seq g x copy s).fixed = s.fixed := by
  unfold acceptFeeder
  dsimp only
  repeat' split
  all_goals simp

@[simp] theorem recordFault_fixed (f : FeederId) (seq : Byte) (g : Nat) (s : State) :
    (recordFault f seq g s).fixed = s.fixed := by
  unfold recordFault
  dsimp only
  repeat' split
  all_goals simp

@[simp] theorem takeFeeder_fixed (f : FeederId) (seq : Byte) (g : Nat) (x : FeederSample)
    (copy : Option RxFrame) (s : State) :
    (takeFeeder f seq g x copy s).fixed = s.fixed := by
  unfold takeFeeder
  repeat' split
  all_goals simp

@[simp] theorem feederSample_fixed (f : FeederId) (fr : RxFrame) (s : State) :
    (feederSample f fr s).fixed = s.fixed := by
  unfold feederSample
  repeat' split
  all_goals simp

@[simp] theorem injectFeeder_fixed (f : FeederId) (x : FeederSample) (s : State) :
    (injectFeeder f x s).fixed = s.fixed := by
  unfold injectFeeder
  simp

end Sys2Proof.Machine
end

