-- ==== Sys2Proof/Laws/Feeder.lean ====
section
/-! SUPPORT. What the shared operations on a feeder record do: the record after a change of state and
after the entry to a dead-time phase, and that no other feeder's record changes. -/

namespace Sys2Proof.Machine

/-! Protection put at rest -/

@[simp] theorem disarmIfLeft_sq (f g : FeederId) (old new : FeederState) (s : State) :
    (disarmIfLeft f old new s).sq g = s.sq g := by
  unfold disarmIfLeft; split <;> simp

theorem disarmIfLeft_feeder_ne {f g : FeederId} (old new : FeederState) (s : State) (h : g ≠ f) :
    (disarmIfLeft f old new s).feeder g = s.feeder g := by
  unfold disarmIfLeft; split
  · exact State.setProt_feeder_ne _ _ h
  · rfl

@[simp] theorem disarmIfLeft_rect (f : FeederId) (old new : FeederState) (s : State) :
    (disarmIfLeft f old new s).rect = s.rect := by
  unfold disarmIfLeft; split <;> rfl

@[simp] theorem disarmIfLeft_ports (f : FeederId) (old new : FeederState) (s : State) :
    (disarmIfLeft f old new s).ports = s.ports := by
  unfold disarmIfLeft; split <;> rfl

@[simp] theorem disarmIfLeft_reports (f : FeederId) (old new : FeederState) (s : State) :
    (disarmIfLeft f old new s).reports = s.reports := by
  unfold disarmIfLeft; split <;> rfl

/-! Changing a feeder's state -/

@[simp] theorem withdrawLatched_feeder (f g : FeederId) (s : State) :
    (withdrawLatched f s).feeder g = s.feeder g := rfl

@[simp] theorem withdrawLatched_sq (f g : FeederId) (s : State) :
    (withdrawLatched f s).sq g = s.sq g := rfl

/-- A change of state leaves the feeder with the entered record (R76, R85, R100, R105). -/
theorem enterCore_sq (f : FeederId) (new : FeederState) (cause : Option LockoutCause) (s : State) :
    (enterCore f new cause s).sq f = (s.sq f).entered s.mode new cause := by
  simp [enterCore]

/-- A change of state touches no other feeder. -/
theorem enterCore_feeder_ne {f g : FeederId} (new : FeederState) (cause : Option LockoutCause)
    (s : State) (h : g ≠ f) : (enterCore f new cause s).feeder g = s.feeder g := by
  unfold enterCore
  simp only [disarmIfLeft_feeder_ne _ _ _ h, State.setSq_feeder_ne _ _ h]
  split <;> rfl

/-- A change of state reaches the group only through a latched test withdrawn (R100, R132). -/
theorem enterCore_rect (f : FeederId) (new : FeederState) (cause : Option LockoutCause) (s : State) :
    (enterCore f new cause s).rect =
      if (s.sq f).pendingTest = true ∧ new ≠ .deadTime then
        { s.rect with latched := s.rect.latched.set f false }
      else s.rect := by
  by_cases h : (s.sq f).pendingTest <;> by_cases hn : new = .deadTime <;>
    simp [enterCore, h, hn, withdrawLatched]

@[simp] theorem enterCore_ports (f : FeederId) (new : FeederState) (cause : Option LockoutCause)
    (s : State) : (enterCore f new cause s).ports = s.ports := by
  unfold enterCore; simp only [disarmIfLeft_ports, State.setSq_ports]; split <;> rfl

@[simp] theorem enterCore_reports (f : FeederId) (new : FeederState) (cause : Option LockoutCause)
    (s : State) : (enterCore f new cause s).reports = s.reports := by
  unfold enterCore; simp only [disarmIfLeft_reports, State.setSq_reports]; split <;> rfl

@[simp] theorem FeederRec.entered_state (m : Mode) (new : FeederState) (cause : Option LockoutCause)
    (r : FeederRec) : (r.entered m new cause).state = new := rfl

@[simp] theorem FeederRec.entered_tripLine (m : Mode) (new : FeederState)
    (cause : Option LockoutCause) (r : FeederRec) :
    (r.entered m new cause).tripLine = tripLevel m new cause := rfl

@[simp] theorem FeederRec.entered_shotCount (m : Mode) (new : FeederState)
    (cause : Option LockoutCause) (r : FeederRec) :
    (r.entered m new cause).shotCount = r.shotCount := rfl

@[simp] theorem FeederRec.entered_blind (m : Mode) (new : FeederState)
    (cause : Option LockoutCause) (r : FeederRec) : (r.entered m new cause).blind = r.blind := rfl

@[simp] theorem FeederRec.entered_frozen (m : Mode) (new : FeederState)
    (cause : Option LockoutCause) (r : FeederRec) : (r.entered m new cause).frozen = r.frozen := rfl

/-- The level of a trip line by R76, in words. -/
theorem tripLevel_eq_true (m : Mode) (st : FeederState) (cause : Option LockoutCause) :
    tripLevel m st cause = true ↔
      m ≠ .replay ∧ (st = .tripping ∨ (st = .lockout ∧ cause = some .breakerFailure)) := by
  simp [tripLevel]

/-! Dead-time phases -/

/-- The record before the phase and its timer are written by `enterPhase`. -/
theorem enterPhase_sq_eq (f : FeederId) (ph : Phase) (timer : Timer) (s : State) :
    (enterPhase f ph timer s).sq f =
      let r := if (s.sq f).state = .deadTime then s.sq f
        else (s.sq f).entered s.mode .deadTime none
      { r with phase := some ph, dead := timer, test := r.test.ended } := by
  unfold enterPhase
  by_cases h : (s.sq f).state = .deadTime <;> by_cases hp : (s.sq f).phase = some ph <;>
    simp [h, hp, enterCore_sq]

/-- After the entry to a dead-time phase the feeder is in DEAD_TIME, in that phase, with its timer and its
shot count (R100). -/
theorem enterPhase_sq (f : FeederId) (ph : Phase) (timer : Timer) (s : State) :
    ((enterPhase f ph timer s).sq f).state = .deadTime
      ∧ ((enterPhase f ph timer s).sq f).phase = some ph
      ∧ ((enterPhase f ph timer s).sq f).dead = timer
      ∧ ((enterPhase f ph timer s).sq f).shotCount = (s.sq f).shotCount := by
  rw [enterPhase_sq_eq]
  by_cases h : (s.sq f).state = .deadTime <;> simp [h]

/-- The entry to a dead-time phase touches no other feeder. -/
theorem enterPhase_feeder_ne {f g : FeederId} (ph : Phase) (timer : Timer) (s : State) (h : g ≠ f) :
    (enterPhase f ph timer s).feeder g = s.feeder g := by
  unfold enterPhase
  by_cases hd : (s.sq f).state = .deadTime <;> by_cases hp : (s.sq f).phase = some ph <;>
    simp [hd, hp, State.setSq_feeder_ne _ _ h, enterCore_feeder_ne _ _ _ h]

/-! The shot of an aborted test -/

/-- An aborted test consumes no shot: a counted one is given back and the mark cleared (R115, R116). -/
theorem giveShotBack_sq (f : FeederId) (s : State) :
    (giveShotBack f s).sq f =
      if (s.sq f).shotTaken = true then
        { s.sq f with shotCount := (s.sq f).shotCount - 1, shotTaken := false }
      else s.sq f := by
  unfold giveShotBack; split <;> simp_all

@[simp] theorem giveShotBack_sq_state (f : FeederId) (s : State) :
    ((giveShotBack f s).sq f).state = (s.sq f).state := by
  rw [giveShotBack_sq]; split <;> rfl

@[simp] theorem giveShotBack_sq_shotTaken (f : FeederId) (s : State) :
    ((giveShotBack f s).sq f).shotTaken = false := by
  rw [giveShotBack_sq]; split <;> simp_all

theorem giveShotBack_feeder_ne {f g : FeederId} (s : State) (h : g ≠ f) :
    (giveShotBack f s).feeder g = s.feeder g := by
  unfold giveShotBack; dsimp only; split
  · exact State.setSq_feeder_ne _ _ h
  · rfl

@[simp] theorem giveShotBack_rect (f : FeederId) (s : State) : (giveShotBack f s).rect = s.rect := by
  unfold giveShotBack; dsimp only; split <;> rfl

@[simp] theorem giveShotBack_ports (f : FeederId) (s : State) :
    (giveShotBack f s).ports = s.ports := by
  unfold giveShotBack; dsimp only; split <;> rfl

@[simp] theorem giveShotBack_reports (f : FeederId) (s : State) :
    (giveShotBack f s).reports = s.reports := by
  unfold giveShotBack; dsimp only; split <;> rfl

end Sys2Proof.Machine
end

