-- ==== Sys2Proof/Laws/Group.lean ====
section
/-! SUPPORT. What the shared operations on the rectifier record do: the record after a passage of the group,
and that a passage by itself changes no feeder record. -/

namespace Sys2Proof.Machine

/-! Offering a command of the group -/

@[simp] theorem offerRect_rect (force : Bool) (c : FieldCommand) (s : State) :
    (offerRect force c s).rect = s.rect := by
  unfold offerRect; split <;> simp

@[simp] theorem offerRect_reports (force : Bool) (c : FieldCommand) (s : State) :
    (offerRect force c s).reports = s.reports := by
  unfold offerRect; split <;> simp

@[simp] theorem offerRect_sq (force : Bool) (c : FieldCommand) (s : State) (f : FeederId) :
    (offerRect force c s).sq f = s.sq f := by
  unfold offerRect; split <;> simp

@[simp] theorem offerBlocked_rect (force : Bool) (s : State) :
    (offerBlocked force s).rect = s.rect := by
  unfold offerBlocked; simp

@[simp] theorem offerBlocked_reports (force : Bool) (s : State) :
    (offerBlocked force s).reports = s.reports := by
  unfold offerBlocked; simp

@[simp] theorem offerBlocked_sq (force : Bool) (s : State) (f : FeederId) :
    (offerBlocked force s).sq f = s.sq f := by
  unfold offerBlocked; rw [offerRect_sq]; rfl

/-! Passages of the group -/

/-- A passage leaves the group with the entered record (R120). -/
@[simp] theorem rectMove_rect (new : RectState) (cause : RectCause) (s : State) :
    (rectMove new cause s).rect = s.rect.entered new cause := by
  unfold rectMove; split <;> simp

@[simp] theorem rectMove_sq (new : RectState) (cause : RectCause) (s : State) (f : FeederId) :
    (rectMove new cause s).sq f = s.sq f := by
  unfold rectMove; split <;> simp

/-- Parking enters PARKED and starts the AC timer with 1 s (R122, R133, R138). -/
theorem park_rect (cause : RectCause) (s : State) :
    (park cause s).rect = { s.rect.entered .parked cause with acTimer := some 1000000 } := by
  simp [park, Config.acTime]

@[simp] theorem park_sq (cause : RectCause) (s : State) (f : FeederId) :
    (park cause s).sq f = s.sq f := by
  have h : (park cause s).sq f = (offerRect false (.acBreaker false) (rectMove .parked cause s)).sq f :=
    rfl
  rw [h, offerRect_sq, rectMove_sq]

/-- STARTING begins with α at α_max, with the crossing wait where the AC breaker is CLOSED already and
the breaker wait of 1 s where it is not (R124). -/
theorem enterStarting_rect (s : State) :
    (enterStarting s).rect =
      let r := { s.rect with alpha := alphaMax s }.entered .starting .none
      if s.rect.acPos = .closed then
        { r with firstCrossingWait := true, acTimer := some (3 * nominalPeriod s.rectRow) }
      else { r with acTimer := some 1000000 } := by
  have hrow : ∀ t : State, (offerRect false (.acBreaker true) t).rectRow = t.rectRow := fun t =>
    rectRow_of_fixed (offerRect_fixed _ _ _)
  have hmove : ∀ (n : RectState) (c : RectCause) (t : State), (rectMove n c t).rectRow = t.rectRow :=
    fun n c t => rectRow_of_fixed (rectMove_fixed _ _ _)
  by_cases h : s.rect.acPos = .closed <;>
    simp [enterStarting, beginCrossingWait, h, hrow, hmove, RectRec.entered, Config.acTime]

@[simp] theorem RectRec.entered_state (new : RectState) (cause : RectCause) (r : RectRec) :
    (r.entered new cause).state = new := rfl

@[simp] theorem RectRec.entered_alpha (new : RectState) (cause : RectCause) (r : RectRec) :
    (r.entered new cause).alpha = r.alpha := rfl

@[simp] theorem RectRec.entered_acTrip (new : RectState) (cause : RectCause) (r : RectRec) :
    (r.entered new cause).acTrip = r.acTrip := rfl

@[simp] theorem RectRec.entered_sets (new : RectState) (cause : RectCause) (r : RectRec) :
    (r.entered new cause).latched = r.latched ∧ (r.entered new cause).testers = r.testers :=
  ⟨rfl, rfl⟩

end Sys2Proof.Machine
end

