-- ==== Sys2Proof/Laws/PerInstr.lean ====
section
/-! SUPPORT. The family CommandSource: which commands are the taking of a request of the request queue
(R176), and that the taking of a request and the request of a command are inverse, one lemma for each
command. -/

namespace Sys2Proof.Laws.CommandSource

/-- The ticket and the request of a command that is the taking of a request, `none` for a command that is
a frame, an expiry or an event of a line. -/
def requestOf : Instr → Option (Ticket × Request)
  | .errorFrameReceived _ _ => none
  | .lostPortGoodFrame _ _ => none
  | .frameRejected _ _ => none
  | .forwardUp _ => none
  | .forwardDown _ => none
  | .manageReceived _ _ => none
  | .transmitEnd _ => none
  | .feederSampleReceived _ => none
  | .blind _ => none
  | .rectSampleReceived _ _ => none
  | .rectSilenceExpired => none
  | .breakerStatusReceived _ => none
  | .openTimerExpired _ => none
  | .closeTimerExpired _ => none
  | .sotfTimerExpired _ => none
  | .reclaimExpired _ => none
  | .deadTimeExpired _ => none
  | .actingMaster _ => none
  | .acTimerExpired => none
  | .crossingWatchExpired => none
  | .acBreakerStatusReceived _ => none
  | .firingStatusReceived _ => none
  | .beatSend _ => none
  | .beatReceived _ _ => none
  | .beatGapExpired _ => none
  | .tieSilenceExpired _ => none
  | .tieFrameMalformed _ _ => none
  | .tripReqReceived _ _ => none
  | .tripAckReceived _ _ => none
  | .repeatTimerExpired _ => none
  | .replayIntertripTimeout _ => none
  | .repeatWindowExpired _ => none
  | .sectionClearReceived _ _ => none
  | .sectionHoldReceived _ _ => none
  | .reportBuild => none
  | .batchTimeout => none
  | .simOperationComplete _ => none
  | .readRowNode k row => some (k, .readRowNode row)
  | .readRowFeeder k row => some (k, .readRowFeeder row)
  | .readRowRect k row => some (k, .readRowRect row)
  | .readRowSection k row => some (k, .readRowSection row)
  | .readRowPort k row => some (k, .readRowPort row)
  | .readRowReport k row => some (k, .readRowReport row)
  | .readRecordFeeder k n => some (k, .readRecordFeeder n)
  | .readRecordRect k => some (k, .readRecordRect)
  | .readRecordPort k p => some (k, .readRecordPort p)
  | .readRecordTie k t => some (k, .readRecordTie t)
  | .readRecordDevice k => some (k, .readRecordDevice)
  | .writeRowNode k row w => some (k, .writeRowNode row w)
  | .writeRowFeeder k row w => some (k, .writeRowFeeder row w)
  | .writeRowRect k row w => some (k, .writeRowRect row w)
  | .writeRowSection k row w => some (k, .writeRowSection row w)
  | .writeRowPort k row w => some (k, .writeRowPort row w)
  | .writeRowReport k row w => some (k, .writeRowReport row w)
  | .inService k n => some (k, .inService n)
  | .outOfService k n => some (k, .outOfService n)
  | .closeFeeder k n => some (k, .closeFeeder n)
  | .openFeeder k n => some (k, .openFeeder n)
  | .resetLockout k n => some (k, .resetLockout n)
  | .rectRun k => some (k, .rectRun)
  | .rectRest k => some (k, .rectRest)
  | .rectReset k => some (k, .rectReset)
  | .setMode k m => some (k, .setMode m)
  | .setTime k t => some (k, .setTime t)
  | .captureStart k n => some (k, .captureStart n)
  | .captureRead k slot segment => some (k, .captureRead slot segment)
  | .captureRelease k slot => some (k, .captureRelease slot)
  | .inject k node payload => some (k, .inject node payload)
  | .portRecover k p => some (k, .portRecover p)
  | .restart k => some (k, .restart)
  | .badRequest k why => some (k, .bad why)
  | .keyChange _ => none
  | .estopAsserted => none
  | .estopReleased => none
  | .coldReset => none
  | .resetRelease _ _ => none
  | .keyFirstSettling _ => none

/-- What a command says of its source: it is the taking of a request by a requester exactly when that
ticket and request are its own. No field of a queued request is lost when it is taken, and no other
command is taken from the queue. -/
def Statement (i : Instr) : Prop :=
  ∀ (k : Ticket) (r : Request), r.toInstr k = i ↔ requestOf i = some (k, r)

theorem requestOf_toInstr (k : Ticket) (r : Request) : requestOf (r.toInstr k) = some (k, r) := by
  cases r <;> rfl

theorem toInstr_of_requestOf {i : Instr} {k : Ticket} {r : Request} (h : requestOf i = some (k, r)) :
    r.toInstr k = i := by
  cases i <;> cases h <;> rfl

theorem sound (i : Instr) : Statement i := fun k r =>
  ⟨fun h => h ▸ requestOf_toInstr k r, toInstr_of_requestOf⟩

theorem errorFrameReceived (p : Port) (bytes : List Byte) :
    Statement (.errorFrameReceived p bytes) := sound _

theorem lostPortGoodFrame (p : Port) (bytes : List Byte) :
    Statement (.lostPortGoodFrame p bytes) := sound _

theorem frameRejected (p : Port) (bytes : List Byte) : Statement (.frameRejected p bytes) := sound _

theorem forwardUp (bytes : List Byte) : Statement (.forwardUp bytes) := sound _

theorem forwardDown (bytes : List Byte) : Statement (.forwardDown bytes) := sound _

theorem manageReceived (p : Port) (bytes : List Byte) : Statement (.manageReceived p bytes) := sound _

theorem transmitEnd (p : Port) : Statement (.transmitEnd p) := sound _

theorem feederSampleReceived (bytes : List Byte) : Statement (.feederSampleReceived bytes) := sound _

theorem blind (f : FeederId) : Statement (.blind f) := sound _

theorem rectSampleReceived (stamp : Stamp) (bytes : List Byte) :
    Statement (.rectSampleReceived stamp bytes) := sound _

theorem rectSilenceExpired : Statement .rectSilenceExpired := sound _

theorem breakerStatusReceived (bytes : List Byte) : Statement (.breakerStatusReceived bytes) := sound _

theorem openTimerExpired (f : FeederId) : Statement (.openTimerExpired f) := sound _

theorem closeTimerExpired (f : FeederId) : Statement (.closeTimerExpired f) := sound _

theorem sotfTimerExpired (f : FeederId) : Statement (.sotfTimerExpired f) := sound _

theorem reclaimExpired (f : FeederId) : Statement (.reclaimExpired f) := sound _

theorem deadTimeExpired (f : FeederId) : Statement (.deadTimeExpired f) := sound _

theorem actingMaster (f : FeederId) : Statement (.actingMaster f) := sound _

theorem acTimerExpired : Statement .acTimerExpired := sound _

theorem crossingWatchExpired : Statement .crossingWatchExpired := sound _

theorem acBreakerStatusReceived (bytes : List Byte) :
    Statement (.acBreakerStatusReceived bytes) := sound _

theorem firingStatusReceived (bytes : List Byte) : Statement (.firingStatusReceived bytes) := sound _

theorem beatSend (t : Tie) : Statement (.beatSend t) := sound _

theorem beatReceived (t : Tie) (bytes : List Byte) : Statement (.beatReceived t bytes) := sound _

theorem beatGapExpired (t : Tie) : Statement (.beatGapExpired t) := sound _

theorem tieSilenceExpired (t : Tie) : Statement (.tieSilenceExpired t) := sound _

theorem tieFrameMalformed (t : Tie) (bytes : List Byte) :
    Statement (.tieFrameMalformed t bytes) := sound _

theorem tripReqReceived (t : Tie) (bytes : List Byte) : Statement (.tripReqReceived t bytes) := sound _

theorem tripAckReceived (t : Tie) (bytes : List Byte) : Statement (.tripAckReceived t bytes) := sound _

theorem repeatTimerExpired (f : FeederId) : Statement (.repeatTimerExpired f) := sound _

theorem replayIntertripTimeout (f : FeederId) : Statement (.replayIntertripTimeout f) := sound _

theorem repeatWindowExpired (f : FeederId) : Statement (.repeatWindowExpired f) := sound _

theorem sectionClearReceived (t : Tie) (bytes : List Byte) :
    Statement (.sectionClearReceived t bytes) := sound _

theorem sectionHoldReceived (t : Tie) (bytes : List Byte) :
    Statement (.sectionHoldReceived t bytes) := sound _

theorem reportBuild : Statement .reportBuild := sound _

theorem batchTimeout : Statement .batchTimeout := sound _

theorem simOperationComplete (d : SimDeviceId) : Statement (.simOperationComplete d) := sound _

theorem readRowNode (k : Ticket) (row : Nat) : Statement (.readRowNode k row) := sound _

theorem readRowFeeder (k : Ticket) (row : Nat) : Statement (.readRowFeeder k row) := sound _

theorem readRowRect (k : Ticket) (row : Nat) : Statement (.readRowRect k row) := sound _

theorem readRowSection (k : Ticket) (row : Nat) : Statement (.readRowSection k row) := sound _

theorem readRowPort (k : Ticket) (row : Nat) : Statement (.readRowPort k row) := sound _

theorem readRowReport (k : Ticket) (row : Nat) : Statement (.readRowReport k row) := sound _

theorem readRecordFeeder (k : Ticket) (n : Nat) : Statement (.readRecordFeeder k n) := sound _

theorem readRecordRect (k : Ticket) : Statement (.readRecordRect k) := sound _

theorem readRecordPort (k : Ticket) (p : Option Port) : Statement (.readRecordPort k p) := sound _

theorem readRecordTie (k : Ticket) (t : Option Tie) : Statement (.readRecordTie k t) := sound _

theorem readRecordDevice (k : Ticket) : Statement (.readRecordDevice k) := sound _

theorem writeRowNode (k : Ticket) (row : Nat) (w : RowWrite NodeRow) :
    Statement (.writeRowNode k row w) := sound _

theorem writeRowFeeder (k : Ticket) (row : Nat) (w : RowWrite FeederRow) :
    Statement (.writeRowFeeder k row w) := sound _

theorem writeRowRect (k : Ticket) (row : Nat) (w : RowWrite RectRow) :
    Statement (.writeRowRect k row w) := sound _

theorem writeRowSection (k : Ticket) (row : Nat) (w : RowWrite SectionRow) :
    Statement (.writeRowSection k row w) := sound _

theorem writeRowPort (k : Ticket) (row : Nat) (w : RowWrite Recovery) :
    Statement (.writeRowPort k row w) := sound _

theorem writeRowReport (k : Ticket) (row : Nat) (w : RowWrite ReportRow) :
    Statement (.writeRowReport k row w) := sound _

theorem inService (k : Ticket) (n : Nat) : Statement (.inService k n) := sound _

theorem outOfService (k : Ticket) (n : Nat) : Statement (.outOfService k n) := sound _

theorem closeFeeder (k : Ticket) (n : Nat) : Statement (.closeFeeder k n) := sound _

theorem openFeeder (k : Ticket) (n : Nat) : Statement (.openFeeder k n) := sound _

theorem resetLockout (k : Ticket) (n : Nat) : Statement (.resetLockout k n) := sound _

theorem rectRun (k : Ticket) : Statement (.rectRun k) := sound _

theorem rectRest (k : Ticket) : Statement (.rectRest k) := sound _

theorem rectReset (k : Ticket) : Statement (.rectReset k) := sound _

theorem setMode (k : Ticket) (m : Option Mode) : Statement (.setMode k m) := sound _

theorem setTime (k : Ticket) (t : Nat) : Statement (.setTime k t) := sound _

theorem captureStart (k : Ticket) (n : Nat) : Statement (.captureStart k n) := sound _

theorem captureRead (k : Ticket) (slot segment : Nat) :
    Statement (.captureRead k slot segment) := sound _

theorem captureRelease (k : Ticket) (slot : Nat) : Statement (.captureRelease k slot) := sound _

theorem inject (k : Ticket) (node : Nat) (payload : List Byte) :
    Statement (.inject k node payload) := sound _

theorem portRecover (k : Ticket) (p : Option Port) : Statement (.portRecover k p) := sound _

theorem restart (k : Ticket) : Statement (.restart k) := sound _

theorem badRequest (k : Ticket) (why : BadRequest) : Statement (.badRequest k why) := sound _

theorem keyChange (pos : KeyPos) : Statement (.keyChange pos) := sound _

theorem estopAsserted : Statement .estopAsserted := sound _

theorem estopReleased : Statement .estopReleased := sound _

theorem coldReset : Statement .coldReset := sound _

theorem resetRelease (strapRest : RestState) (strapNode : BitVec 6) :
    Statement (.resetRelease strapRest strapNode) := sound _

theorem keyFirstSettling (pos : KeyPos) : Statement (.keyFirstSettling pos) := sound _

end Sys2Proof.Laws.CommandSource
end

