-- ==== Sys2Proof/Tests/Slice0.lean ====
section
/-! SUPPORT. Tests: the checks of WellFormed, the manual's worked examples, one small step for many
commands, and for each statement a concrete state and operands that meet its hypotheses. -/

namespace Sys2Proof.Tests

open Sys2Proof.Machine

-- One theorem after another: their kernel evaluations wait on one another, and each waiting one would
-- hold a thread of its own.
set_option Elab.async false

/-! ## A small substation -/

/-- A FEEDER row with the settings of the manual's first DDL, thermal and line-test examples. -/
def feederRow : FeederRow where
  intake := { tBlind := 10, iRippleMin := 10, wF := 32, policy := .auto, decimation := 2 }
  prot :=
    { iocOn := true, iIoc := 8000, c := 2, ddlOn := true, sStart := 150, sEnd := 40, e := 3
      dISet := 3000, dMin := 4, dMax := 80, thermalOn := true, k := 8, iReclose := 1200, iAlarm := 1800
      iTrip := 2400 }
  brk :=
    { tOpenMax := 100, tCloseMax := 200, tSotf := 500, tReclaim := 30000, blindAction := .trip
      capture := true }
  test :=
    { shots := 2, dead1 := 2000, dead2 := 10000, dead3 := 10000, tFollow := 5000, wSettle := 40
      rLive := 900, rShort := 100, rLoad := 400, ubMinTest := 500 }

/-- The RECT row of the manual's regulation example. -/
def rectRow : RectRow where
  freq := 50
  uSet := 750
  db := 10
  alphaMin := 100
  alphaMax := 600
  alphaStep := 5
  alphaClStep := 60
  h := 3
  iLim := 4000
  iRectTrip := 8000
  cRect := 2
  j := 100
  tWarn := 80
  tTrip := 100
  hysteresis := 5
  stackPolicy := .retry
  wake := true
  uWake := 600
  wakeFromParked := true

/-- A row of the node table with the up-pass sets full. -/
def row (role : Role) (binding : Option FeederId) (side : Side) : NodeRow where
  role := role
  binding := binding
  side := side
  downCommand := false
  downManage := role == .panel
  upStatus := side == .field
  upReply := side == .field
  upReport := side == .field

/-- Gateway 1, panel 2, F1's measuring and breaker units 3 and 4, the group's units 5, 6 and 7. -/
def nodes : Vector NodeRow 64 :=
  [(1, row .gateway none .station), (2, row .panel none .field), (3, row .feederMu (some .f1) .field),
      (4, row .breaker (some .f1) .field), (5, row .rectMu none .field),
      (6, row .acBreaker none .field), (7, row .firing none .field)].foldl
    (fun v x => v.setIfInBounds x.1 x.2) (Vector.replicate 64 unusedRow)

/-- Out of reset in a mode, key at REMOTE, node 20, valid settings, F1 mapped to tie A, section 40. -/
def site (m : Mode) : State :=
  { State.reset with
    inReset := false
    mode := m
    key := .atRemote
    keySettled := true
    ownNode := 20#6
    nodes := nodes
    rectRow := rectRow
    rectValid := true
    rect := { RectRec.cold .hold with alpha := 240 }
    feeders :=
      State.reset.feeders.set .f1
        { FeederUnit.cold with
          row := feederRow, valid := true, section_ := { tie := some .a, sectionId := 40, role := .follower } } }

/-- The site in SERVICE. -/
def svc : State := site .service

/-- The site with F1's record changed. -/
def f1 (g : FeederRec → FeederRec) (s : State) : State := s.setSq .f1 (g (s.sq .f1))

/-- The site with F1's intake record changed. -/
def f1Intake (g : FeederIntake → FeederIntake) (s : State) : State :=
  s.setIntake .f1 (g (s.feeder .f1).intake)

/-- The site with the rectifier record changed. -/
def group (g : RectRec → RectRec) (s : State) : State := s.setRect (g s.rect)

/-- The site with a port record changed. -/
def port (p : Port) (g : PortRec → PortRec) (s : State) : State := s.setPort p (g (s.port p))

/-- The site with tie A's record changed. -/
def tieA (g : TieRec → TieRec) (s : State) : State := s.setTie .a (g (s.tie .a))

/-- A received frame to the part's node, with its bytes on the line. -/
def fr (kind : Kind) (src : Byte) (payload : List Byte) : RxFrame where
  kind := kind
  dest := 20#8
  src := src
  seq := 41#8
  payload := payload

/-- The bytes of a received frame. -/
def wire (x : RxFrame) : List Byte := frameBytes x.kind x.dest x.src x.seq x.payload

/-- The state after a command. -/
def after (c : Instr) (s : State) : State :=
  match exec c s with
  | .next t => t
  | .fault _ => s
  | .refused _ => s

/-- A SAMPLE of F1's measuring unit: 8400 A and 780 V. -/
def sample : RxFrame := fr .sample 3#8 [0x20#8, 0xD0#8, 3#8, 12#8, 0#8, 0#8]

/-- The same sample with UNIT_FAULT set. -/
def faulty : RxFrame := fr .sample 3#8 [0x20#8, 0xD0#8, 3#8, 12#8, 4#8, 0#8]

/-- A SAMPLE of the rectifier unit: 790 V, 1000 A, 40 degrees, no crossing. -/
def rectSample9 : RxFrame := fr .sample 5#8 [3#8, 22#8, 3#8, 232#8, 40#8, 0#8, 0#8, 0#8, 0#8]

/-- A STATUS of F1's breaker unit. -/
def status (b c : Byte) : RxFrame := fr .status 4#8 [b, c, 1#8]

/-- A TIE frame. -/
def tie (payload : List Byte) : RxFrame := fr .tie 33#8 payload

/-- A frame of a queue with a payload. -/
def queued (p : Payload) : Frame where
  kind := .tie
  dest := 63#8
  src := 20#8
  seq := 0#8
  payload := p

/-- A ticket of the station source. -/
def station : Ticket := { source := .fromStation, requester := 1#8, number := 10#8 }

/-- A ticket of the panel. -/
def panel : Ticket := { source := .fromPanel, requester := 2#8, number := 4#8 }

/-- A queued report with nothing but its kind and value1. -/
def record (k : ReportKind) : QueuedReport where
  record :=
    { time := 0#48, timeValid := false, kind := k, source := .device, cause := none, value1 := some 1
      value2 := none, lostBefore := none }
  age := 0

/-! ## The checks of WellFormed -/

theorem test_ill_formed_error_frame :
    (Instr.errorFrameReceived .fp (wire sample)).wellFormed = false := by decide +kernel

theorem test_ill_formed_good_frame : (Instr.lostPortGoodFrame .fp [1#8]).wellFormed = false
    ∧ (Instr.frameRejected .fp [1#8]).wellFormed = false := by decide +kernel

theorem test_ill_formed_forward : (Instr.forwardUp (wire sample)).wellFormed = false
    ∧ (Instr.forwardDown (wire sample)).wellFormed = false := by decide +kernel

theorem test_ill_formed_manage :
    (Instr.manageReceived .fp (wire sample)).wellFormed = false
      ∧ (Instr.manageReceived .ta (wire (fr .manage 1#8 [1#8, 1#8]))).wellFormed = false := by
  decide +kernel

theorem test_ill_formed_samples :
    (Instr.feederSampleReceived (wire (fr .sample 3#8 [0#8]))).wellFormed = false
      ∧ (Instr.rectSampleReceived 0#48 (wire sample)).wellFormed = false := by decide +kernel

theorem test_ill_formed_status :
    (Instr.breakerStatusReceived (wire (status 5#8 1#8))).wellFormed = false
      ∧ (Instr.breakerStatusReceived (wire (status 1#8 3#8))).wellFormed = false
      ∧ (Instr.acBreakerStatusReceived (wire (fr .status 6#8 [5#8]))).wellFormed = false
      ∧ (Instr.firingStatusReceived (wire (fr .status 7#8 [3#8]))).wellFormed = false := by
  decide +kernel

theorem test_ill_formed_tie :
    (Instr.beatReceived .a (wire (tie [4#8, 7#8]))).wellFormed = false
      ∧ (Instr.tieFrameMalformed .a (wire (tie [4#8, 7#8]))).wellFormed = false
      ∧ (Instr.tripReqReceived .a (wire (tie [1#8, 2#8]))).wellFormed = false
      ∧ (Instr.tripAckReceived .a (wire (tie [1#8, 2#8]))).wellFormed = false
      ∧ (Instr.sectionClearReceived .a (wire (tie [5#8, 7#8]))).wellFormed = false
      ∧ (Instr.sectionHoldReceived .a (wire (tie [4#8, 7#8]))).wellFormed = false := by
  decide +kernel

theorem test_ill_formed_request :
    (Instr.readRowNode station 256).wellFormed = false
      ∧ (Instr.inService station 256).wellFormed = false
      ∧ (Instr.captureRead station 0 256).wellFormed = false
      ∧ (Instr.inject station 3 (List.replicate 49 0#8)).wellFormed = false := by decide +kernel

theorem test_well_formed :
    (Instr.feederSampleReceived (wire sample)).wellFormed = true
      ∧ (Instr.rectSampleReceived 0#48 (wire rectSample9)).wellFormed = true
      ∧ (Instr.breakerStatusReceived (wire (status 1#8 4#8))).wellFormed = true
      ∧ (Instr.tripReqReceived .a (wire (tie [2#8, 40#8, 2#8, 17#8]))).wellFormed = true
      ∧ (Instr.errorFrameReceived .fp []).wellFormed = true := by decide +kernel

/-! ## The manual's worked examples -/

/-- Section 1.7, the example of a port's loss: at 120 an error frame gives DEGRADED at 128. -/
theorem test_port_degrades :
    let t := after (.errorFrameReceived .fp []) (port .fp (fun r => { r with errorCount := 120 }) svc)
    (t.port .fp).state = .degraded ∧ (t.port .fp).errorCount = 128 ∧ t.reports.length = 1 := by
  decide +kernel

/-- The same example: 253 and an error frame give 256 and LOST. -/
theorem test_port_lost :
    let t := after (.errorFrameReceived .fp [])
      (port .fp (fun r => { r with state := .degraded, errorCount := 253 }) svc)
    (t.port .fp).state = .lost ∧ (t.port .fp).errorCount = 256
      ∧ t.reports.map (fun q => q.record.kind) = [.portLost] := by decide +kernel

/-- The same example: the 128th good frame returns the port to GOOD with both counts 0. -/
theorem test_port_recovers :
    let t := after (.lostPortGoodFrame .fp (wire sample))
      (port .fp (fun r => { r with state := .lost, errorCount := 256, recoveryCount := 127 }) svc)
    (t.port .fp).state = .good ∧ (t.port .fp).errorCount = 0 ∧ (t.port .fp).recoveryCount = 0 := by
  decide +kernel

/-- R3: the check over the nine ASCII digits. -/
theorem test_crc : crc16 ("123456789".toList.map fun c => BitVec.ofNat 8 c.toNat) = 0x29B1#16 := by
  decide +kernel

/-- Section 3.5, steps 3, 7 and 9 of the example: gaps 3, stale, and a resumption. -/
theorem test_gaps : judgeGap (some 41#8) 44#8 = some 3 ∧ judgeGap (some 47#8) 20#8 = none
    ∧ judgeGap (some 41#8) 41#8 = none ∧ judgeGap none 0#8 = some 1
    ∧ judgeGap (some 0#8) 128#8 = some 128 ∧ judgeGap (some 0#8) 129#8 = none := by decide +kernel

/-- The same example, step 6: the gap of 1 and a carry of 2 hand on a gap of 3. -/
theorem test_carry : handedGap false 1 2 = 3 ∧ handedGap true 229 0 = 1 := by decide

/-- Section 3.6, the example of crossings: a is placed at 999,628, b and c are not. -/
theorem test_crossings :
    let k (p : Stamp) : RectIntake := { RectIntake.fresh with resumption := false, prevStamp := some p }
    placeCrossing (k 999498#48) 1 1000000#48 (some 130) = some 999628#48
      ∧ placeCrossing (k 1000000#48) 1 1000503#48 (some 520) = none
      ∧ placeCrossing (k 1000503#48) 2 1001506#48 (some 40) = none := by decide +kernel

/-- Section 4.2, the example of IOC: 8300 counts, a gap of 6 starts again, −32768 reaches C. -/
theorem test_ioc :
    let r := { feederRow.prot with iIoc := 8000, c := 2 }
    let x (i : Int) (h : Nat) : FeederTaken :=
      { i := i, u := 0, ub := 0, ubValid := true, gap := h, previous := i, resumption := false }
    iocCount r (x 8300 1) 0 = 1 ∧ iocCount r (x 9100 6) 1 = 1 ∧ iocCount r (x 7950 1) 1 = 0
      ∧ iocFires r (x (-32768) 1) 1 false = true ∧ iocFires r (x 9100 6) 1 false = false := by decide

/-- Section 4.3, the far-end fault: samples 1 and 7. -/
theorem test_ddl_trips :
    let x (i p : Int) : FeederTaken :=
      { i := i, u := 0, ub := 0, ubValid := true, gap := 1, previous := p, resumption := false }
    ddlStep feederRow.prot (x 1180 900) false Ddl.rest
        = ({ phase := .rising, iStart := 900, d := 1, q := 0 }, .quiet)
      ∧ ddlStep feederRow.prot (x 4250 3800) false { phase := .rising, iStart := 900, d := 6, q := 0 }
        = (Ddl.rest, .fires 3350) := by decide +kernel

/-- Section 4.3, the crowd of trams, and the slow rise: an end by q, and by d above Dmax. -/
theorem test_ddl_ends :
    let x (i p : Int) : FeederTaken :=
      { i := i, u := 0, ub := 0, ubValid := true, gap := 1, previous := p, resumption := false }
    ddlStep feederRow.prot (x 1280 1270) false { phase := .rising, iStart := 900, d := 4, q := 2 }
        = (Ddl.rest, .quiet)
      ∧ ddlStep { feederRow.prot with dISet := 4000 } (x 4560 4515) false
          { phase := .rising, iStart := 800, d := 80, q := 0 }
        = (Ddl.rest, .slowRise 3760 81) := by decide +kernel

/-- Section 4.3, gaps within an episode: sample a's slope of 200, and a fall truncated toward zero. -/
theorem test_slope :
    let x (i p : Int) (h : Nat) : FeederTaken :=
      { i := i, u := 0, ub := 0, ubValid := true, gap := h, previous := p, resumption := false }
    slope (x 1400 1000 2) = 200 ∧ slope (x 3300 1900 3) = 466 ∧ slope (x 0 1000 3) = -333 := by decide

/-- Section 4.6, the rows of the example of one feeder, and the first cooling step. -/
theorem test_thermal : thermalNext 8 2350 11000 = 11040 ∧ thermalNext 8 5650 11849 = 12289
    ∧ thermalNext 8 0 12289 = 12241 ∧ thetaOf 1200 = 5625 ∧ thetaOf 1800 = 12544 := by decide

/-- R108 and R111: the live check and the two ratios of the examples. -/
theorem test_ratio :
    let x (u ub : Nat) : FeederTaken :=
      { i := 0, u := u, ub := ub, ubValid := true, gap := 1, previous := 0, resumption := false }
    livePass feederRow.test (x 2 790) = false ∧ livePass feederRow.test (x 780 790) = true
      ∧ testRatio 560 780 = 735 ∧ testRatio 38 788 = 49
      ∧ ratioClass feederRow.test 735 = .clear ∧ ratioClass feederRow.test 49 = .short := by decide +kernel

/-- Section 6.6, the first example: value2 of the LINE_TEST reports. -/
theorem test_line_test_values :
    (reportLineTest .f1 { outcome := .ratio .short, r := some 49, uAvg := some 38, ubAvg := some 788 }
      svc).reports.map (fun q => (q.record.value1, q.record.value2)) = [(some 49, some 156436)] := by
  decide +kernel

/-- Section 7.4, the example of tracking: the first two crossings, and the third, a slip. -/
theorem test_tracking :
    let s := group (fun r => { r with
      state := .running, syncValid := true, t := 20000, p := some 1000000#48 }) svc
    let a := takeCrossing 1000130#48 s
    let b := takeCrossing 1020150#48 a
    let c := takeCrossing 1046500#48 b
    (a.rect.t, a.rect.p) = (20008, some 1020108#48) ∧ (b.rect.t, b.rect.p) = (20010, some 1040160#48)
      ∧ (c.rect.t, c.rect.p) = (20000, some 1066500#48) := by decide +kernel

/-- The same example: after the second row the watch moves P by T. -/
theorem test_watch :
    let s := group (fun r => { r with
      state := .running, syncValid := true, t := 20010, p := some 1040160#48, watch := some 0 }) svc
    (after .crossingWatchExpired s).rect.p = some 1060170#48
      ∧ (after .crossingWatchExpired s).rect.missed = 1 := by decide +kernel

/-- Section 7.5, the example of regulation: cycles 1, 2, 3, 5, 8 and 9. -/
theorem test_regulation :
    let r (n sum : Nat) (peak : Int) (alpha hold : Nat) : RectRec :=
      { RectRec.cold .hold with n := n, sumUb := sum, peakIr := peak, alpha := alpha, limitHold := hold }
    regulation rectRow (r 40 29480 3200 180 0) = (175, 0, false)
      ∧ regulation rectRow (r 40 29200 4150 175 0) = (235, 3, true)
      ∧ regulation rectRow (r 40 28400 4300 235 3) = (235, 2, false)
      ∧ regulation rectRow (r 40 28800 4050 235 1) = (295, 3, true)
      ∧ regulation rectRow (r 40 29800 3700 295 1) = (295, 0, false)
      ∧ regulation rectRow (r 40 30720 2900 295 0) = (300, 0, false) := by decide +kernel

/-- Section 9.5, the example of a capture: positions 119, 122, 125, 126 and 127. -/
theorem test_capture :
    let e (i : Int) (seq : Byte) (gap : Option Nat) : RingEntry :=
      { i := i, u := 0, ub := 0, seq := seq, gap := gap }
    ((prePositions [e 1230 41#8 none, e 1300 44#8 (some 3), e 1290 47#8 (some 3), e 1180 0#8 none,
        e 1195 1#8 none]).map fun p => p.map Point.i).drop 118 =
      [none, some 1230, none, none, some 1300, none, none, some 1290, some 1180, some 1195] := by
  decide +kernel

/-- Section 5.6, the first example: a confirmed trip within t_sotf locks F1 out with
SWITCH_ONTO_FAULT. -/
theorem test_reclose_onto_fault :
    let t := after (.breakerStatusReceived (wire (status 1#8 1#8)))
      (f1 (fun r => { r with
        state := .tripping, primary := some .ddl, sotfMark := true, shotCount := 1, tripLine := true
        openTimer := some 65000, breaker := .closed, contactor := .opened }) svc)
    (t.sq .f1).state = .lockout ∧ (t.sq .f1).lockoutCause = some .switchOntoFault
      ∧ (t.sq .f1).tripLine = false ∧ (t.sq .f1).openTimer = none := by decide +kernel

/-- Section 8.5, the first example: a TRIP_REQ trips the follower and is answered TRIPPED. -/
theorem test_trip_req :
    let t := after (.tripReqReceived .a (wire (tie [2#8, 40#8, 2#8, 17#8])))
      (f1 (fun r => { r with state := .closed, breaker := .closed, contactor := .opened }) svc)
    (t.sq .f1).state = .tripping ∧ (t.sq .f1).primary = some .intertrip
      ∧ (t.port .ta).sending.map Frame.payload
          = some (.tie (.tripAck 40#8 17#8 .tripped)) := by decide +kernel

/-- Section 10.2, the example: the panel's OPEN of an OPEN feeder is DONE, and a remote CLOSE under a key
at LOCAL is REFUSED_AUTHORITY. -/
theorem test_two_sources :
    let s := f1 (fun r => { r with
      state := .opened, breaker := .opened, contactor := .opened, spring := true }) svc
    let a := after (.closeFeeder station 1) { s with key := .atLocal }
    (a.sq .f1).state = .opened
      ∧ (a.port .sp).sending.map Frame.payload
          = some (.reply { type := .feederCmd, number := 10#8, status := .refusedAuthority, part := 0
                           parts := 1, body := .empty }) := by decide +kernel

/-- Section 11.3, the example: an emergency stop right after the release of a cold reset. -/
theorem test_estop_at_start :
    let t := after .estopAsserted (after (.resetRelease .hold 20#6) State.reset)
    t.rect.state = .faulted ∧ t.rect.acTrip = true ∧ alarmConducts t = false
      ∧ t.reports.map (fun q => q.record.kind) = [.restart, .rectFault, .emergency] := by decide +kernel

/-- R187: from State.reset the release writes the provisional gateway row; a strap of 63 is taken as
62. -/
theorem test_release : ((after (.resetRelease .hold 63#6) State.reset).nodeRow 1#8).role = .gateway
    ∧ (after (.resetRelease .hold 63#6) State.reset).ownNode = 62#6
    ∧ ((after (.resetRelease .hold 1#6) State.reset).nodeRow 2#8).role = .gateway := by decide +kernel

/-! ## States and operands that meet the statements' hypotheses -/

/-- F1 CLOSED with its positions known. -/
def closed (r : FeederRec) : FeederRec :=
  { r with state := .closed, breaker := .closed, contactor := .opened, spring := true }

/-- F1 OPEN with its positions known. -/
def opened (r : FeederRec) : FeederRec :=
  { r with state := .opened, breaker := .opened, contactor := .opened, spring := true }

/-- F1 TRIPPING for a cause, its breaker still closed. -/
def tripping (c : TripCause) (r : FeederRec) : FeederRec :=
  { closed r with
    state := .tripping, primary := some c, tripCauses := TripCauses.single c, tripLine := true
    openTimer := some 100000 }

/-- F1 in a phase of DEAD_TIME with a timer. -/
def dead (ph : Phase) (t : Timer) (r : FeederRec) : FeederRec :=
  { opened r with state := .deadTime, phase := some ph, dead := t }

/-- F1 in LOCKOUT with a cause. -/
def locked (c : LockoutCause) (r : FeederRec) : FeederRec :=
  { opened r with state := .lockout, lockoutCause := some c, tripLine := c == .breakerFailure }

/-- The group RUNNING with a valid reference. -/
def running (r : RectRec) : RectRec :=
  { r with state := .running, syncValid := true, p := some 1000000#48, acPos := .closed, firing := .healthy
           watch := some 30000 }

theorem test_witness_step :
    ({ svc with pending := [.reportBuild] }).pending = .reportBuild :: []
      ∧ svc.pending = [] ∧ State.reset.inReset = true
      ∧ ownWork (f1 (fun r => { r with sotf := some 0 }) svc) = some (.sotfTimerExpired .f1)
      ∧ svc.inReset = false ∧ ownWork svc = none := by decide +kernel

theorem test_witness_laws :
    QueuesBounded svc ∧ OnePerClass svc ∧ stampsRise svc.reports ∧ ThetaBounded svc ∧ AlphaInRange svc
      ∧ TripLineLaw svc ∧ AcTripLaw svc ∧ ModeStatesLaw svc ∧ step svc = .next (tick svc) := by
  refine ⟨⟨fun p => ?_, ?_⟩, List.Pairwise.nil, trivial, fun f => ?_, ?_, fun f => ?_, ?_, fun f => ?_,
    rfl⟩
  · cases p <;> unfold PortRec.bounded <;> decide +kernel
  · decide +kernel
  · cases f <;> decide +kernel
  · unfold AlphaInRange; decide +kernel
  · cases f <;> decide +kernel
  · unfold AcTripLaw; decide +kernel
  · cases f <;> decide +kernel

/-- A state whose report queue holds records of two times meets the law of stamps. -/
theorem test_witness_stamps :
    stampsRise [{ record := { (record .blind).record with time := 0xFFFFFFFFFFFF#48 }, age := 1 },
      record .seen] := by
  exact ⟨by decide +kernel, trivial⟩

theorem test_witness_frame_check :
    ({ queued (.bytes (List.replicate 48 7#8)) with kind := .status }).payload.toBytes.length ≤ 48 := by
  decide +kernel

theorem test_witness_error_frame :
    svc.inReset = false ∧ classify (List.replicate 4 0#8) = .error .abort
      ∧ (svc.port .fp).state = .good ∧ min 256 (119 + 8) < 128 ∧ 128 ≤ min 256 (120 + 8)
      ∧ min 256 (247 + 8) ≠ 256 ∧ min 256 (248 + 8) = 256
      ∧ (port .sp (fun r => { r with state := .degraded, errorCount := 248 }) svc |>.port .sp).state
          = .degraded
      ∧ (port .ta (fun r => { r with state := .lost, recoveryCount := 128 }) svc |>.port .ta).state
          = .lost := by decide +kernel

theorem test_witness_good_frame :
    let s := port .fp (fun r => { r with state := .lost, errorCount := 256, recoveryCount := 127 }) svc
    let d := port .fp (fun r => { r with state := .degraded, errorCount := 128 }) svc
    s.inReset = false ∧ classify (wire sample) = .good sample ∧ (s.port .fp).state = .lost
      ∧ (s.port .fp).recoveryCount ≤ 128 ∧ (s.port .fp).recovery = .auto
      ∧ (d.port .fp).state = .degraded ∧ (d.port .fp).errorCount - 1 < 128 := by decide +kernel

/-- A good frame arrives on the field port, the station port and a tie port. -/
theorem test_witness_arrives :
    Arrives .fp (wire sample) sample svc ∧ Arrives .sp (wire (fr .manage 1#8 [])) (fr .manage 1#8 []) svc
      ∧ Arrives .ta (wire (tie [1#8, 2#8])) (tie [1#8, 2#8]) svc := by
  unfold Arrives; decide +kernel

theorem test_witness_rejected :
    Arrives .fp (wire (fr .command 3#8 [])) (fr .command 3#8 []) svc
      ∧ (svc.port .fp).rejected ≤ 65535 ∧ switchRejects .fp svc (fr .command 3#8 [])
      ∧ switchRejects .sp svc (fr .manage 9#8 []) ∧ switchRejects .tb svc (fr .sample 3#8 []) := by
  unfold switchRejects fieldRejects stationRejects Arrives; decide +kernel

theorem test_witness_forwarded :
    let up := fr .report 7#8 [1#8]
    let down : RxFrame := { fr .manage 1#8 [1#8, 2#8] with dest := 2#8 }
    Arrives .fp (wire up) up svc ∧ (svc.nodeRow up.src).role ≠ .unused
      ∧ (svc.nodeRow up.src).side = .field ∧ up.kind = .report ∧ (svc.nodeRow up.src).upReport = true
      ∧ Arrives .sp (wire down) down svc ∧ (svc.nodeRow down.src).role = .gateway
      ∧ down.dest ≠ svc.ownByte ∧ roleIsField (svc.nodeRow down.dest).role = true
      ∧ down.kind = .manage ∧ (svc.nodeRow down.dest).downManage = true := by
  unfold Arrives; decide +kernel

theorem test_witness_normal_queue :
    (List.replicate 31 (queued (.bytes []))).length < 32 ∧ 32 ≤ (List.replicate 32 (queued (.bytes []))).length
      ∧ (svc.feeder .f1).row.intake.decimation ≠ 0 ∧ (svc.feeder .f2).row.intake.decimation = 0
      ∧ (svc.feeder .f1).decim + 1 ≠ (svc.feeder .f1).row.intake.decimation := by decide +kernel

theorem test_witness_manage :
    let g := fr .manage 1#8 [1#8, 9#8]
    let p := fr .manage 2#8 [1#8, 9#8]
    Arrives .sp (wire g) g svc ∧ g.kind = .manage ∧ g.dest = svc.ownByte
      ∧ (svc.nodeRow g.src).role = .gateway
      ∧ Arrives .fp (wire p) p svc ∧ p.dest = svc.ownByte ∧ (svc.nodeRow p.src).role = .panel
      ∧ (svc.nodeRow p.src).side = .field := by
  unfold Arrives; decide +kernel

theorem test_witness_urgent_queues :
    let trip := queued (.command (.breaker .f1 .trip))
    let close := queued (.command (.breaker .f1 .close))
    let beat := queued (.tie (.beat .service))
    let ack := queued (.tie (.tripAck 1#8 1#8 .tripped))
    let clear := queued (.tie (.sectionClear 40#8))
    isClass (.breaker .f1 .close) trip = true ∧ isClass (.breaker .f1 .close) beat = false
      ∧ offeredCommand (.breaker .f1 .close) close [beat, trip, ack] = [beat, close, ack]
      ∧ replacesTie (.sectionHold 40#8) clear = true ∧ replacesTie (.sectionHold 41#8) clear = false
      ∧ (List.replicate 23 ack).length < 24 ∧ 24 ≤ (List.replicate 24 ack).length
      ∧ (∀ x ∈ List.replicate 24 ack, isBeat x = false) ∧ isAck ack = true ∧ isBeat beat = true
      ∧ (∀ x ∈ List.replicate 24 ack, replacesTie (.sectionHold 41#8) x = false) := by decide +kernel

theorem test_witness_reports :
    let s := { svc with reports := List.replicate 64 (record .blind), loss := 255 }
    svc.reports.length < 64 ∧ 64 ≤ s.reports.length ∧ s.loss ≤ 255
      ∧ reportReady svc = false ∧ svc.inReset = false
      ∧ reportReady { svc with reports := [record .blind, record .seen] } = true
      ∧ reportReady { svc with reports := [record .trip] } = true
      ∧ reportReady { port .sp (fun r => { r with normal := List.replicate 32 (queued (.bytes [])) }) svc
          with reports := [record .blind, record .seen] } = true := by decide +kernel

theorem test_witness_feeder_sample :
    let x : FeederSample := { i := 8400, u := 780, iOver := false, uOver := false, unitFault := false }
    FromField .feederMu (some .f1) (wire sample) sample svc ∧ sample.kind = .sample
      ∧ readFeederSample sample.payload = some x
      ∧ judgeGap (svc.feeder .f1).intake.lastSeq sample.seq = some 1 ∧ x.unitFault = false
      ∧ judgeGap (some 169#8) sample.seq = some 128 ∧ judgeGap (some 168#8) sample.seq = none := by
  unfold FromField Arrives; decide +kernel

theorem test_witness_feeder_fault :
    let x : FeederSample := { i := 8400, u := 780, iOver := false, uOver := false, unitFault := true }
    FromField .feederMu (some .f1) (wire faulty) faulty svc ∧ faulty.kind = .sample
      ∧ readFeederSample faulty.payload = some x
      ∧ judgeGap (svc.feeder .f1).intake.lastSeq faulty.seq = some 1 ∧ x.unitFault = true := by
  unfold FromField Arrives; decide +kernel

theorem test_witness_feeder_discarded :
    let short := fr .sample 3#8 [1#8, 2#8, 3#8, 4#8, 5#8]
    Arrives .fp (wire short) short svc ∧ (svc.nodeRow short.src).role = .feederMu
      ∧ (svc.nodeRow short.src).binding = some .f1 ∧ (svc.nodeRow short.src).side = .field
      ∧ short.kind = .sample ∧ short.payload.length ≠ 6
      ∧ judgeGap (f1Intake (fun k => { k with lastSeq := some 41#8 }) svc |>.feeder .f1).intake.lastSeq
          sample.seq = none
      ∧ Arrives .fp (wire sample) sample (site .replay) ∧ (site .replay).mode = .replay := by
  unfold Arrives; decide +kernel

theorem test_witness_frozen :
    let x (i : Int) (re : Bool) : FeederTaken :=
      { i := i, u := 780, ub := 790, ubValid := true, gap := 1, previous := 500, resumption := re }
    let s := group running (f1 closed svc)
    let z := f1 (fun r => { r with frozen := true }) s
    (s.sq .f1).frozen = false ∧ (s.sq .f1).state = .closed ∧ s.rect.state = .running
      ∧ (x 500 false).resumption = false ∧ (x 500 false).i = (x 500 false).previous
      ∧ (s.feeder .f1).row.intake.iRippleMin ≤ (x 500 false).i.natAbs
      ∧ (s.feeder .f1).intake.frozenCount + 1 < (s.feeder .f1).row.intake.wF
      ∧ (s.feeder .f1).row.intake.wF ≤ 31 + 1 ∧ (x 501 false).i ≠ (x 501 false).previous
      ∧ (z.sq .f1).frozen = true ∧ (z.feeder .f1).row.intake.policy = .auto
      ∧ (x 501 true).resumption = true ∧ (z.feeder .f1).intake.clearingCount + 1 < 32 ∧ 32 ≤ 31 + 1
      ∧ (z.setFeeder .f1 { z.feeder .f1 with row := { feederRow with
          intake := { feederRow.intake with policy := .latch } } } |>.feeder .f1).row.intake.policy
          = .latch := by decide +kernel

theorem test_witness_rect_sample :
    let x : RectSample :=
      { ub := 790, ir := 1000, temp := 40, ubOver := false, irOver := false, unitFault := false
        crossing := none }
    let s := svc.setRectIntake { svc.rectIntake with silence := some 1 }
    FromField .rectMu none (wire rectSample9) rectSample9 svc ∧ rectSample9.kind = .sample
      ∧ readRectSample rectSample9.payload = some x
      ∧ judgeGap svc.rectIntake.lastSeq rectSample9.seq = some 1 ∧ x.unitFault = false
      ∧ s.inReset = false ∧ s.rectIntake.silence ≠ none ∧ svc.rectIntake.silence = none := by
  unfold FromField Arrives; decide +kernel

theorem test_witness_protection :
    let x (i : Int) (h : Nat) : FeederTaken :=
      { i := i, u := 0, ub := 0, ubValid := true, gap := h, previous := 3800, resumption := false }
    let e : Ddl := { phase := .rising, iStart := 900, d := 6, q := 0 }
    feederRow.prot.iocOn = true ∧ 2 ≤ feederRow.prot.c ∧ 1 ≤ feederRow.prot.c
      ∧ (x 7999 1).i.natAbs < feederRow.prot.iIoc ∧ feederRow.prot.iIoc ≤ (x (-8000) 1).i.natAbs
      ∧ feederRow.prot.ddlOn = true ∧ 4 < (x 0 5).gap ∧ (x 0 4).gap ≤ 4
      ∧ Ddl.rest.phase = .idle ∧ ((x 3949 1).i - 3800).tdiv 1 < feederRow.prot.sStart
      ∧ (feederRow.prot.sStart : Int) ≤ ((x 3950 1).i - 3800).tdiv 1
      ∧ e.phase = .rising ∧ (feederRow.prot.dISet : Int) ≤ 3900 - e.iStart
      ∧ feederRow.prot.dMin ≤ e.d + 1 ∧ e.d + 1 ≤ feederRow.prot.dMax
      ∧ feederRow.prot.dMax < 80 + 1 ∧ feederRow.prot.e ≤ 3 ∧ ¬ feederRow.prot.e ≤ 2 := by
  decide +kernel

theorem test_witness_thermal :
    (-32768 : Int).natAbs ≤ 32768 ∧ (4194304 : Nat) ≤ 4194304
      ∧ (svc.feeder .f1).valid = true ∧ (svc.feeder .f2).valid = false := by decide +kernel

theorem test_witness_overcurrent :
    let s := f1Intake (fun k => { k with resumption := false, lastSeq := some 40#8
                                         lastAccepted := some (8300, 780) })
      (f1 closed (svc.setProt .f1 { Protection.fresh with iocCount := 1 }))
    let x : FeederSample := { i := 8400, u := 780, iOver := false, uOver := false, unitFault := false }
    FromField .feederMu (some .f1) (wire sample) sample s ∧ sample.kind = .sample
      ∧ readFeederSample sample.payload = some x
      ∧ judgeGap (s.feeder .f1).intake.lastSeq sample.seq = some 1 ∧ x.unitFault = false
      ∧ s.mode = .service ∧ (s.sq .f1).state = .closed ∧ findNode s .breaker (some .f1) = some 4#8
      ∧ (s.port .fp).urgent.length < 24
      ∧ (s.feeder .f1).intake.frozenCount + 1 < (s.feeder .f1).row.intake.wF
      ∧ (s.feeder .f1).prot.hold = false
      ∧ iocFires (s.feeder .f1).row.prot (handOn s .f1 1 x) (s.feeder .f1).prot.iocCount false = true := by
  unfold FromField Arrives; decide +kernel

theorem test_witness_trip_confirmed :
    let x : BreakerStatus := { breaker := .opened, contactor := .opened, spring := true }
    let s := f1 (tripping .ddl) svc
    FromField .breaker (some .f1) (wire (status 1#8 1#8)) (status 1#8 1#8) s
      ∧ (status 1#8 1#8).kind = .status ∧ readBreakerStatus (status 1#8 1#8).payload = some x
      ∧ x.breaker = .opened ∧ (s.sq .f1).breaker ≠ .opened ∧ (s.sq .f1).state = .tripping
      ∧ (s.sq .f1).primary = some .ddl := by
  unfold FromField Arrives; decide +kernel

theorem test_witness_close_confirmed :
    let x : BreakerStatus := { breaker := .closed, contactor := .opened, spring := true }
    let c := f1 (fun r => { opened r with state := .closing, closeTimer := some 9 }) svc
    let o (m : Mode) := f1 opened (site m)
    readBreakerStatus (status 2#8 1#8).payload = some x ∧ x.breaker = .closed
      ∧ FromField .breaker (some .f1) (wire (status 2#8 1#8)) (status 2#8 1#8) c
      ∧ (c.sq .f1).state = .closing ∧ (c.sq .f1).breaker ≠ .closed ∧ (c.sq .f1).blind = false
      ∧ (c.sq .f1).frozen = false
      ∧ FromField .breaker (some .f1) (wire (status 2#8 1#8)) (status 2#8 1#8) (o .service)
      ∧ FromField .breaker (some .f1) (wire (status 2#8 1#8)) (status 2#8 1#8) (o .config)
      ∧ FromField .breaker (some .f1) (wire (status 2#8 1#8)) (status 2#8 1#8) (o .shadow)
      ∧ ((o .config).sq .f1).state = .opened ∧ ((o .config).sq .f1).breaker ≠ .closed := by
  unfold FromField Arrives; decide +kernel

theorem test_witness_status_repeated :
    let s := f1 closed svc
    FromField .breaker (some .f1) (wire (status 2#8 1#8)) (status 2#8 1#8) s
      ∧ readBreakerStatus (status 2#8 1#8).payload
          = some { breaker := (s.sq .f1).breaker, contactor := (s.sq .f1).contactor, spring := true } := by
  unfold FromField Arrives; decide +kernel

theorem test_witness_feeder_timers :
    let b := f1Intake (fun k => { k with blindTimer := some 0 }) (f1 closed svc)
    let c := f1 (fun r => { opened r with state := .closing, closeTimer := some 0 }) svc
    let r := f1 (fun r => { closed r with reclaim := some 0 }) svc
    b.inReset = false ∧ (b.feeder .f1).intake.blindTimer ≠ none ∧ (b.sq .f1).state = .closed
      ∧ b.mode = .service ∧ (b.feeder .f1).row.brk.blindAction = .trip
      ∧ (f1 (tripping .ioc) svc |>.sq .f1).openTimer ≠ none
      ∧ (f1 (tripping .ioc) svc |>.sq .f1).breaker ≠ .opened ∧ svc.mode ≠ .replay
      ∧ (c.sq .f1).closeTimer ≠ none ∧ (c.sq .f1).state = .closing ∧ (svc.sq .f1).closeTimer = none
      ∧ (r.sq .f1).reclaim ≠ none ∧ (r.sq .f1).state = .closed ∧ (svc.sq .f1).reclaim = none := by
  decide +kernel

theorem test_witness_dead_time :
    let s := group running (f1 (dead .timing (some 0)) svc)
    let w := group running (f1 (dead .awaitingFarEnd (some 0)) svc)
    let m := s.setFeeder .f1 { s.feeder .f1 with section_ := { tie := none, sectionId := 0, role := .master } }
    s.inReset = false ∧ (s.sq .f1).state = .deadTime ∧ (s.sq .f1).phase = some .timing
      ∧ (s.sq .f1).dead ≠ none ∧ (s.sq .f1).pendingTest = false ∧ (s.sq .f1).blind = false
      ∧ (s.sq .f1).frozen = false ∧ isFollower s .f1 = true ∧ (s.sq .f1).farClear = false
      ∧ tieDown (tieA (fun r => { r with up := true }) s) .f1 = false
      ∧ isFollower m .f1 = false ∧ ¬ thetaReclose m .f1 < (m.feeder .f1).prot.theta
      ∧ thetaReclose m .f1 < (m.setProt .f1 { Protection.fresh with theta := 5626 } |>.feeder .f1).prot.theta
      ∧ (w.sq .f1).phase = some .awaitingFarEnd ∧ (w.sq .f1).dead ≠ none
      ∧ (w.feeder .f1).prot.theta ≤ thetaReclose w .f1 ∧ w.rect.state = .running
      ∧ w.reports.length < 60 := by decide +kernel

theorem test_witness_group_timers :
    let s := group (fun r => { r with state := .starting, acTimer := some 0 }) svc
    let c := group (fun r => { r with
      state := .starting, firstCrossingWait := true, acTimer := some 0 }) svc
    let w := group (fun r => { running r with watch := some 0, missed := 2 }) svc
    (s.inReset = false ∧ s.rect.acTimer ≠ none ∧ s.mode ≠ .shadow ∧ s.rect.state = .starting
        ∧ s.rect.firstCrossingWait = false ∧ c.rect.firstCrossingWait = true ∧ c.rect.acTimer ≠ none
        ∧ w.rect.watch ≠ none ∧ w.rect.p = some 1000000#48 ∧ 2 ≤ w.rect.missed ∧ 1 < 2)
      ∧ ∀ f, w.rect.testers.get f = false :=
  ⟨by decide +kernel, fun f => by cases f <;> rfl⟩

theorem test_witness_crossing :
    let s := group running svc
    s.rect.state = .running ∧ s.rect.syncValid = true ∧ s.rect.p = some 1000000#48
      ∧ s.rect.runPending = false
      ∧ (1005000#48 - 1000000#48 : Stamp).toInt.natAbs ≤ s.rect.t / 4
      ∧ s.rect.t / 4 < (994999#48 - 1000000#48 : Stamp).toInt.natAbs := by decide +kernel

theorem test_witness_regulation :
    let r (peak : Int) (sum hold : Nat) : RectRec :=
      { running (RectRec.cold .hold) with n := 40, sumUb := sum, peakIr := peak, limitHold := hold }
    0 < (r 4000 0 0).n ∧ (r 4000 0 0).limitHold = 0 ∧ (rectRow.iLim : Int) ≤ (r 4000 0 0).peakIr
      ∧ (r 3999 0 0).peakIr < rectRow.iLim
      ∧ (((29599 : Nat) / 40 : Nat) : Int) < rectRow.uSet - rectRow.db
      ∧ (rectRow.uSet + rectRow.db : Int) < ((30440 / 40 : Nat) : Int)
      ∧ (rectRow.uSet - rectRow.db : Int) ≤ ((29600 / 40 : Nat) : Int)
      ∧ (r 4000 0 1).limitHold = 1 ∧ 1 < (r 4000 0 2).limitHold := by decide +kernel

theorem test_witness_group_status :
    let o := fr .status 6#8 [1#8]
    let c := fr .status 6#8 [2#8]
    let h := fr .status 7#8 [2#8]
    let s := group running svc
    let w := group (fun r => { r with state := .starting, acPos := .opened }) svc
    FromField .acBreaker none (wire o) o s ∧ o.kind = .status ∧ readAcStatus o.payload = some .opened
      ∧ BreakerPos.opened ≠ s.rect.acPos ∧ s.mode ≠ .shadow ∧ s.rect.state = .running
      ∧ FromField .acBreaker none (wire c) c w ∧ readAcStatus c.payload = some .closed
      ∧ w.rect.state = .starting ∧ w.rect.firstCrossingWait = false
      ∧ FromField .firing none (wire h) h s ∧ readFiringStatus h.payload = some .faulty
      ∧ s.rect.firing ≠ .faulty := by
  unfold FromField Arrives; decide +kernel

theorem test_witness_simulation :
    let op : SimOp := { target := .closed, timer := 0 }
    let d : SimDevice := { pos := .opened, op := some op }
    let s := (site .replay).setFeeder .f1 { (site .replay).feeder .f1 with simBreaker := d, simContactor := d }
    let t := { s with simAc := d }
    t.inReset = false ∧ (t.feeder .f1).simBreaker.op = some op ∧ (t.feeder .f1).simContactor.op = some op
      ∧ t.simAc.op = some op ∧ (t.feeder .f2).simBreaker.op = none := by decide +kernel

theorem test_witness_ties :
    let b := tie [1#8, 2#8]
    let x := tie [9#8, 2#8]
    let s := tieA (fun r => { r with beatCount := 2, gapTimer := some 1 }) svc
    Arrives .ta (wire b) b s ∧ b.kind = .tie ∧ readTie b.payload = some (.beat .service)
      ∧ (s.tie .a).beatCount ≤ 3 ∧ (s.tie .a).gapTimer ≠ none
      ∧ Arrives .ta (wire x) x s ∧ readTie x.payload = none := by
  unfold Arrives; decide +kernel

theorem test_witness_tie_silence :
    let s := tieA (fun r => { r with up := true, silence := some 0 }) (f1 (tripping .ddl) svc)
    let e : Entry := { tie := .a, sectionId := 40, cause := .ddl, tag := 17#8, sends := 1, timer := 10000 }
    let t := s.setFeeder .f1 { s.feeder .f1 with entry := some e }
    (t.inReset = false ∧ (t.tie .a).silence ≠ none ∧ (t.tie .a).up = true ∧ t.mode ≠ .replay
        ∧ (t.feeder .f1).entry = some e ∧ e.tie = .a ∧ (t.sq .f1).state = .tripping)
      ∧ ∀ f, t.rect.latched.get f = true → (t.sq f).pendingTest = true ∧ (t.sq f).state = .deadTime :=
  ⟨by decide +kernel, fun f => by cases f <;> decide +kernel⟩

theorem test_witness_trip_request :
    let q := tie [2#8, 40#8, 2#8, 17#8]
    let s := f1 closed svc
    Arrives .ta (wire q) q s ∧ q.kind = .tie ∧ readTie q.payload = some (.tripReq 40#8 .ddl 17#8)
      ∧ s.mode = .service ∧ mappedFeeder s .a 40#8 = some .f1 ∧ mappedFeeder s .b 40#8 = none
      ∧ (s.feeder .f1).repeatRec = none ∧ (s.sq .f1).state = .closed
      ∧ Arrives .ta (wire q) q (site .shadow) ∧ (site .shadow).mode ≠ .service
      ∧ (s.setFeeder .f1 { s.feeder .f1 with
          repeatRec := some { tag := 17#8, result := .tripped, window := 1 } } |>.feeder .f1).repeatRec
          = some { tag := 17#8, result := .tripped, window := 1 } := by
  unfold Arrives; decide +kernel

theorem test_witness_intertrips :
    let a := tie [3#8, 40#8, 17#8, BitVec.ofNat 8 AckResult.tripped.cause.code]
    let e (n : Nat) : Entry :=
      { tie := .a, sectionId := 40, cause := .ddl, tag := 17#8, sends := n, timer := 0 }
    let s (n : Nat) (m : Mode) := (f1 (tripping .ddl) (site m)).setFeeder .f1
      { (f1 (tripping .ddl) (site m)).feeder .f1 with entry := some (e n) }
    (Arrives .ta (wire a) a (s 1 .service) ∧ a.kind = .tie
        ∧ readTie a.payload = some (.tripAck 40#8 17#8 .tripped)
        ∧ ((s 1 .service).feeder .f1).entry = some (e 1) ∧ (e 1).tie = .a
        ∧ (e 1).sectionId = (40#8 : Byte).toNat ∧ (e 1).tag = 17#8
        ∧ (e 2).sends < 3 ∧ 3 ≤ (e 3).sends ∧ (s 3 .service).mode ≠ .replay
        ∧ ((s 3 .service).sq .f1).state = .tripping ∧ (s 1 .replay).mode = .replay)
      ∧ ∀ g, (∃ x, ((s 1 .service).feeder g).entry = some x ∧ x.tie = .a ∧ x.sectionId = 40 ∧ x.tag = 17#8)
          → g = .f1 := by
  refine ⟨by unfold Arrives; decide +kernel, fun g h => ?_⟩
  obtain ⟨x, hx, -⟩ := h
  cases g <;> first | rfl | exact absurd (show (none : Option Entry) = some x from hx) (by simp)

theorem test_witness_section :
    let c := tie [4#8, 40#8]
    let h := tie [5#8, 40#8]
    let s := f1 (dead .timing (some 9)) svc
    Arrives .ta (wire c) c s ∧ readTie c.payload = some (.sectionClear 40#8)
      ∧ Arrives .ta (wire h) h s ∧ readTie h.payload = some (.sectionHold 40#8)
      ∧ mappedFeeder s .a 40#8 = some .f1 ∧ s.mode = .service ∧ isFollower s .f1 = true
      ∧ (s.sq .f1).state = .deadTime ∧ (s.sq .f1).phase = some .timing
      ∧ (svc.sq .f1).state ≠ .deadTime := by
  unfold Arrives; decide +kernel

theorem test_witness_requests :
    let s := { svc with requests := [{ ticket := station, request := .rectRun }] }
    s.requests = { ticket := station, request := .rectRun } :: [] ∧ s.inReset = false
      ∧ station.source = .fromStation ∧ panel.source = .fromPanel ∧ (site .config).mode = .config
      ∧ svc.mode ≠ .config ∧ ({ svc with key := .atLocal }).key = .atLocal
      ∧ station.source = (if svc.key = .atRemote then .fromStation else .fromPanel) ∧ svc.mode ≠ .shadow
      ∧ panel.source ≠ (if svc.key = .atRemote then .fromStation else .fromPanel)
      ∧ (site .shadow).mode = .shadow := by decide +kernel

theorem test_witness_feeder_writes :
    let s := site .config
    let free : NodeRow := row .breaker (some .f2) .field
    let sec : SectionRow := { tie := some .b, sectionId := 255, role := .master }
    s.inReset = false ∧ s.mode = .config ∧ 62 ≤ 63
      ∧ nodeRowOk s 62 { value := free, outOfSet := false } = true
      ∧ bindingsFree s (s.nodeRow 62#8) free = true
      ∧ feederRowOk (roundFeeder feederRow) = true ∧ (s.sq .f1).state = .out
      ∧ sectionOk s .f2 { value := sec, outOfSet := false } = true
      ∧ sectionBlocked s .f2 sec = false := by decide +kernel

theorem test_witness_device_writes :
    let s := site .config
    let r60 : RectRow := { rectRow with freq := 60 }
    let rep : ReportRow := { level := 4, batchTimeout := 50, replayTime := 10 }
    s.mode = .config ∧ rectRowOk r60 = true ∧ rectWriteBlocked s r60 = false
      ∧ rectRowOk rectRow = true ∧ rectWriteBlocked s rectRow = false
      ∧ rectRow.alphaMin ≤ s.rect.alpha ∧ s.rect.alpha ≤ rectRow.alphaMax
      ∧ portOfRow 3 = some .tb ∧ portRowOk .tb { value := .manual, outOfSet := false } = true
      ∧ reportRowOk rep = true := by decide +kernel

theorem test_witness_feeder_commands :
    let i (p : BreakerPos) := f1 (fun r => { r with breaker := p }) svc
    svc.inReset = false ∧ inServiceOk (i .opened) .f1 = true ∧ inServiceOk (i .closed) .f1 = true
      ∧ ((i .closed).sq .f1).blind = false ∧ ((i .closed).sq .f1).frozen = false
      ∧ (f1 opened svc |>.sq .f1).state = .opened
      ∧ (f1 (locked .shotsExhausted) svc |>.sq .f1).lockoutCause ≠ some .breakerFailure
      ∧ (f1 (locked .breakerFailure) svc |>.sq .f1).state = .lockout
      ∧ (f1 (locked .breakerFailure) svc |>.sq .f1).breaker = .opened := by decide +kernel

theorem test_witness_close_and_open :
    let s := group (fun r => { running r with state := .hold }) (f1 opened svc)
    let t := f1 (fun r => { opened r with state := .testing, contactor := .closed }) svc
    let d := f1 (fun r => { dead .awaitingSupply none r with pendingTest := true }) svc
    s.mode = .service ∧ (s.sq .f1).state = .opened ∧ s.estop = false ∧ (s.sq .f1).spring = true
      ∧ (s.sq .f1).breaker = .opened ∧ (s.sq .f1).contactor = .opened ∧ (s.sq .f1).blind = false
      ∧ (s.sq .f1).frozen = false ∧ (s.feeder .f1).prot.theta ≤ thetaReclose s .f1
      ∧ s.rect.state = .hold ∧ (f1 closed svc |>.sq .f1).state = .closed
      ∧ (d.sq .f1).state = .deadTime ∧ (d.sq .f1).pendingTest = true
      ∧ (t.sq .f1).state = .testing ∧ (t.sq .f1).openRequested = false ∧ (t.sq .f1).contactor ≠ .opened
      ∧ t.rect.latched.get .f1 = false := by decide +kernel

theorem test_witness_rect_commands :
    let f := group (fun r => { r with state := .faulted, acPos := .opened, acTrip := true }) svc
    (svc.mode ≠ .config ∧ svc.rectValid = true ∧ svc.estop = false ∧ svc.rect.stackTrip = false
        ∧ svc.rect.firing ≠ .faulty ∧ svc.rect.state = .parked
        ∧ (group running svc).rect.state = .running
        ∧ f.rect.state = .faulted ∧ f.rect.acPos = .opened ∧ f.estop = false)
      ∧ ∀ g, (group running svc).rect.testers.get g = false :=
  ⟨by decide +kernel, fun g => by cases g <;> rfl⟩

theorem test_witness_modes :
    (site .config).rectValid = true ∧ ({ site .config with rectValid := false }).rectValid = false
      ∧ (site .service).mode = .service ∧ (site .replay).mode = .replay
      ∧ (site .replay).estop = false ∧ 2 ^ 48 - 1 < 2 ^ 48 := by decide +kernel

theorem test_witness_recover :
    let s := port .tb (fun r => { r with state := .lost, recoveryCount := 128, recovery := .manual }) svc
    (s.port .tb).state = .lost ∧ (s.port .tb).recoveryCount = 128 ∧ s.inReset = false
      ∧ ¬ ((svc.port .tb).state = .lost ∧ (svc.port .tb).recoveryCount = 128) := by decide +kernel

theorem test_witness_restart :
    (site .config).inReset = false ∧ (site .config).mode = .config
      ∧ ∀ f, ((site .config).sq f).state ≠ .tripping
          ∧ ¬ (((site .config).sq f).state = .lockout
                ∧ ((site .config).sq f).lockoutCause = some .breakerFailure) :=
  ⟨rfl, rfl, fun f => by cases f <;> decide +kernel⟩

theorem test_witness_captures :
    let full (st : SlotState) : Slot := { Slot.free with state := st, feeder := some .f1 }
    let s := { svc with slots := ⟨full .ready, full .filling, Slot.free, Slot.free⟩ }
    fillingSlot s .f1 = some .s1 ∧ fillingSlot s .f2 = none ∧ freeSlot s = some .s2
      ∧ freeSlot { svc with slots := PerSlot.const (full .ready) } = none
      ∧ (s.slots.get .s0).state = .ready ∧ (s.slots.get .s1).state = .filling
      ∧ (s.slots.get .s3).state = .free ∧ 31 ≤ 31 ∧ s.inReset = false := by decide +kernel

theorem test_witness_injection :
    let s := site .replay
    s.mode = .replay ∧ svc.mode ≠ .replay ∧ 62 < 63 ∧ 3 ≤ 62 ∧ (s.nodeRow 3#8).role = .feederMu
      ∧ (s.nodeRow 3#8).binding = some .f1 ∧ (readFeederSample sample.payload).isSome = true
      ∧ (s.nodeRow 4#8).role ≠ .feederMu ∧ (s.nodeRow 4#8).role ≠ .rectMu
      ∧ [1#8, 2#8].length ≠ 6 := by decide +kernel

theorem test_witness_lines :
    ({ svc with keySettled := false }).keySettled = false ∧ svc.keySettled = true
      ∧ KeyPos.atLocal ≠ svc.key ∧ KeyPos.atRemote = svc.key ∧ svc.inReset = false
      ∧ State.reset.inReset = true ∧ Instr.reportBuild ≠ .coldReset
      ∧ svc.estop = false ∧ ({ svc with estop := true }).estop = true := by decide +kernel

theorem test_witness_estop :
    ∀ f, svc.rect.latched.get f = true → (svc.sq f).pendingTest = true ∧ (svc.sq f).state = .deadTime :=
  fun f => by cases f <;> decide +kernel

/-! ### A running line test, aborts and returns -/

/-- F1 in TESTING in a step of an automatic test of TIMING, its shot counted. -/
def testing (st : TestStep) (c : ContactorPos) (r : FeederRec) : FeederRec :=
  { opened r with
    state := .testing, contactor := c, shotCount := 1, shotTaken := true
    closeTimer := if st = .contactorClosing ∨ st = .contactorOpening then some 9 else none
    test := { TestRec.fresh with kind := some .auto, origin := some .timing, step := some st } }

/-- A group RUNNING that serves F1's test. -/
def serving (s : State) : State :=
  group (fun r => { running r with testers := r.testers.set .f1 true }) s

theorem test_witness_test_samples :
    let x : FeederSample := { i := 8400, u := 780, iOver := false, uOver := false, unitFault := false }
    let s (st : TestStep) (g : TestRec → TestRec) := serving
      (f1 (fun r => let r := testing st .opened r; { r with test := g r.test })
        (svc.setRectIntake { svc.rectIntake with ub := 790, busbarValid := true }))
    let sums (n : Nat) (v : Nat) (t : TestRec) : TestRec :=
      { t with count := n, sumU := v, sumUb := v }
    let m := s .summing (sums 15 11700)
    (TakesSample .f1 (wire sample) sample x 1 (s .liveCheck id)
        ∧ ((s .liveCheck id).sq .f1).state = .testing
        ∧ ((s .liveCheck id).sq .f1).openRequested = false
        ∧ (s .liveCheck id).rect.latched.get .f1 = false ∧ (s .liveCheck id).reports.length < 40)
      ∧ (feederRow.test.rLive * 790 ≤ 780 * 1024 ∧ ¬ feederRow.test.rLive * 790 ≤ 2 * 1024)
      ∧ 2 + 1 < 4 ∧ 4 ≤ 3 + 1
      ∧ (findNode m .breaker (some .f1)).isSome = true ∧ (m.port .fp).urgent.length < 10
      ∧ (m.sq .f1).test.step = some .summing ∧ 16 ≤ (m.sq .f1).test.count + 1
      ∧ feederRow.test.ubMinTest ≤ ((m.sq .f1).test.sumUb + 790) / 16
      ∧ ((s .summing (sums 15 0)).sq .f1).test.sumUb + 790 < 16 * feederRow.test.ubMinTest
      ∧ svc.rectIntake.busbarValid = false := by
  unfold TakesSample FromField Arrives; decide +kernel

/-- The same samples: the fourth passing sample closes F1, a failing one asks for the contactor, and the
sixteenth of SUMMING leaves a CLEAR result pending. -/
theorem test_line_test_samples :
    let s (st : TestStep) (n v : Nat) := serving
      (f1 (fun r => let r := testing st .opened r
                    { r with test := { r.test with count := n, sumU := v, sumUb := v } })
        (svc.setRectIntake { svc.rectIntake with ub := 790, busbarValid := true }))
    let take (x : State) := ((after (.feederSampleReceived (wire sample)) x).sq .f1)
    (take (s .liveCheck 3 0)).state = .closing
      ∧ (take ((s .liveCheck 3 0).setRectIntake svc.rectIntake)).test.step = some .contactorClosing
      ∧ (take (s .summing 15 11700)).test.step = some .contactorOpening
      ∧ (take (s .summing 15 11700)).test.pending.map PendingResult.result = some .clear := by
  decide +kernel

theorem test_witness_test_confirmations :
    let st (c : Byte) := status 1#8 c
    let p : PendingResult := { result := .short, r := 49, uAvg := 38, ubAvg := 788 }
    let s (step : TestStep) (c : ContactorPos) := serving (f1 (testing step c) svc)
    let o := f1 (fun r => { r with test := { r.test with pending := some p } }) (s .contactorOpening .closed)
    let w := f1 (fun r => { r with openRequested := true }) o
    (TakesStatus .f1 (wire (st 1#8)) (st 1#8) { breaker := .opened, contactor := .opened, spring := true } o
        ∧ TakesStatus .f1 (wire (st 2#8)) (st 2#8)
          { breaker := .opened, contactor := .closed, spring := true } (s .contactorClosing .opened)
        ∧ (s .liveCheck .opened).mode = .service)
      ∧ (o.sq .f1).breaker = .opened ∧ (o.sq .f1).contactor = .closed ∧ (o.sq .f1).state = .testing
      ∧ (o.sq .f1).openRequested = false ∧ o.rect.latched.get .f1 = false ∧ o.reports.length < 40
      ∧ (o.sq .f1).test.pending = some p ∧ (o.sq .f1).test.kind = some .auto
      ∧ (o.sq .f1).shotTaken = true ∧ (o.sq .f1).shotCount < feederRow.test.shots
      ∧ o.rect.testers.get .f1 = true
      ∧ (group (fun r => { r with state := .probe, runPending := true }) o).rect.runPending = true
      ∧ (w.sq .f1).openRequested = true ∧ (w.sq .f1).contactor ≠ .opened
      ∧ w.rect.latched.get .f1 = false := by
  unfold TakesStatus FromField Arrives; decide +kernel

theorem test_witness_sole_tester (e : FeederId) (h : (serving svc).rect.testers.get e = true) :
    e = .f1 := by
  cases e <;> first | rfl | exact absurd h (by decide +kernel)

theorem test_witness_test_ends :
    let b := f1Intake (fun k => { k with blindTimer := some 0 }) (serving (f1 (testing .settling .closed) svc))
    let c := serving (f1 (testing .contactorClosing .opened) svc)
    let n := f1 (fun r => { r with closeTimer := some 0, test := { r.test with step := some .liveCheck } }) c
    let w := f1 (fun r => { r with openRequested := true }) c
    (b.feeder .f1).intake.blindTimer ≠ none ∧ (b.sq .f1).state = .testing
      ∧ (b.sq .f1).openRequested = false ∧ b.mode ≠ .shadow ∧ b.rect.latched.get .f1 = false
      ∧ b.reports.length < 40
      ∧ (c.sq .f1).closeTimer ≠ none ∧ (c.sq .f1).state = .testing ∧ (c.sq .f1).openRequested = false
      ∧ (c.sq .f1).test.step = some .contactorClosing ∧ (n.sq .f1).closeTimer ≠ none
      ∧ (n.sq .f1).test.step ≠ some .contactorCheck ∧ (n.sq .f1).test.step ≠ some .contactorClosing
      ∧ (n.sq .f1).test.step ≠ some .contactorOpening ∧ (w.sq .f1).openRequested = true
      ∧ (b.sq .f1).contactor ≠ .opened ∧ (c.sq .f1).contactor = .opened ∧ b.estop = false := by
  decide +kernel

theorem test_witness_dead_time_flagged :
    let s := f1 (fun r => { dead .timing (some 0) r with blind := true, farClear := true }) svc
    (s.sq .f1).state = .deadTime ∧ (s.sq .f1).phase = some .timing ∧ (s.sq .f1).dead ≠ none
      ∧ (s.sq .f1).pendingTest = false ∧ (s.sq .f1).blind = true
      ∧ ¬ (isFollower s .f1 = true ∧ (s.sq .f1).farClear = false) ∧ s.reports.length < 60 := by
  decide +kernel

theorem test_witness_section_awaiting :
    let s (g : RectRec → RectRec) := group g (f1 (dead .awaitingFarEnd (some 9)) svc)
    let r := s running
    let b := f1 (fun x => { x with blind := true, shotTaken := true, shotCount := 1 }) r
    mappedFeeder r .a 40#8 = some .f1 ∧ r.mode = .service ∧ isFollower r .f1 = true
      ∧ (r.sq .f1).state = .deadTime ∧ (r.sq .f1).phase = some .awaitingFarEnd
      ∧ (r.sq .f1).blind = false ∧ (r.sq .f1).frozen = false
      ∧ ¬ thetaReclose r .f1 < (r.feeder .f1).prot.theta ∧ r.rect.state = .running
      ∧ thetaReclose r .f1 < (r.setProt .f1 { Protection.fresh with theta := 5626 } |>.feeder .f1).prot.theta
      ∧ (s fun x => { x with state := .hold }).rect.state = .hold ∧ (s id).rect.state = .parked
      ∧ (b.sq .f1).blind = true ∧ (b.sq .f1).shotTaken = true := by decide +kernel

/-! ### Trips, openings and closings -/

theorem test_witness_elements_fire :
    let x : FeederSample := { i := 8400, u := 780, iOver := false, uOver := false, unitFault := false }
    let arm (m : Mode) (p : Protection) (i : Int) :=
      f1Intake (fun k => { k with resumption := false, lastSeq := some 40#8, lastAccepted := some (i, 780) })
        (f1 closed ((site m).setProt .f1 p))
    let rising := { Protection.fresh with ddl := { phase := .rising, iStart := 900, d := 6, q := 0 } }
    let d := arm .service rising 8300
    let h := arm .service { Protection.fresh with theta := 22500 } 8400
    let w := arm .shadow { Protection.fresh with iocCount := 1 } 8400
    TakesSample .f1 (wire sample) sample x 1 d ∧ (d.feeder .f1).prot.hold = false
      ∧ d.reports.length < 50 ∧ d.mode = .service ∧ (d.sq .f1).state = .closed
      ∧ (ddlStep (d.feeder .f1).row.prot (handOn d .f1 1 x) false (d.feeder .f1).prot.ddl).2 = .fires 7500
      ∧ iocFires (d.feeder .f1).row.prot (handOn d .f1 1 x) 0 false = false
      ∧ TakesSample .f1 (wire sample) sample x 1 h
      ∧ (feederRow.prot.iTrip / 16) * (feederRow.prot.iTrip / 16)
          ≤ thermalNext feederRow.prot.k 8400 (h.feeder .f1).prot.theta
      ∧ TakesSample .f1 (wire sample) sample x 1 w ∧ w.mode = .shadow ∧ (w.sq .f1).state = .closed
      ∧ iocFires (w.feeder .f1).row.prot (handOn w .f1 1 x) (w.feeder .f1).prot.iocCount false = true
      ∧ (w.feeder .f1).row.brk.capture = true ∧ fillingSlot w .f1 = none ∧ freeSlot w = some .s0 := by
  unfold TakesSample FromField Arrives; decide +kernel

/-- R66, R68: the sample that ends a rise trips F1 with cause DDL, and in SHADOW only reports it. -/
theorem test_ddl_trip :
    let s (m : Mode) :=
      f1Intake (fun k => { k with resumption := false, lastSeq := some 40#8, lastAccepted := some (8300, 780) })
        (f1 closed ((site m).setProt .f1
          { Protection.fresh with ddl := { phase := .rising, iStart := 900, d := 6, q := 0 } }))
    let t (m : Mode) := after (.feederSampleReceived (wire sample)) (s m)
    ((t .service).sq .f1).primary = some .ddl ∧ ((t .service).sq .f1).state = .tripping
      ∧ ((t .service).reports.take 1).map (fun q => (q.record.kind, q.record.value2)) = [(.trip, some 7500)]
      ∧ ((t .shadow).sq .f1).state = .closed
      ∧ (t .shadow).reports.map (fun q => q.record.kind) = [.wouldTrip] := by decide +kernel

theorem test_witness_openings :
    let x : BreakerStatus := { breaker := .opened, contactor := .opened, spring := true }
    let st := status 1#8 1#8
    let o := f1 (fun r => { closed r with state := .opening, openTimer := some 9 }) svc
    let m := f1 closed (site .shadow)
    TakesStatus .f1 (wire st) st x (f1 closed svc) ∧ (f1 closed svc |>.sq .f1).breaker ≠ .opened
      ∧ (f1 closed svc |>.sq .f1).state = .closed ∧ svc.reports.length < 50
      ∧ TakesStatus .f1 (wire st) st x o ∧ (o.sq .f1).state = .opening ∧ (o.sq .f1).breaker ≠ .opened
      ∧ TakesStatus .f1 (wire st) st x m ∧ (m.sq .f1).state = .closed ∧ m.mode = .shadow
      ∧ (f1 (fun r => { closed r with sotf := some 9 }) svc |>.sq .f1).sotf ≠ none := by
  unfold TakesStatus FromField Arrives; decide +kernel

theorem test_witness_uncommanded :
    let x : BreakerStatus := { breaker := .closed, contactor := .opened, spring := true }
    let st := status 2#8 1#8
    let d := f1 (dead .timing (some 9)) svc
    let l := f1 (locked .shotsExhausted) svc
    let t := serving (f1 (testing .liveCheck .opened) svc)
    TakesStatus .f1 (wire st) st x d ∧ (d.sq .f1).breaker ≠ .closed ∧ (d.sq .f1).state = .deadTime
      ∧ d.rect.latched.get .f1 = (d.sq .f1).pendingTest ∧ d.mode = .service ∧ d.reports.length < 40
      ∧ TakesStatus .f1 (wire st) st x t ∧ (t.sq .f1).pendingTest = false
      ∧ TakesStatus .f1 (wire st) st x l ∧ (l.sq .f1).lockoutCause ≠ some .breakerFailure
      ∧ (f1 (locked .breakerFailure) svc |>.sq .f1).lockoutCause = some .breakerFailure
      ∧ (svc.sq .f1).state = .out ∧ (svc.sq .f1).breaker ≠ .closed := by
  unfold TakesStatus FromField Arrives; decide +kernel

theorem test_witness_flagged_and_contactor :
    let x : BreakerStatus := { breaker := .closed, contactor := .opened, spring := true }
    let y : BreakerStatus := { breaker := .opened, contactor := .closed, spring := true }
    let st := status 2#8 1#8
    let ct := status 1#8 2#8
    let d := f1 (dead .timing (some 9)) svc
    let k := f1 (fun r => { opened r with state := .closing, blind := true }) svc
    TakesStatus .f1 (wire ct) ct y d ∧ (d.sq .f1).breaker = .opened ∧ (d.sq .f1).contactor ≠ .closed
      ∧ (d.sq .f1).state ≠ .testing
      ∧ TakesStatus .f1 (wire st) st x k ∧ (k.sq .f1).state = .closing ∧ (k.sq .f1).blind = true
      ∧ (k.feeder .f1).row.brk.blindAction = .trip := by
  unfold TakesStatus FromField Arrives; decide +kernel

theorem test_witness_tie_port_lost :
    let d := port .ta (fun r => { r with state := .degraded, errorCount := 248 }) svc
    let e : Entry := { tie := .a, sectionId := 40, cause := .ddl, tag := 17#8, sends := 1, timer := 10000 }
    let u := tieA (fun r => { r with up := true, silence := some 9 }) (f1 (tripping .ddl) d)
    let x := u.setFeeder .f1 { u.feeder .f1 with entry := some e }
    let w := group running (f1 (dead .awaitingFarEnd (some 9)) u)
    (classify [] = .error .abort ∧ (d.port (Tie.a).port).state = .degraded
        ∧ 248 ≤ (d.port (Tie.a).port).errorCount ∧ d.reports.length < 30 ∧ (d.tie .a).up = false
        ∧ (x.tie .a).up = true ∧ (x.feeder .f1).entry = some e ∧ (x.sq .f1).state = .tripping
        ∧ (w.feeder .f1).section_.tie = some .a ∧ (w.feeder .f1).entry = none
        ∧ (w.sq .f1).phase = some .awaitingFarEnd
        ∧ (w.feeder .f1).prot.theta ≤ thetaReclose w .f1 ∧ w.rect.state = .running)
      ∧ (∀ f, x.rect.latched.get f = true → (x.sq f).state = .deadTime)
      ∧ ∀ f, w.rect.latched.get f = true → (w.sq f).state = .deadTime :=
  ⟨by decide +kernel, fun f => by cases f <;> decide +kernel, fun f => by cases f <;> decide +kernel⟩

theorem test_witness_trip_request_states :
    let s (g : FeederRec → FeederRec) := f1 g svc
    let t := serving (f1 (testing .settling .closed) svc)
    (svc.sq .f1).state = .out ∧ (s opened |>.sq .f1).state = .opened
      ∧ (s (tripping .ioc) |>.sq .f1).state = .tripping ∧ (s (dead .cooling none) |>.sq .f1).state = .deadTime
      ∧ (t.sq .f1).state = .testing ∧ (t.sq .f1).openRequested = false
      ∧ t.rect.latched.get .f1 = false ∧ t.reports.length < 40 ∧ (t.port .ta).urgent.length < 20
      ∧ (f1 (fun r => { r with openRequested := true }) t |>.sq .f1).openRequested = true
      ∧ mappedFeeder t .a 40#8 = some .f1 ∧ t.mode = .service := by decide +kernel

/-! ### The group -/

theorem test_witness_group_samples :
    let x (i temp : Int) : RectSample :=
      { ub := 790, ir := i, temp := temp, ubOver := false, irOver := false, unitFault := false
        crossing := none }
    let q (i0 i1 temp : Byte) := fr .sample 5#8 [3#8, 22#8, i0, i1, temp, 0#8, 0#8, 0#8, 0#8]
    let s (g : RectRec → RectRec) := group (fun r => g (running r)) svc
    let hot := (s fun r => { r with stackTrip := true }).rect
    ((∃ b, FromField .rectMu b (wire (q 31#8 64#8 40#8)) (q 31#8 64#8 40#8) (s id))
        ∧ (∃ b, FromField .rectMu b (wire (q 3#8 232#8 100#8)) (q 3#8 232#8 100#8) (s id)))
      ∧ readRectSample (q 31#8 64#8 40#8).payload = some (x 8000 40)
      ∧ readRectSample (q 3#8 232#8 100#8).payload = some (x 1000 100)
      ∧ judgeGap (s id).rectIntake.lastSeq 41#8 = some 1
      ∧ ((rectRow.iRectTrip : Int) ≤ (x 8000 40).ir ∧ (x 1000 100).ir < (rectRow.iRectTrip : Int))
      ∧ rectRow.cRect ≤ (s fun r => { r with overcurrent := 1 }).rect.overcurrent + 1
      ∧ (s id).rectValid = true ∧ (s id).rect.stackTrip = false ∧ (x 8000 40).temp < (rectRow.tTrip : Int)
      ∧ (rectRow.tTrip : Int) ≤ (x 1000 100).temp ∧ rectRow.stackPolicy = .retry
      ∧ hot.stackTrip = true ∧ (40 : Int) < (rectRow.tTrip : Int) - rectRow.hysteresis
      ∧ (s id).reports.length < 30 := by
  refine ⟨⟨⟨none, ?_⟩, ⟨none, ?_⟩⟩, ?_⟩ <;> (try unfold FromField Arrives) <;> decide +kernel

theorem test_witness_stack_onset_testers :
    let s := serving (f1 (testing .settling .closed) svc)
    (∀ f, s.rect.testers.get f = true →
        (s.sq f).state = .testing ∧ (s.sq f).openRequested = false ∧ (s.sq f).test.kind = some .auto
          ∧ (s.sq f).shotTaken = true)
      ∧ ∀ f, s.rect.latched.get f = false :=
  ⟨fun f => by cases f <;> decide +kernel, fun f => by cases f <;> decide +kernel⟩

/-- R136: the onset of the stack trip in RUNNING puts the group in HOLD with retry pending and aborts the
test it serves. -/
theorem test_stack_onset :
    let q := fr .sample 5#8 [3#8, 22#8, 3#8, 232#8, 100#8, 0#8, 0#8, 0#8, 0#8]
    let t := after (.rectSampleReceived 0#48 (wire q)) (serving (f1 (testing .settling .closed) svc))
    t.rect.state = .hold ∧ t.rect.retryPending = true ∧ (t.sq .f1).phase = some .timing
      ∧ (t.sq .f1).shotCount = 0 ∧ t.rect.testers.get .f1 = false := by decide +kernel

theorem test_witness_crossing_starts :
    let s (g : RectRec → RectRec) :=
      group (fun r => g { running r with state := .hold, syncValid := true, latched := r.latched.set .f1 true })
        (f1 (fun r => { dead .awaitingSupply none r with
          pendingTest := true
          test := { TestRec.fresh with kind := some .auto, origin := some .timing } }) svc)
    let w := s fun r => { r with n := 4, sumUb := 2396 }
    let p := s fun r => { r with runPending := true }
    w.rect.syncValid = true ∧ w.rect.p = some 1000000#48 ∧ w.rect.state = .hold
      ∧ (1000100#48 - 1000000#48 : Stamp).toInt.natAbs ≤ w.rect.t / 4 ∧ w.reports.length < 20
      ∧ rectRow.wake = true ∧ w.rect.stackTrip = false ∧ w.rect.cause ≠ .stackHot ∧ w.mode = .service
      ∧ 0 < w.rect.n ∧ w.rect.sumUb / w.rect.n < rectRow.uWake ∧ ¬ 2400 / 4 < rectRow.uWake
      ∧ w.rect.latched.get .f1 = true ∧ (w.sq .f1).blind = false ∧ (w.sq .f1).frozen = false
      ∧ (w.sq .f1).test.kind = some .auto ∧ p.rect.runPending = true
      ∧ (f1 (fun r => { r with blind := true }) w |>.sq .f1).blind = true
      ∧ (group (fun r => { r with state := .probe }) p).rect.state = .probe
      ∧ (group (fun r => { r with cause := .stackHot }) w).rect.cause = .stackHot := by decide +kernel

/-! ### Requests refused, modes and captures -/

theorem test_witness_writes_refused :
    let s := site .config
    let mine : NodeRow := row .breaker (some .f1) .field
    let sec : SectionRow := { tie := some .a, sectionId := 40, role := .follower }
    let b := f1 opened s
    let e : Entry := { tie := .a, sectionId := 40, cause := .ddl, tag := 17#8, sends := 1, timer := 1 }
    let i := s.setFeeder .f1 { s.feeder .f1 with entry := some e }
    let r60 : RectRow := { rectRow with freq := 60 }
    s.inReset = false ∧ station.source = .fromStation ∧ s.mode = .config
      ∧ nodeRowOk s 62 { value := mine, outOfSet := false } = false
      ∧ nodeRowOk b 4 { value := unusedRow, outOfSet := false } = true
      ∧ bindingsFree b (b.nodeRow 4#8) unusedRow = false
      ∧ feederRowOk (roundFeeder FeederRow.zero) = false ∧ (b.sq .f1).state ≠ .out
      ∧ sectionOk s .f2 { value := sec, outOfSet := false } = false
      ∧ sectionOk i .f1 { value := { sec with tie := none }, outOfSet := false } = true
      ∧ sectionBlocked i .f1 { sec with tie := none } = true
      ∧ rectRowOk RectRow.zero = false ∧ rectWriteBlocked (group running s) r60 = true ∧ rectRowOk r60 = true
      ∧ portOfRow 1 = some .sp ∧ portOfRow 4 = none
      ∧ reportRowOk { level := 5, batchTimeout := 1, replayTime := 10 } = false := by decide +kernel

theorem test_witness_commands_refused :
    let s := f1 opened svc
    svc.inReset = false ∧ station.source = (if svc.key = .atRemote then .fromStation else .fromPanel)
      ∧ panel.source ≠ (if svc.key = .atRemote then .fromStation else .fromPanel)
      ∧ (s.sq .f1).state ≠ .out ∧ (f1 closed svc |>.sq .f1).state ≠ .opened
      ∧ (f1 closed svc |>.sq .f1).state ≠ .lockout ∧ (s.sq .f1).state = .opened
      ∧ (group (fun r => { r with state := .parked }) s).rect.state = .parked
      ∧ ({ svc with rectValid := false }).rectValid = false
      ∧ (group (fun r => { r with state := .faulted }) svc).rect.state = .faulted
      ∧ svc.rect.state ≠ .faulted ∧ (site .shadow).mode = .shadow ∧ (site .replay).mode = .replay
      ∧ (site .config).mode = .config ∧ (f1 (tripping .ioc) (site .config) |>.sq .f1).state = .tripping := by
  decide +kernel

theorem test_witness_group_commands :
    let s (x : RectState) := group (fun r => { r with state := x }) svc
    (s .hold).rect.state = .hold ∧ (s .probe).rect.state = .probe ∧ (s .starting).rect.state = .starting
      ∧ (s .parked).rect.state = .parked ∧ (s .hold).rect.firing ≠ .faulty ∧ (s .hold).rectValid = true
      ∧ (serving svc).rect.state = .running ∧ (serving svc).rect.testers.get .f1 = true
      ∧ (s .hold).estop = false ∧ (s .hold).rect.stackTrip = false ∧ (s .hold).mode ≠ .config := by
  decide +kernel

theorem test_witness_mode_entries :
    let c := group (fun r => { r with acPos := .closed })
      (f1 (fun r => { opened r with breaker := .closed }) (site .config))
    let sh := f1 (fun r => { closed r with blind := true }) (site .shadow)
    let p := group (fun r => { r with state := .parked }) (site .replay)
    (c.mode = .config ∧ c.rectValid = true ∧ c.reports.length < 40 ∧ (c.sq .f1).state = .opened
        ∧ (c.sq .f1).breaker = .closed ∧ c.rect.acPos = .closed ∧ c.rect.state ≠ .faulted
        ∧ svc.rect.state = .parked ∧ (f1 closed svc |>.sq .f1).state = .closed
        ∧ sh.mode = .shadow ∧ sh.reports.length < 20 ∧ (sh.sq .f1).state = .closed
        ∧ (sh.sq .f1).blind = true ∧ (sh.feeder .f1).row.brk.blindAction = .trip
        ∧ ({ p with estop := true }).estop = true ∧ (site .shadow).estop = false
        ∧ (group running (site .shadow)).rect.state = .running)
      ∧ (∀ f, ((site .config).sq f).state = .out) ∧ (∀ f, ((site .shadow).sq f).state ≠ .closed)
      ∧ (∀ f, (svc.sq f).state = .out) ∧ ModeStatesLaw c ∧ ModeStatesLaw sh ∧ ModeStatesLaw (site .shadow) :=
  ⟨by decide +kernel, fun f => by cases f <;> rfl, fun f => by cases f <;> decide +kernel,
    fun f => by cases f <;> rfl, fun f => by cases f <;> decide +kernel,
    fun f => by cases f <;> decide +kernel, fun f => by cases f <;> decide +kernel⟩

/-- R97, R141: the entry to SHADOW mirrors a closed breaker, and the change to SERVICE serves its flag. -/
theorem test_shadow_and_back :
    let c := f1 (fun r => { opened r with breaker := .closed, blind := true }) (site .config)
    let a := after (.setMode station (some .shadow)) c
    let b := after (.setMode station (some .service)) a
    (a.sq .f1).state = .closed ∧ a.mode = .shadow ∧ (b.sq .f1).state = .tripping
      ∧ (b.sq .f1).primary = some .blind ∧ (b.sq .f1).tripLine = true := by decide +kernel

theorem test_witness_capture_filling :
    let x : FeederSample := { i := 8400, u := 780, iOver := false, uOver := false, unitFault := false }
    let slot : Slot :=
      { Slot.free with state := .filling, feeder := some .f1, trigger := some .manual
                       positions := List.replicate 511 none }
    let s := f1 opened { svc with slots := svc.slots.set .s1 slot }
    let e : RingEntry := { i := 1, u := 2, ub := 3, seq := 0#8, gap := none }
    TakesSample .f1 (wire sample) sample x 1 s ∧ fillingSlot s .f1 = some .s1 ∧ s.reports.length < 50
      ∧ slot.positions.length + handedGap true 1 0 ≤ 512 ∧ 512 ≤ slot.positions.length + handedGap true 1 0
      ∧ (s.sq .f1).state = .opened ∧ station.source = (if s.key = .atRemote then .fromStation else .fromPanel)
      ∧ s.mode ≠ .shadow ∧ [e] = [] ++ e :: [] ∧ (s.port .sp).normal.length ≤ 28
      ∧ (s.port .sp).state ≠ .lost ∧ (s.port .sp).sending = none ∧ (s.port .sp).urgent = []
      ∧ (s.port .sp).normal = []
      ∧ (port .sp (fun r => { r with state := .lost }) s |>.port .sp).state = .lost := by
  unfold TakesSample FromField Arrives; decide +kernel

/-- R169: the 512th position makes the slot READY, and the capture has one sample. -/
theorem test_capture_ready :
    let slot : Slot :=
      { Slot.free with state := .filling, feeder := some .f1, trigger := some .manual
                       positions := List.replicate 511 none }
    let t := after (.feederSampleReceived (wire sample)) { svc with slots := svc.slots.set .s1 slot }
    (t.slots.get .s1).state = .ready
      ∧ t.reports.map (fun q => (q.record.kind, q.record.value1, q.record.value2))
          = [(.captureReady, some 1, some 1)] := by decide +kernel

/-- R53: the sample that sets FROZEN leaves IOC at rest, although it is itself above the setting. -/
theorem test_frozen_sample :
    let t := after (.feederSampleReceived (wire sample))
      (group running
        (f1Intake (fun k => { k with
            resumption := false, lastSeq := some 40#8, lastAccepted := some (8400, 780), frozenCount := 31 })
          (f1 (fun r => closed r) (svc.setFeeder .f1 { svc.feeder .f1 with
            row := { feederRow with brk := { feederRow.brk with blindAction := .alarm } } }))))
    (t.sq .f1).frozen = true ∧ (t.feeder .f1).prot.iocCount = 0 ∧ (t.sq .f1).state = .closed := by
  decide +kernel

/-- R188's last words (log entry 48): a SET_TIME of the present time leaves the time-set marker. -/
theorem test_set_present_time :
    let t := after (.setTime station 7) { svc with time := 7#48 }
    t.rectIntake.timeSet = false ∧ t.timeValid = true
      ∧ (after (.setTime station 8) { svc with time := 7#48 }).rectIntake.timeSet = true := by
  decide +kernel

/-- R175: the answer to a request that cannot be read carries its type byte. -/
theorem test_malformed_type :
    ((after (.badRequest station (.malformed 9#8)) svc).port .sp).sending.map Frame.payload
      = some (.reply { type := .asReceived 9#8, number := 10#8, status := .badRequest, part := 0
                       parts := 1, body := .empty }) := by decide +kernel

/-! ### Rejected rectifier samples, placed crossings and intertrips asked -/

/-- A SAMPLE of the rectifier unit at 100 degrees, and one of 40 degrees whose crossing lies 100 µs after
the previous stamp. -/
def hotSample : RxFrame := fr .sample 5#8 [3#8, 22#8, 3#8, 232#8, 100#8, 0#8, 0#8, 0#8, 0#8]

/-- A SAMPLE of the rectifier unit with a crossing at offset 100. -/
def crossingSample : RxFrame :=
  fr .sample 5#8 [3#8, 22#8, 3#8, 232#8, 40#8, 8#8, 0#8, 0#8, 0#8, 0#8, 100#8]

/-- The rectifier intake armed for a crossing: its last sample was number 40, stamped 1000. -/
def armed (s : State) : State :=
  s.setRectIntake
    { s.rectIntake with lastSeq := some 40#8, resumption := false, prevStamp := some 1000#48 }

theorem test_witness_rect_not_accepted :
    let u := fr .sample 5#8 [3#8, 22#8, 3#8, 232#8, 40#8, 4#8, 0#8, 0#8, 0#8]
    let x : RectSample :=
      { ub := 790, ir := 1000, temp := 40, ubOver := false, irOver := false, unitFault := true
        crossing := none }
    let short := fr .sample 5#8 [3#8, 22#8, 3#8, 232#8, 40#8, 8#8, 0#8, 0#8, 0#8]
    let old := svc.setRectIntake { svc.rectIntake with lastSeq := some 41#8 }
    (FromField .rectMu none (wire u) u svc ∧ u.kind = .sample ∧ readRectSample u.payload = some x
        ∧ judgeGap svc.rectIntake.lastSeq u.seq = some 1 ∧ svc.rectIntake.faultOnset = false)
      ∧ (Arrives .fp (wire short) short svc ∧ (svc.nodeRow 5#8).role = .rectMu
        ∧ (svc.nodeRow 5#8).side = .field ∧ (short.payload.getD 5 0#8).getLsbD 3 = true
        ∧ short.payload.length ≠ 11 ∧ judgeGap old.rectIntake.lastSeq short.seq = none
        ∧ (site .replay).mode = .replay ∧ (rectSample9.payload.getD 5 0#8).getLsbD 3 = false
        ∧ (rectSample9.payload.take 8).length ≠ 9) := by
  unfold FromField Arrives; decide +kernel

theorem test_witness_probe_stack_onset :
    let x : RectSample :=
      { ub := 790, ir := 1000, temp := 100, ubOver := false, irOver := false, unitFault := false
        crossing := none }
    let s := group (fun r => { r with state := .probe }) (serving (f1 (testing .settling .closed) svc))
    TakesRectSample (wire hotSample) hotSample x 1 s
      ∧ (s.rect.state = .probe ∧ s.rect.stackTrip = false ∧ x.ir < (s.rectRow.iRectTrip : Int)
        ∧ (s.rectRow.tTrip : Int) ≤ x.temp ∧ s.mode ≠ .shadow ∧ s.rectRow.stackPolicy = .retry
        ∧ s.rect.testers.get .f1 = true)
      ∧ (∀ f, s.rect.testers.get f = true →
          (s.sq f).state = .testing ∧ (s.sq f).openRequested = false ∧ (s.sq f).test.kind = some .auto
            ∧ (s.sq f).shotTaken = true)
      ∧ ∀ f, s.rect.latched.get f = false := by
  refine ⟨⟨⟨none, ?_⟩, ?_⟩, ?_, fun f => ?_, fun f => ?_⟩ <;> (try unfold FromField Arrives)
    <;> (try cases f) <;> decide +kernel

theorem test_witness_rect_crossing :
    let x : RectSample :=
      { ub := 790, ir := 1000, temp := 40, ubOver := false, irOver := false, unitFault := false
        crossing := some 100 }
    let s := armed (group running svc)
    TakesRectSample (wire crossingSample) crossingSample x 1 s
      ∧ x.ir < (s.rectRow.iRectTrip : Int) ∧ s.rectValid = true ∧ s.rect.stackTrip = false
      ∧ x.temp < (s.rectRow.tTrip : Int) ∧ handedGap false 1 s.rectIntake.carry = 1
      ∧ s.rectIntake.timeSet = false ∧ (100 : Int) < (5000#48 - 1000#48 : Stamp).toInt
      ∧ ¬ (100 : Int) < (1100#48 - 1000#48 : Stamp).toInt
      ∧ svc.rectIntake.resumption = true ∧ svc.rectIntake.prevStamp = none := by
  refine ⟨⟨⟨none, ?_⟩, ?_⟩, ?_⟩ <;> (try unfold FromField Arrives) <;> decide +kernel

theorem test_witness_hard_sync :
    let s (g : RectRec → RectRec) := group g svc
    let w := s fun r => { r with state := .starting, firstCrossingWait := true, acTimer := some 9 }
    let n := s fun r => { running r with syncValid := false }
    w.rect.state = .starting ∧ w.rect.firstCrossingWait = true ∧ w.reports.length < 20
      ∧ (s fun r => { r with state := .starting }).rect.firstCrossingWait = false
      ∧ (s id).rect.state = .parked ∧ n.rect.state = .running ∧ n.rect.syncValid = false
      ∧ w.mode = .service ∧ (findNode w .firing none).isSome = true ∧ (w.port .fp).urgent.length < 10 := by
  decide +kernel

/-- R48, R124: the sample's crossing, placed 100 µs after the previous stamp, is the hard sync. -/
theorem test_hard_sync :
    let t := after (.rectSampleReceived 5000#48 (wire crossingSample))
      (armed (group (fun r => { r with state := .starting, firstCrossingWait := true, acTimer := some 9 })
        svc))
    t.rect.state = .running ∧ t.rect.t = 20000 ∧ t.rect.p = some 21100#48 ∧ t.rect.acTimer = none
      ∧ (t.port .fp).sending.map Frame.payload
          = some (.command (.firingSet
              { alpha := 240, correction := 0, period := 20000, block := false, resync := true })) := by
  decide +kernel

theorem test_witness_cooling :
    let x : FeederSample := { i := 8400, u := 780, iOver := false, uOver := false, unitFault := false }
    let s (g : RectRec → RectRec) (p : Protection) :=
      group g (f1 (dead .cooling none) (svc.setProt .f1 p))
    let r := s running Protection.fresh
    let hot := s running { Protection.fresh with theta := 22500 }
    TakesSample .f1 (wire sample) sample x 1 r ∧ (r.sq .f1).state = .deadTime
      ∧ (r.sq .f1).phase = some .cooling ∧ (r.sq .f1).pendingTest = false ∧ (r.sq .f1).frozen = false
      ∧ thermalNext feederRow.prot.k (handOn r .f1 1 x).i (r.feeder .f1).prot.theta ≤ thetaReclose r .f1
      ∧ ¬ thermalNext feederRow.prot.k (handOn hot .f1 1 x).i (hot.feeder .f1).prot.theta
          ≤ thetaReclose hot .f1
      ∧ r.rect.state = .running ∧ (s (fun r => { r with state := .hold }) Protection.fresh).rect.state = .hold
      ∧ (s id Protection.fresh).rect.state = .parked := by
  unfold TakesSample FromField Arrives; decide +kernel

/-- R103: the cooling feeder's test starts at an accepted sample below θ_reclose. -/
theorem test_cooling_ends :
    let t := after (.feederSampleReceived (wire sample)) (group running (f1 (dead .cooling none) svc))
    (t.sq .f1).state = .testing ∧ (t.sq .f1).test.origin = some .cooling
      ∧ t.rect.testers.get .f1 = true := by decide +kernel

theorem test_witness_intertripped :
    let o := f1 (fun r => { r with openTimer := some 0 }) (f1 (tripping .ioc) svc)
    let u := tieA (fun r => { r with up := true }) o
    let l := port .ta (fun r => { r with state := .lost }) o
    (o.feeder .f1).section_.tie = some .a ∧ (o.tie .a).up = false ∧ (o.port .ta).state ≠ .lost
      ∧ (u.tie .a).up = true ∧ (l.port .ta).state = .lost ∧ (o.feeder .f2).section_.tie = none
      ∧ o.inReset = false ∧ (o.sq .f1).openTimer ≠ none ∧ (o.sq .f1).breaker ≠ .opened
      ∧ o.reports.length < 10 ∧ (∀ k : Tie, (o.port k.port).urgent.length < 20)
      ∧ (f1 (fun r => { r with state := .opening }) o |>.sq .f1).state = .opening := by
  refine ⟨?_, ?_, ?_, ?_, ?_, ?_, ?_, ?_, ?_, ?_, fun k => ?_, ?_⟩ <;> (try cases k) <;> decide +kernel

/-- R87, R150, R156: a breaker failure intertrips the far end and holds the section. -/
theorem test_breaker_failure_intertrips :
    let s := f1 (fun r => { r with openTimer := some 0 }) (f1 (tripping .ioc) svc)
    let t := after (.openTimerExpired .f1) (tieA (fun r => { r with up := true }) s)
    ((t.feeder .f1).entry.map fun e => (e.cause, e.sends, e.timer)) = some (.backup, 1, 10000)
      ∧ ((t.port .ta).sending.toList ++ (t.port .ta).urgent).map Frame.payload
          = [.tie (.sectionHold 40#8), .tie (.tripReq 40#8 .backup (s.tie .a).tag)] := by decide +kernel

theorem test_witness_lockout_holds :
    let x : BreakerStatus := { breaker := .opened, contactor := .opened, spring := true }
    let st := status 1#8 1#8
    let e := f1 (fun r => { tripping .ioc r with shotCount := 2 }) svc
    let k := f1 (fun r => { tripping .ioc r with sotfMark := true }) svc
    let b := f1 (tripping .emergency) svc
    TakesStatus .f1 (wire st) st x e ∧ (e.feeder .f1).section_.tie = some .a ∧ (e.sq .f1).state = .tripping
      ∧ ((after (.breakerStatusReceived (wire st)) e).sq .f1).lockoutCause = some .shotsExhausted
      ∧ TakesStatus .f1 (wire st) st x k
      ∧ ((after (.breakerStatusReceived (wire st)) k).sq .f1).lockoutCause = some .switchOntoFault
      ∧ TakesStatus .f1 (wire st) st x b
      ∧ ((after (.breakerStatusReceived (wire st)) b).sq .f1).lockoutCause = some (.trip .emergency)
      ∧ (e.port .ta).urgent.length < 24 := by
  unfold TakesStatus FromField Arrives; decide +kernel

theorem test_witness_tie_silence_states :
    let s := tieA (fun r => { r with up := true, silence := some 0 }) svc
    let e : Entry := { tie := .a, sectionId := 40, cause := .ddl, tag := 17#8, sends := 1, timer := 10000 }
    let with_ (g : FeederRec → FeederRec) :=
      let t := f1 g s
      t.setFeeder .f1 { t.feeder .f1 with entry := some e }
    let w := group running (f1 (dead .awaitingFarEnd (some 9)) s)
    ((with_ (dead .timing (some 9))).sq .f1).state = .deadTime
      ∧ (with_ (dead .timing (some 9)) |>.feeder .f1).entry = some e ∧ s.reports.length < 10
      ∧ ((with_ (testing .settling .closed)).sq .f1).state = .testing ∧ s.mode ≠ .replay
      ∧ (w.feeder .f1).section_.tie = some .a ∧ (w.sq .f1).phase = some .awaitingFarEnd
      ∧ (w.feeder .f1).entry = none ∧ (w.sq .f1).blind = false ∧ (w.sq .f1).frozen = false
      ∧ ¬ thetaReclose w .f1 < (w.feeder .f1).prot.theta ∧ w.rect.state = .running
      ∧ (tieA (fun r => { r with up := false }) s |>.tie .a).silence ≠ none := by decide +kernel

theorem test_witness_simulation_starts :
    let s := f1 closed (site .replay)
    let p := group (fun r => { r with state := .parked, firing := .healthy }) s
    s.inReset = false ∧ s.mode = .replay ∧ (s.sq .f1).state = .closed ∧ p.rect.state = .parked
      ∧ station.source = (if p.key = .atRemote then .fromStation else .fromPanel) ∧ p.rectValid = true
      ∧ p.estop = false ∧ p.rect.stackTrip = false ∧ p.rect.firing ≠ .faulty := by decide +kernel

/-- R46: a FEEDER write of policy LATCH ends a count of clearing samples. -/
theorem test_latch_write_ends_clearing :
    let row := { feederRow with intake := { feederRow.intake with policy := .latch } }
    let s := f1Intake (fun k => { k with clearingCount := 7 }) (site .config)
    ((after (.writeRowFeeder station 1 ⟨row, false⟩) s).feeder .f1).intake.clearingCount = 0
      ∧ ((after (.writeRowFeeder station 1 ⟨feederRow, false⟩) s).feeder .f1).intake.clearingCount = 7 := by
  decide +kernel

/-! ### Changed positions of the group, held trips, entries to service and injected samples -/

theorem test_witness_ac_positions :
    let o := fr .status 6#8 [1#8]
    let c := fr .status 6#8 [2#8]
    let v := fr .status 6#8 [3#8]
    let h := fr .status 7#8 [2#8]
    let g (m : Mode) (x : RectState) := group (fun r => { r with state := x, acPos := .unknown }) (site m)
    (FromField .acBreaker none (wire c) c (g .service .parked) ∧ readAcStatus c.payload = some .closed
        ∧ FromField .acBreaker none (wire o) o (g .shadow .running) ∧ readAcStatus o.payload = some .opened
        ∧ FromField .acBreaker none (wire v) v (g .service .hold)
        ∧ readAcStatus v.payload = some .travelling)
      ∧ (FromField .firing none (wire h) h (g .shadow .running) ∧ (g .shadow .running).rect.firing ≠ .faulty)
      ∧ (g .service .parked).rect.state = .parked ∧ (g .service .faulted).rect.state = .faulted
      ∧ (g .service .starting).rect.firstCrossingWait = false ∧ (g .shadow .faulted).mode = .shadow
      ∧ (findNode (g .service .parked) .acBreaker none).isSome = true := by
  unfold FromField Arrives; decide +kernel

/-- R138: a closing in PARKED offers OPEN, starts the AC timer and is reported. -/
theorem test_ac_uncommanded_close :
    let c := fr .status 6#8 [2#8]
    let t := after (.acBreakerStatusReceived (wire c))
      (group (fun r => { r with state := .parked, acPos := .opened }) svc)
    t.rect.acTimer = some 1000000 ∧ t.rect.state = .parked
      ∧ t.reports.map (fun q => (q.record.kind, q.record.value1)) = [(.uncommandedClose, some 3)]
      ∧ (t.port .fp).sending.map Frame.payload = some (.command (.acBreaker false)) := by decide +kernel

theorem test_witness_hold_set :
    let x : FeederSample := { i := 8400, u := 780, iOver := false, uOver := false, unitFault := false }
    let s (m : Mode) (i : Int) := (f1Intake (fun k => { k with resumption := false, lastSeq := some 40#8
                                                               lastAccepted := some (i, 780) })
      (f1 closed ((site m).setFeeder .f1
        { (site m).feeder .f1 with
          row := { feederRow with brk := { feederRow.brk with blindAction := .alarm } }
          prot := { Protection.fresh with hold := true, iocCount := 2 } })))
    TakesSample .f1 (wire sample) sample x 1 (s .service 8300) ∧ ((s .service 8300).sq .f1).state = .closed
      ∧ ((s .service 8300).feeder .f1).prot.hold = true
      ∧ ((s .service 8300).feeder .f1).row.brk.blindAction = .alarm
      ∧ (feederRow.prot.iIoc ≤ (handOn (s .service 8300) .f1 1 x).i.natAbs)
      ∧ TakesSample .f1 (wire sample) sample x 1 (s .shadow 8300) ∧ ((s .shadow 8300).sq .f1).state = .closed := by
  unfold TakesSample FromField Arrives; decide +kernel

/-- R69: with the trip hold set IOC at its count raises nothing, and a quiet sample clears the hold. -/
theorem test_hold_set :
    let s := f1Intake (fun k => { k with resumption := false, lastSeq := some 40#8
                                         lastAccepted := some (8300, 780) })
      (f1 closed ((site .shadow).setProt .f1 { Protection.fresh with hold := true, iocCount := 2 }))
    let low := fr .sample 3#8 [3#8, 232#8, 3#8, 12#8, 0#8, 0#8]
    let t := after (.feederSampleReceived (wire sample)) s
    (t.feeder .f1).prot.hold = true ∧ (t.feeder .f1).prot.iocCount = 2 ∧ t.reports = []
      ∧ ((after (.feederSampleReceived (wire low)) s).feeder .f1).prot.hold = false := by decide +kernel

theorem test_witness_in_service_flagged :
    let i := f1 (fun r => { r with breaker := .closed, frozen := true }) svc
    inServiceOk i .f1 = true ∧ (i.sq .f1).frozen = true ∧ (i.feeder .f1).row.brk.blindAction = .trip
      ∧ station.source = (if i.key = .atRemote then .fromStation else .fromPanel) ∧ i.mode ≠ .shadow
      ∧ i.reports.length < 60 := by decide +kernel

/-- R78, R94: the feeder that kept FROZEN in OUT trips as it enters CLOSED. -/
theorem test_in_service_frozen :
    let t := after (.inService station 1) (f1 (fun r => { r with breaker := .closed, frozen := true }) svc)
    (t.sq .f1).state = .tripping ∧ (t.sq .f1).primary = some .frozen ∧ (t.sq .f1).tripLine = true := by
  decide +kernel

theorem test_witness_rect_injection :
    let s := site .replay
    let f := [3#8, 22#8, 3#8, 232#8, 40#8, 4#8, 0#8, 0#8, 0#8]
    let x : RectSample :=
      { ub := 790, ir := 1000, temp := 40, ubOver := false, irOver := false, unitFault := false
        crossing := none }
    s.mode = .replay ∧ (s.nodeRow 5#8).role = .rectMu ∧ readRectSample rectSample9.payload = some x
      ∧ (saturatedIr x < (s.rectRow.iRectTrip : Int)) ∧ s.rect.stackTrip = false
      ∧ x.temp < (s.rectRow.tTrip : Int) ∧ (readRectSample f).map RectSample.unitFault = some true
      ∧ readRectSample [1#8] = none ∧ (rectSample9.payload).length = 9
      ∧ saturatedIr { x with irOver := true } = 32767 := by decide +kernel

/-- R50: the reception stamp of an injected rectifier sample is the station time of its taking. -/
theorem test_rect_injection_stamp :
    let t := after (.inject station 5 rectSample9.payload) { site .replay with time := 777#48 }
    t.rectIntake.prevStamp = some 777#48 ∧ t.rectIntake.lastSeq = some 0#8 ∧ t.rectIntake.ub = 790 := by
  decide +kernel

theorem test_witness_command_frame :
    (∃ c, (queued (.command (.breaker .f1 .trip))).payload = .command c)
      ∧ ∃ m, (queued (.tie (.beat .service))).payload = .tie m := ⟨⟨_, rfl⟩, ⟨_, rfl⟩⟩

end Sys2Proof.Tests
end

section
/-! PROOF. What a step can do to the queues of the part, said once: every command is a chain of seven
elementary moves of the port queues, the request queue and the report queue. The laws of the queues (R13
to R17, R164, R176) each follow by one case for each move. -/

namespace Sys2Proof.Machine

-- One theorem after another, as in the tests: each waiting proof would hold a thread of its own.
set_option Elab.async false

/-- Seen from an older record of the port, the queues have at most lost frames and no count has left its
range (R17). -/
structure PortRec.NoFuller (r old : PortRec) : Prop where
  urgent : r.urgent.Sublist old.urgent
  normal : r.normal.Sublist old.normal
  errorCount : r.errorCount ≤ max 256 old.errorCount
  recoveryCount : r.recoveryCount ≤ max 128 old.recoveryCount
  rejected : r.rejected ≤ max 65535 old.rejected
  forwardedDrop : r.forwardedDrop ≤ max 65535 old.forwardedDrop

/-- The elementary moves of the queues. -/
inductive QueueMove : State → State → Prop where
  /-- Nothing joins a queue: frames, requests and the oldest records may leave, records may age, and counts
  stay in their ranges. -/
  | recede {s t : State} (ports : ∀ p, (t.port p).NoFuller (s.port p))
      (requests : t.requests.Sublist s.requests)
      (reports : t.reports.map QueuedReport.record <:+ s.reports.map QueuedReport.record)
      (loss : t.loss ≤ max 255 s.loss) : QueueMove s t
  /-- A record is submitted (R161, R164). -/
  | submit (kind : ReportKind) (src : Source) (c : Option Cause) (v w : Option Int) (s : State) :
      QueueMove s (submit kind src c v w s)
  /-- A request joins the request queue (R176). -/
  | request (q : QueuedRequest) {s : State} (h : s.requests.length < 8) :
      QueueMove s { s with requests := s.requests ++ [q] }
  /-- A frame joins the NORMAL queue of a port (R16). -/
  | normal (p : Port) (frame : Frame) {s : State} (h : (s.port p).normal.length < 32) :
      QueueMove s (s.setPort p { s.port p with normal := (s.port p).normal ++ [frame] })
  /-- A REPORT frame joins the URGENT queue of the station port (R15). -/
  | urgentReport (frame : Frame) {s : State} (h : (s.port .sp).urgent.length < 24) :
      QueueMove s (s.setPort .sp { s.port .sp with urgent := (s.port .sp).urgent ++ [frame] })
  /-- A command is offered on the field port (R13). -/
  | command (c : FieldCommand) {frame : Frame} (h : frame.payload = .command c) (s : State) :
      QueueMove s (s.setPort .fp { s.port .fp with urgent := offeredCommand c frame (s.port .fp).urgent })
  /-- A TIE frame is offered on a tie port (R14). -/
  | tie (k : Tie) (m : TieMsg) (frame : Frame) (s : State) :
      QueueMove s (s.setPort k.port { s.port k.port with urgent := offeredTie m frame (s.port k.port).urgent })

/-- A chain of moves of the queues. -/
def QueueMoves : State → State → Prop := Relation.ReflTransGen QueueMove

namespace PortRec.NoFuller

theorem refl (r : PortRec) : r.NoFuller r where
  urgent := .refl _
  normal := .refl _
  errorCount := le_max_right _ _
  recoveryCount := le_max_right _ _
  rejected := le_max_right _ _
  forwardedDrop := le_max_right _ _

/-- The arbiter takes at most one frame from a queue (R11). -/
theorem arbitrate (r : PortRec) : r.arbitrate.NoFuller r where
  urgent := r.arbitrate_urgent_sublist
  normal := r.arbitrate_normal_sublist
  errorCount := by simp
  recoveryCount := by simp
  rejected := by simp
  forwardedDrop := by simp

/-- A port after warm restart holds no frames and counts from 0 (R18). -/
theorem warm (r : PortRec) : r.warm.NoFuller r where
  urgent := List.nil_sublist _
  normal := List.nil_sublist _
  errorCount := Nat.zero_le _
  recoveryCount := Nat.zero_le _
  rejected := Nat.zero_le _
  forwardedDrop := Nat.zero_le _

/-- A port after cold reset holds no frames and counts from 0 (R18). -/
theorem cold (r : PortRec) : PortRec.cold.NoFuller r where
  urgent := List.nil_sublist _
  normal := List.nil_sublist _
  errorCount := Nat.zero_le _
  recoveryCount := Nat.zero_le _
  rejected := Nat.zero_le _
  forwardedDrop := Nat.zero_le _

end PortRec.NoFuller

theorem satInc_le_max (top n : Nat) : satInc top n ≤ max top n := by
  unfold satInc; split <;> omega

namespace QueueMoves

variable {s t u : State} {f : FeederId} {k : Tie} {p : Port} {c : FieldCommand}

/-! Chains -/

theorem refl : QueueMoves s s := Relation.ReflTransGen.refl

theorem trans (h : QueueMoves s t) (h' : QueueMoves t u) : QueueMoves s u :=
  Relation.ReflTransGen.trans h h'

theorem move (h : QueueMoves s t) (h' : QueueMove t u) : QueueMoves s u :=
  Relation.ReflTransGen.tail h h'

/-- What every move keeps, a chain of moves keeps. -/
theorem keeps {P : State → Prop} (hP : ∀ a b, QueueMove a b → P a → P b) (h : QueueMoves s t)
    (hs : P s) : P t := by
  induction h with
  | refl => exact hs
  | tail _ hm ih => exact hP _ _ hm ih

theorem ite {cond : Prop} {dec : Decidable cond} (ht : QueueMoves s t) (hu : QueueMoves s u) :
    QueueMoves s (if cond then t else u) := by split <;> assumption

/-- Moves made under a condition. -/
theorem thenIf {cond : Prop} {dec : Decidable cond} (h : QueueMoves s t) (h' : QueueMoves t u) :
    QueueMoves s (if cond then u else t) := ite (h.trans h') h

/-- Moves made unless a condition holds. -/
theorem thenUnless {cond : Prop} {dec : Decidable cond} (h : QueueMoves s t) (h' : QueueMoves t u) :
    QueueMoves s (if cond then t else u) := ite h (h.trans h')

theorem forFeeders {g : FeederId → State → State} (hg : ∀ e a, QueueMoves a (g e a))
    (h : QueueMoves s t) : QueueMoves s (forFeeders g t) :=
  forFeeders_induct (P := QueueMoves s) (fun e a ha => ha.trans (hg e a)) h

/-- A change that reaches no queue and no port. -/
theorem quiet (h : QueueMoves s t) (hp : u.ports = t.ports := by rfl)
    (hq : u.requests = t.requests := by rfl) (hr : u.reports = t.reports := by rfl)
    (hl : u.loss = t.loss := by rfl) : QueueMoves s u :=
  h.move <| .recede (fun p => by rw [State.port, State.port, hp]; exact .refl _) (hq ▸ .refl _)
    (hr ▸ List.suffix_refl _) (hl ▸ le_max_right _ _)

/-- A port record replaced by one that is no fuller. -/
theorem setPort {r : PortRec} (h : QueueMoves s t) (hr : r.NoFuller (t.port p)) :
    QueueMoves s (t.setPort p r) := by
  refine h.move (.recede (fun q => ?_) (.refl _) (List.suffix_refl _) (le_max_right _ _))
  by_cases hq : q = p
  · subst hq; simpa using hr
  · rw [State.setPort_port_ne _ _ hq]; exact .refl _

/-! Updates that reach no queue -/

theorem setSq {r : FeederRec} (h : QueueMoves s t) : QueueMoves s (t.setSq f r) := h.quiet

theorem setFeeder {r : FeederUnit} (h : QueueMoves s t) : QueueMoves s (t.setFeeder f r) := h.quiet

theorem setIntake {r : FeederIntake} (h : QueueMoves s t) : QueueMoves s (t.setIntake f r) := h.quiet

theorem setProt {r : Protection} (h : QueueMoves s t) : QueueMoves s (t.setProt f r) := h.quiet

theorem setRect {r : RectRec} (h : QueueMoves s t) : QueueMoves s (t.setRect r) := h.quiet

theorem setRectIntake {r : RectIntake} (h : QueueMoves s t) : QueueMoves s (t.setRectIntake r) := h.quiet

theorem setTie {r : TieRec} (h : QueueMoves s t) : QueueMoves s (t.setTie k r) := h.quiet

theorem setSlot {i : SlotId} {r : Slot} (h : QueueMoves s t) : QueueMoves s (t.setSlot i r) := h.quiet

theorem withdrawLatched (h : QueueMoves s t) : QueueMoves s (withdrawLatched f t) := h.quiet

theorem addTester (h : QueueMoves s t) : QueueMoves s (addTester f t) := h.quiet

theorem dropTester (h : QueueMoves s t) : QueueMoves s (dropTester f t) := h.quiet

/-! The shared operations -/

theorem submit {kind : ReportKind} {src : Source} {x : Option Cause} {v w : Option Int}
    (h : QueueMoves s t) : QueueMoves s (submit kind src x v w t) := h.move (.submit ..)

theorem arbitrate (h : QueueMoves s t) : QueueMoves s (arbitrate p t) := h.setPort (.arbitrate _)

theorem advanceSeq (h : QueueMoves s t) : QueueMoves s (advanceSeq p t) :=
  h.setPort { PortRec.NoFuller.refl (t.port p) with }

theorem reject (h : QueueMoves s t) : QueueMoves s (reject p t) :=
  h.setPort { PortRec.NoFuller.refl (t.port p) with rejected := satInc_le_max _ _ }

theorem offerCommandFrame {n : Byte} (h : QueueMoves s t) : QueueMoves s (offerCommandFrame n c t) :=
  (h.move (.command c rfl t)).advanceSeq.arbitrate

theorem offerTie {m : TieMsg} (h : QueueMoves s t) : QueueMoves s (offerTie k m t) :=
  (h.move (.tie k m _ t)).advanceSeq.arbitrate

theorem offerForwarded {frame : Frame} (h : QueueMoves s t) :
    QueueMoves s (offerForwarded p frame t) := by
  unfold Machine.offerForwarded
  dsimp only
  split
  · next hl => exact (h.move (.normal p frame hl)).arbitrate
  · exact h.setPort { PortRec.NoFuller.refl (t.port p) with forwardedDrop := satInc_le_max _ _ }

theorem offerReplyFrame {dest : Byte} {reply : Reply} (h : QueueMoves s t) :
    QueueMoves s (offerReplyFrame p dest reply t) := by
  unfold Machine.offerReplyFrame
  dsimp only
  split
  · next hl => exact (h.move (.normal p _ hl)).advanceSeq.arbitrate
  · exact (h.setPort (.refl _)).advanceSeq.arbitrate

theorem simCommand (h : QueueMoves s t) : QueueMoves s (simCommand c t) := by
  cases c <;> exact h.quiet

theorem offerField (h : QueueMoves s t) : QueueMoves s (offerField c t) := by
  unfold Machine.offerField
  split
  · exact h.simCommand
  · split
    · exact h.offerCommandFrame
    · exact h

/-! Captures -/

theorem trigger {kind : TriggerKind} (h : QueueMoves s t) : QueueMoves s (trigger f kind t) := by
  unfold Machine.trigger
  split
  · exact h
  · exact h.quiet
  · exact h.submit

theorem storePositions {i : SlotId} {positions : List (Option Point)} (h : QueueMoves s t) :
    QueueMoves s (storePositions f i positions t) := ite h.quiet h.quiet.submit

theorem fillCapture {n : Nat} {x : Point} (h : QueueMoves s t) : QueueMoves s (fillCapture f n x t) := by
  unfold Machine.fillCapture
  split
  · exact h
  · exact h.storePositions

theorem endCapture (h : QueueMoves s t) : QueueMoves s (endCapture f t) := by
  unfold Machine.endCapture
  split
  · exact h
  · exact h.storePositions

/-! Feeders and the group -/

theorem disarmIfLeft {old new : FeederState} (h : QueueMoves s t) :
    QueueMoves s (disarmIfLeft f old new t) := ite h.quiet h

theorem enterCore {new : FeederState} {cause : Option LockoutCause} (h : QueueMoves s t) :
    QueueMoves s (enterCore f new cause t) := (h.thenIf refl.withdrawLatched).setSq.disarmIfLeft

theorem reportFeederState {new old : FeederState} (h : QueueMoves s t) :
    QueueMoves s (reportFeederState f new old t) := h.submit

theorem offerSeq (h : QueueMoves s t) : QueueMoves s (offerSeq c t) := h.thenUnless refl.offerField

theorem startCloseTimer (h : QueueMoves s t) : QueueMoves s (startCloseTimer f t) := h.quiet

theorem reportLineTest {x : LastResult} (h : QueueMoves s t) : QueueMoves s (reportLineTest f x t) :=
  h.submit

theorem recordResult {x : LastResult} (h : QueueMoves s t) : QueueMoves s (recordResult f x t) :=
  h.setSq.reportLineTest

theorem enterPhase {ph : Phase} {timer : Timer} (h : QueueMoves s t) :
    QueueMoves s (enterPhase f ph timer t) :=
  (h.thenUnless refl.enterCore).setSq.thenUnless refl.submit

theorem enterTiming (h : QueueMoves s t) : QueueMoves s (enterTiming f t) := h.enterPhase

theorem enterCooling (h : QueueMoves s t) : QueueMoves s (enterCooling f t) := h.enterPhase

theorem enterFarEndWait (h : QueueMoves s t) : QueueMoves s (enterFarEndWait f t) := h.enterPhase

theorem offerRect {force : Bool} (h : QueueMoves s t) : QueueMoves s (offerRect force c t) :=
  h.thenUnless refl.offerField

theorem offerBlocked {force : Bool} (h : QueueMoves s t) : QueueMoves s (offerBlocked force t) :=
  h.quiet.offerRect

theorem rectMove {new : RectState} {cause : RectCause} (h : QueueMoves s t) :
    QueueMoves s (rectMove new cause t) := (h.setRect.thenIf refl.offerBlocked).submit

theorem park {cause : RectCause} (h : QueueMoves s t) : QueueMoves s (park cause t) :=
  h.rectMove.offerRect.setRect

theorem enterRest {target : RestState} {cause : RectCause} (h : QueueMoves s t) :
    QueueMoves s (enterRest target cause t) := by
  cases target
  · exact h.rectMove
  · exact h.park

theorem beginCrossingWait (h : QueueMoves s t) : QueueMoves s (beginCrossingWait t) := h.setRect

theorem enterStarting (h : QueueMoves s t) : QueueMoves s (enterStarting t) :=
  h.setRect.offerRect.rectMove.setRect.thenIf refl.beginCrossingWait

/-! Line tests and dead time -/

theorem abortEffects {reason : AbortReason} {uAvg ubAvg : Option Nat} (h : QueueMoves s t) :
    QueueMoves s (abortEffects f reason uAvg ubAvg t) := (h.setSq.thenIf refl.offerSeq).recordResult

theorem giveShotBack (h : QueueMoves s t) : QueueMoves s (giveShotBack f t) := ite h.quiet h

theorem returnAfterFlag (h : QueueMoves s t) : QueueMoves s (returnAfterFlag f t) := by
  unfold Machine.returnAfterFlag
  dsimp only
  split
  · exact h.giveShotBack.enterTiming
  split
  · exact h.enterCooling
  · exact h.enterFarEndWait
  · exact h.enterTiming

theorem enterTesting {kind : TestKind} {origin : Option TestOrigin} (h : QueueMoves s t) :
    QueueMoves s (enterTesting f kind origin t) := h.enterCore.setSq.reportFeederState

theorem beginContactorCheck (h : QueueMoves s t) : QueueMoves s (beginContactorCheck f t) :=
  ite h.quiet h.offerSeq.startCloseTimer

theorem startLatched (h : QueueMoves s t) : QueueMoves s (startLatched f t) :=
  ite
    (ite h.withdrawLatched.addTester.setSq.enterTesting.abortEffects.dropTester.returnAfterFlag
      h.withdrawLatched.addTester.setSq.enterTesting.beginContactorCheck)
    h

theorem startAllLatched (h : QueueMoves s t) : QueueMoves s (startAllLatched t) :=
  h.forFeeders fun _ _ => refl.startLatched

theorem enterRunning (h : QueueMoves s t) : QueueMoves s (enterRunning t) := h.rectMove.startAllLatched

theorem probeEnd (h : QueueMoves s t) : QueueMoves s (probeEnd t) := ite h.enterRunning h.enterRest

theorem leaveTesting (h : QueueMoves s t) : QueueMoves s (leaveTesting f t) :=
  h.thenIf (refl.dropTester.thenIf refl.probeEnd)

theorem enterState {new : FeederState} {cause : Option LockoutCause} (h : QueueMoves s t) :
    QueueMoves s (enterState f new cause t) := (h.thenIf refl.leaveTesting).enterCore

theorem enterOut (h : QueueMoves s t) : QueueMoves s (enterOut f t) :=
  ((h.thenIf refl.leaveTesting).thenIf refl.withdrawLatched).setSq.disarmIfLeft.setIntake.endCapture

theorem sendSection {hold : Bool} (h : QueueMoves s t) : QueueMoves s (sendSection f hold t) := by
  unfold Machine.sendSection
  split
  · exact h
  · exact h.thenUnless refl.offerTie

theorem lockout {cause : LockoutCause} {offered : Bool} (h : QueueMoves s t) :
    QueueMoves s (lockout f cause offered t) :=
  (h.thenIf refl.offerSeq).enterState.setSq.submit.thenIf refl.sendSection

theorem latchTest (h : QueueMoves s t) : QueueMoves s (latchTest f t) :=
  h.thenUnless (refl.setRect.thenIf refl.enterStarting)

theorem probeFromHold (h : QueueMoves s t) : QueueMoves s (probeFromHold t) := h.rectMove.setRect

theorem startTest {kind : TestKind} {origin : Option TestOrigin} (h : QueueMoves s t) :
    QueueMoves s (startTest f kind origin t) := h.addTester.enterTesting.beginContactorCheck

theorem abortUnstarted {reason : AbortReason} {origin : TestOrigin} (h : QueueMoves s t) :
    QueueMoves s (abortUnstarted f reason origin t) := h.setSq.abortEffects.returnAfterFlag

theorem coolFirst {origin : TestOrigin} (h : QueueMoves s t) : QueueMoves s (coolFirst f origin t) :=
  h.enterCooling.setSq

theorem awaitSupply {origin : TestOrigin} (h : QueueMoves s t) : QueueMoves s (awaitSupply f origin t) :=
  h.enterPhase.setSq.latchTest

theorem testRequest {origin : TestOrigin} (h : QueueMoves s t) :
    QueueMoves s (testRequest f origin t) := by
  unfold Machine.testRequest
  refine ite h.abortUnstarted (ite h.abortUnstarted (ite h.coolFirst ?_))
  split
  · exact h.startTest
  · exact h.startTest
  · exact h.probeFromHold.startTest
  all_goals exact h.awaitSupply

theorem farEndDown (h : QueueMoves s t) : QueueMoves s (farEndDown f t) := h.setSq.testRequest.submit

theorem enterFarEnd (h : QueueMoves s t) : QueueMoves s (enterFarEnd f t) :=
  h.enterFarEndWait.thenIf refl.farEndDown

theorem abortReturn {reason : AbortReason} (h : QueueMoves s t) :
    QueueMoves s (abortReturn f reason t) := by
  unfold Machine.abortReturn
  dsimp only
  split
  · exact ite h.quiet h.enterState.reportFeederState
  · exact ite h.enterFarEnd h.returnAfterFlag

theorem abortTesting {reason : AbortReason} {uAvg ubAvg : Option Nat} (h : QueueMoves s t) :
    QueueMoves s (abortTesting f reason uAvg ubAvg t) := h.abortEffects.leaveTesting

theorem abortForGood {reason : AbortReason} (h : QueueMoves s t) :
    QueueMoves s (abortForGood f reason t) := h.abortTesting.giveShotBack

theorem abortTest {reason : AbortReason} {uAvg ubAvg : Option Nat} (h : QueueMoves s t) :
    QueueMoves s (abortTest f reason uAvg ubAvg t) := h.abortTesting.abortReturn

theorem manualRequest (h : QueueMoves s t) : QueueMoves s (manualRequest f t) := by
  unfold Machine.manualRequest
  split
  · exact h.startTest
  · exact h.startTest
  · exact h.probeFromHold.startTest
  all_goals exact h.setSq.abortTest

theorem enterClosing (h : QueueMoves s t) : QueueMoves s (enterClosing f t) :=
  h.enterState.reportFeederState.offerSeq.setSq

theorem serveShort (h : QueueMoves s t) : QueueMoves s (serveShort f t) :=
  ite h.setSq.leaveTesting.enterTiming h.setSq.lockout

theorem serveResult {x : LastResult} (h : QueueMoves s t) : QueueMoves s (serveResult f x t) :=
  ite (ite h.recordResult.enterState.reportFeederState h.recordResult.serveShort)
    h.recordResult.enterClosing

theorem contactorFailure {offer : Bool} (h : QueueMoves s t) :
    QueueMoves s (contactorFailure f offer t) := by
  unfold Machine.contactorFailure
  exact (h.recordResult.thenIf refl.offerSeq).lockout

theorem supplyLostFor {testers : PerFeeder Bool} (h : QueueMoves s t) :
    QueueMoves s (supplyLostFor testers f t) := h.thenIf refl.abortTest

theorem supplyLost (h : QueueMoves s t) : QueueMoves s (supplyLost t) :=
  h.quiet.forFeeders fun _ _ => refl.supplyLostFor

theorem holdLosing {cause : RectCause} (h : QueueMoves s t) : QueueMoves s (holdLosing cause t) :=
  h.rectMove.supplyLost

theorem parkLosing {cause : RectCause} (h : QueueMoves s t) : QueueMoves s (parkLosing cause t) :=
  h.park.supplyLost

theorem rectFault {cause : FaultCause} (h : QueueMoves s t) : QueueMoves s (rectFault cause t) :=
  ite h.setRect.submit h.setRect.offerRect.setRect.offerBlocked.supplyLost.submit

/-! Tripping -/

theorem intertripFailNotice (h : QueueMoves s t) : QueueMoves s (intertripFailNotice f t) := by
  unfold Machine.intertripFailNotice
  dsimp only
  split
  · exact h.quiet
  · exact h.lockout
  · exact ite h.lockout h.abortForGood.lockout
  all_goals exact h

theorem intertripFail {cause : InterCause} {sec : Nat} {why : InterFail} (h : QueueMoves s t) :
    QueueMoves s (intertripFail f cause sec why t) := h.setFeeder.submit.intertripFailNotice

theorem intertripRequest {cause : InterCause} (h : QueueMoves s t) :
    QueueMoves s (intertripRequest f cause t) := by
  unfold Machine.intertripRequest
  split
  · exact h
  · exact ite h.quiet.submit (ite h.quiet.offerTie.submit
      (ite h.intertripFail h.quiet.offerTie.submit.intertripFail))

theorem startTrip {req : TripRequest} (h : QueueMoves s t) : QueueMoves s (startTrip f req t) := by
  unfold Machine.startTrip
  dsimp only
  split
  · exact (h.enterState.offerSeq.setSq.submit.thenIf refl.trigger).intertripRequest
  · exact h.enterState.offerSeq.setSq.submit.thenIf refl.trigger

theorem requestTrip {req : TripRequest} (h : QueueMoves s t) : QueueMoves s (requestTrip f req t) := by
  unfold Machine.requestTrip
  refine ite h ?_
  dsimp only
  split
  · exact h.startTrip
  · exact h.startTrip
  · exact h.startTrip
  · exact h.quiet
  all_goals exact h

theorem flagAction {blind : Bool} (h : QueueMoves s t) : QueueMoves s (flagAction f blind t) := by
  unfold Machine.flagAction
  refine ite h ?_
  dsimp only
  split
  · split
    · exact h.requestTrip
    · exact h
  · exact ite h h.abortTest
  all_goals exact h

theorem closedFlags (h : QueueMoves s t) : QueueMoves s (closedFlags f t) :=
  (h.thenIf refl.flagAction).thenIf refl.flagAction

theorem afterTrip (h : QueueMoves s t) : QueueMoves s (afterTrip f t) :=
  ite h.lockout <| ite h.lockout <| ite h.lockout <| ite h.lockout <| ite h.quiet.enterCooling <|
    ite h.quiet.enterFarEnd <| ite h.quiet.enterTiming h.lockout

theorem breakerFailure (h : QueueMoves s t) : QueueMoves s (breakerFailure f t) :=
  (h.lockout.thenIf refl.offerSeq).rectFault.intertripRequest.submit

theorem estopFeeder (h : QueueMoves s t) : QueueMoves s (estopFeeder f t) := by
  unfold Machine.estopFeeder
  dsimp only
  split
  · exact h.requestTrip
  · exact h.requestTrip
  · exact h.requestTrip
  · exact h.requestTrip
  · exact h.lockout
  · exact ite h.lockout h.abortForGood.lockout
  all_goals exact h

theorem serveEstop (h : QueueMoves s t) : QueueMoves s (serveEstop t) :=
  ite h (h.forFeeders fun _ _ => refl.estopFeeder).rectFault

/-! The breaker unit -/

theorem reportOpened {cause : Option TripCause} (h : QueueMoves s t) :
    QueueMoves s (reportOpened f cause t) := h.submit

theorem confirmOpen (h : QueueMoves s t) : QueueMoves s (confirmOpen f t) := by
  unfold Machine.confirmOpen
  dsimp only
  split
  · exact h.quiet.reportOpened.afterTrip
  · exact h.setSq.enterState.reportOpened
  · split
    · exact h.quiet.submit.afterTrip
    · exact h.quiet.submit.afterTrip
    · exact h.enterState.reportOpened
    · exact h
  · exact h.thenIf refl.reportOpened
  all_goals exact h

theorem reportUncommanded {device : Int} (h : QueueMoves s t) :
    QueueMoves s (reportUncommanded f device t) := h.submit

theorem uncommandedTrip (h : QueueMoves s t) : QueueMoves s (uncommandedTrip f t) := by
  unfold Machine.uncommandedTrip
  exact (h.thenIf refl.abortForGood).startTrip

theorem enterClosedComplete (h : QueueMoves s t) : QueueMoves s (enterClosedComplete f t) :=
  h.setSq.enterState

theorem closingConfirmed (h : QueueMoves s t) : QueueMoves s (closingConfirmed f t) :=
  h.setSq.enterState.submit.sendSection.closedFlags

theorem takeOver (h : QueueMoves s t) : QueueMoves s (takeOver f t) :=
  h.enterClosedComplete.reportUncommanded.closedFlags

theorem confirmClosed (h : QueueMoves s t) : QueueMoves s (confirmClosed f t) := by
  unfold Machine.confirmClosed
  dsimp only
  split
  · exact h.closingConfirmed
  · exact h.reportUncommanded
  · split
    · exact h.takeOver
    · exact h.takeOver
    · exact h.uncommandedTrip
    · exact h.enterClosedComplete.submit
  · split
    · exact h.uncommandedTrip
    · exact h.uncommandedTrip
    all_goals exact h
  · split
    · exact h.uncommandedTrip
    · exact h.uncommandedTrip
    all_goals exact h
  · exact ite h.reportUncommanded h.uncommandedTrip
  all_goals exact h

theorem servePending (h : QueueMoves s t) : QueueMoves s (servePending f t) := by
  unfold Machine.servePending
  dsimp only
  split
  · exact h.quiet.serveResult
  · exact h

theorem openWaitEnd (h : QueueMoves s t) : QueueMoves s (openWaitEnd f t) :=
  h.setSq.enterState.reportFeederState

theorem testContactor {closed : Bool} (h : QueueMoves s t) :
    QueueMoves s (testContactor f closed t) := by
  unfold Machine.testContactor
  dsimp only
  split
  · exact ite h h.quiet
  · exact h.thenIf refl.contactorFailure
  · exact ite h.quiet h
  · exact h.thenUnless refl.contactorFailure
  · exact h.thenUnless refl.contactorFailure
  · exact h.thenUnless refl.servePending
  · exact h

theorem confirmContactor {closed : Bool} (h : QueueMoves s t) :
    QueueMoves s (confirmContactor f closed t) :=
  ite (ite (h.thenUnless refl.openWaitEnd) h.testContactor) (ite h.offerSeq.reportUncommanded h)

theorem breakerChanged {pos : BreakerPos} (h : QueueMoves s t) :
    QueueMoves s (breakerChanged f pos t) := by
  cases pos
  · exact h.confirmOpen
  · exact h.confirmClosed
  all_goals exact h

theorem contactorChanged {pos : ContactorPos} (h : QueueMoves s t) :
    QueueMoves s (contactorChanged f pos t) := by
  cases pos
  · exact h.confirmContactor
  · exact h.confirmContactor
  all_goals exact h

theorem breakerStatus {x : BreakerStatus} (h : QueueMoves s t) : QueueMoves s (breakerStatus f x t) :=
  (h.quiet.thenUnless refl.breakerChanged).thenUnless refl.contactorChanged

/-! The timers of a feeder -/

theorem openExpired (h : QueueMoves s t) : QueueMoves s (openExpired f t) :=
  ite h (ite h.quiet.breakerFailure h.quiet)

theorem contactorTimeout (h : QueueMoves s t) : QueueMoves s (contactorTimeout f t) := by
  unfold Machine.contactorTimeout
  refine ite h.lockout ?_
  split
  · exact h.contactorFailure
  · exact h.contactorFailure
  · exact h.contactorFailure
  all_goals exact h

theorem closeExpired (h : QueueMoves s t) : QueueMoves s (closeExpired f t) := by
  unfold Machine.closeExpired
  refine ite h ?_
  split
  · exact h.quiet.lockout.offerSeq
  · exact h.quiet.contactorTimeout
  all_goals exact h.quiet

theorem reclaimExpired (h : QueueMoves s t) : QueueMoves s (reclaimExpired f t) :=
  ite h (ite h.quiet.reportFeederState h.quiet)

theorem deadTimeExpired (h : QueueMoves s t) : QueueMoves s (deadTimeExpired f t) :=
  ite h (ite h.quiet.enterFarEnd h.quiet.testRequest)

theorem followExpired (h : QueueMoves s t) : QueueMoves s (followExpired f t) :=
  ite h h.setSq.testRequest.submit

theorem blindExpired (h : QueueMoves s t) : QueueMoves s (blindExpired f t) :=
  ite h h.quiet.submit.flagAction

/-! Protection -/

theorem thermalSample {i : Int} (h : QueueMoves s t) : QueueMoves s (thermalSample f i t) :=
  ite (ite h.setProt.submit (ite h.setProt.submit h.setProt)) h

theorem wouldTrip {req : TripRequest} (h : QueueMoves s t) : QueueMoves s (wouldTrip f req t) :=
  h.submit.thenIf refl.trigger

theorem raiseTrip {req : TripRequest} (h : QueueMoves s t) : QueueMoves s (raiseTrip f req t) :=
  ite h.setProt.wouldTrip h.setProt.requestTrip

theorem reportSlowRise {e : DdlEvent} (h : QueueMoves s t) : QueueMoves s (reportSlowRise f e t) := by
  cases e
  · exact h
  · exact h
  · exact h.submit

theorem armedSample {x : FeederTaken} (h : QueueMoves s t) : QueueMoves s (armedSample f x t) := by
  unfold Machine.armedSample
  dsimp only
  split
  · exact h.setProt.reportSlowRise.thermalSample.raiseTrip
  · exact h.setProt.reportSlowRise.thermalSample.thenIf refl.setProt

theorem protectionSample {x : FeederTaken} (h : QueueMoves s t) :
    QueueMoves s (protectionSample f x t) := ite h.armedSample h.thermalSample

/-! The reference and the group -/

theorem offerFiring {corr : Int} {block resync : Bool} (h : QueueMoves s t) :
    QueueMoves s (offerFiring corr block resync t) := h.offerRect

theorem anchorReference {tm : Stamp} (h : QueueMoves s t) : QueueMoves s (anchorReference tm t) :=
  h.setRect

theorem hardSync {tm : Stamp} (h : QueueMoves s t) : QueueMoves s (hardSync tm t) :=
  h.setRect.anchorReference.rectMove.offerFiring.startAllLatched

theorem anchorCrossing {tm : Stamp} (h : QueueMoves s t) : QueueMoves s (anchorCrossing tm t) :=
  h.anchorReference.offerFiring.setRect

theorem slip {tm : Stamp} {e : Int} (h : QueueMoves s t) : QueueMoves s (slip tm e t) :=
  h.submit.anchorReference.offerFiring.setRect

theorem regulate (h : QueueMoves s t) : QueueMoves s (regulate t) :=
  ite h.setRect (h.setRect.thenIf refl.submit)

theorem wakeTest (h : QueueMoves s t) : QueueMoves s (wakeTest t) :=
  h.thenIf (refl.setRect.thenIf refl.enterRunning)

theorem trackReference {q : Stamp} {e corr : Int} (h : QueueMoves s t) :
    QueueMoves s (trackReference q e corr t) := h.setRect

theorem trackCrossing {q : Stamp} {e : Int} (h : QueueMoves s t) :
    QueueMoves s (trackCrossing q e t) :=
  (ite h.trackReference.wakeTest h.trackReference.regulate).offerFiring.thenIf refl.enterRunning

theorem runningCrossing {tm : Stamp} (h : QueueMoves s t) : QueueMoves s (runningCrossing tm t) := by
  unfold Machine.runningCrossing
  split
  · exact ite h.slip h.trackCrossing
  · exact h.anchorCrossing

theorem takeCrossing {tm : Stamp} (h : QueueMoves s t) : QueueMoves s (takeCrossing tm t) := by
  unfold Machine.takeCrossing
  split
  · exact h
  · exact h
  · exact h.thenIf refl.hardSync
  all_goals exact h.runningCrossing

theorem referenceLost (h : QueueMoves s t) : QueueMoves s (referenceLost t) :=
  ite h.setRect.submit h.parkLosing

theorem watchExpired (h : QueueMoves s t) : QueueMoves s (watchExpired t) :=
  ite h (h.setRect.thenIf refl.referenceLost)

theorem accumulate {x : RectTaken} (h : QueueMoves s t) : QueueMoves s (accumulate x t) :=
  ite h.setRect h

theorem faultOrWouldTrip {cause : FaultCause} (h : QueueMoves s t) :
    QueueMoves s (faultOrWouldTrip cause t) := ite h.submit h.rectFault

theorem testOvercurrent {x : RectTaken} (h : QueueMoves s t) : QueueMoves s (testOvercurrent x t) :=
  ite (ite h.setRect.faultOrWouldTrip h.setRect) h

theorem testStackWarning {temp : Int} (h : QueueMoves s t) : QueueMoves s (testStackWarning temp t) :=
  ite h.setRect.submit (ite h.setRect.submit h)

theorem stackHold (h : QueueMoves s t) : QueueMoves s (stackHold t) := h.holdLosing.setRect

theorem stackEndsProbe (h : QueueMoves s t) : QueueMoves s (stackEndsProbe t) := by
  unfold Machine.stackEndsProbe
  split
  · exact h.holdLosing
  · exact h.parkLosing

theorem stackOnset (h : QueueMoves s t) : QueueMoves s (stackOnset t) := by
  unfold Machine.stackOnset
  split
  · exact h
  · exact h.faultOrWouldTrip
  · exact h
  · exact h
  · refine ite h.submit ?_
    split
    · exact h.stackHold
    · exact h.stackEndsProbe
    · exact h.park
    all_goals exact h

theorem stackCleared (h : QueueMoves s t) : QueueMoves s (stackCleared t) :=
  ite h.setRect (ite h.setRect h)

theorem testStackTrip {temp : Int} (h : QueueMoves s t) : QueueMoves s (testStackTrip temp t) :=
  ite h.setRect.stackOnset (ite h.setRect.stackCleared h)

theorem testStack {temp : Int} (h : QueueMoves s t) : QueueMoves s (testStack temp t) :=
  ite h.testStackWarning.testStackTrip h

theorem rectSample {x : RectTaken} (h : QueueMoves s t) : QueueMoves s (rectSample x t) := by
  unfold Machine.rectSample
  dsimp only
  split
  · exact h.accumulate.testOvercurrent.testStack.takeCrossing
  · exact h.accumulate.testOvercurrent.testStack

theorem firingStatus {st : FiringState} (h : QueueMoves s t) : QueueMoves s (firingStatus st t) :=
  h.setRect.thenIf refl.faultOrWouldTrip

theorem mirrorRunning (h : QueueMoves s t) : QueueMoves s (mirrorRunning t) := ite h h.rectMove

theorem mirrorParked (h : QueueMoves s t) : QueueMoves s (mirrorParked t) := ite h h.quiet.rectMove

theorem acUncommandedClose (h : QueueMoves s t) : QueueMoves s (acUncommandedClose t) :=
  (h.offerRect.thenIf refl.setRect).submit

theorem acClosed (h : QueueMoves s t) : QueueMoves s (acClosed t) := by
  unfold Machine.acClosed
  split
  · exact ite h h.beginCrossingWait
  · exact h
  · exact h
  · exact h
  all_goals exact h.acUncommandedClose

theorem acOpened (h : QueueMoves s t) : QueueMoves s (acOpened t) := by
  unfold Machine.acOpened
  split
  · exact h.thenIf refl.rectFault
  · exact h.rectFault
  · exact h.rectFault
  · exact h.rectFault
  · exact h.setRect
  · exact h

theorem acMirrored {pos : BreakerPos} (h : QueueMoves s t) : QueueMoves s (acMirrored pos t) := by
  cases pos
  · exact ite h h.mirrorParked
  · exact ite h.acUncommandedClose h.mirrorRunning
  all_goals exact h

theorem acStatus {pos : BreakerPos} (h : QueueMoves s t) : QueueMoves s (acStatus pos t) := by
  refine ite h.setRect (ite h.setRect.acMirrored ?_)
  cases pos
  · exact h.setRect.acOpened
  · exact h.setRect.acClosed
  all_goals exact h.setRect

theorem acTimerExpired (h : QueueMoves s t) : QueueMoves s (acTimerExpired t) := by
  refine ite h (ite h.setRect ?_)
  split
  · exact ite h.setRect.park h.setRect.rectFault
  · exact ite h.setRect h.setRect.rectFault
  all_goals exact h.setRect

theorem serveRun (h : QueueMoves s t) : QueueMoves s (serveRun t) := by
  unfold Machine.serveRun
  split
  · exact h.enterStarting
  · exact h
  · exact h
  · exact h
  all_goals exact h.setRect

theorem restIntoProbe (h : QueueMoves s t) : QueueMoves s (restIntoProbe t) := h.rectMove.setRect

theorem serveRest (h : QueueMoves s t) : QueueMoves s (serveRest t) := by
  unfold Machine.serveRest
  dsimp only
  split
  · exact ite h.setRect.restIntoProbe h.setRect.enterRest
  · exact h.setRect
  · exact h.setRect
  · exact h.park
  all_goals exact h

theorem serveReset (h : QueueMoves s t) : QueueMoves s (serveReset t) := h.setRect.rectMove

/-! Samples -/

theorem coolingSample (h : QueueMoves s t) : QueueMoves s (coolingSample f t) :=
  h.thenIf refl.testRequest

theorem closeContactor (h : QueueMoves s t) : QueueMoves s (closeContactor f t) :=
  h.offerSeq.startCloseTimer.setSq

theorem liveSample {x : FeederTaken} (h : QueueMoves s t) : QueueMoves s (liveSample f x t) :=
  ite h.closeContactor (ite h.serveResult h.setSq)

theorem settleSample (h : QueueMoves s t) : QueueMoves s (settleSample f t) := ite h.setSq h.setSq

theorem sumsComplete {sumU sumUb : Nat} (h : QueueMoves s t) :
    QueueMoves s (sumsComplete f sumU sumUb t) := ite h.abortTest h.offerSeq.startCloseTimer.setSq

theorem sumSample {x : FeederTaken} (h : QueueMoves s t) : QueueMoves s (sumSample f x t) :=
  ite h.abortTest (ite h.sumsComplete h.setSq)

theorem testSample {x : FeederTaken} (h : QueueMoves s t) : QueueMoves s (testSample f x t) := by
  refine ite h ?_
  split
  · exact h.liveSample
  · exact h.settleSample
  · exact h.sumSample
  all_goals exact h

theorem sequenceSample {x : FeederTaken} (h : QueueMoves s t) :
    QueueMoves s (sequenceSample f x t) := by
  unfold Machine.sequenceSample
  dsimp only
  split
  · exact h.thenIf refl.coolingSample
  · exact h.testSample
  all_goals exact h

theorem setFrozen {i : Int} (h : QueueMoves s t) : QueueMoves s (setFrozen f i t) :=
  h.setFeeder.submit.flagAction

theorem detectFrozen {x : FeederTaken} (h : QueueMoves s t) : QueueMoves s (detectFrozen f x t) :=
  ite (ite h.setFrozen h.setIntake) h.setIntake

theorem clearFrozen {x : FeederTaken} (h : QueueMoves s t) : QueueMoves s (clearFrozen f x t) := by
  unfold Machine.clearFrozen
  dsimp only
  split
  · exact h.setIntake
  · exact ite h.setIntake (ite h.setFeeder.submit h.setIntake)

theorem frozenSample {x : FeederTaken} (h : QueueMoves s t) : QueueMoves s (frozenSample f x t) :=
  ite h.clearFrozen h.detectFrozen

theorem watchSample {q : Byte} (h : QueueMoves s t) : QueueMoves s (watchSample f q t) :=
  ite h (ite h.setIntake.setSq.submit h.setIntake)

theorem recordAccepted {q : Byte} {x : FeederTaken} (h : QueueMoves s t) :
    QueueMoves s (recordAccepted f q x t) := h.setIntake

theorem decimate {fr : RxFrame} (h : QueueMoves s t) : QueueMoves s (decimate f fr t) :=
  ite h (ite h.setFeeder.offerForwarded h.setFeeder)

theorem acceptFeeder {q : Byte} {g : Nat} {x : FeederSample} {copy : Option RxFrame}
    (h : QueueMoves s t) : QueueMoves s (acceptFeeder f q g x copy t) := by
  cases copy with
  | none =>
    exact h.recordAccepted.fillCapture.watchSample.protectionSample.frozenSample.sequenceSample
  | some fr =>
    exact h.recordAccepted.fillCapture.decimate.watchSample.protectionSample.frozenSample.sequenceSample

theorem recordFault {q : Byte} {g : Nat} (h : QueueMoves s t) : QueueMoves s (recordFault f q g t) :=
  ite h.setIntake h.setIntake.submit

theorem takeFeeder {q : Byte} {g : Nat} {x : FeederSample} {copy : Option RxFrame}
    (h : QueueMoves s t) : QueueMoves s (takeFeeder f q g x copy t) := ite h.recordFault h.acceptFeeder

theorem feederSample {fr : RxFrame} (h : QueueMoves s t) : QueueMoves s (feederSample f fr t) := by
  refine ite h.reject ?_
  split
  · exact h.reject
  split
  · exact h.reject
  · exact h.takeFeeder

theorem injectFeeder {x : FeederSample} (h : QueueMoves s t) : QueueMoves s (injectFeeder f x t) :=
  h.takeFeeder

theorem recordRectFault {q : Byte} {g : Nat} (h : QueueMoves s t) :
    QueueMoves s (recordRectFault q g t) := ite h.setRectIntake h.setRectIntake.submit

theorem acceptRect {stamp : Stamp} {q : Byte} {g : Nat} {x : RectSample} (h : QueueMoves s t) :
    QueueMoves s (acceptRect stamp q g x t) := h.setRectIntake.rectSample

theorem takeRect {stamp : Stamp} {q : Byte} {g : Nat} {x : RectSample} (h : QueueMoves s t) :
    QueueMoves s (takeRect stamp q g x t) := ite h.recordRectFault h.acceptRect

theorem rectFieldSample {stamp : Stamp} {fr : RxFrame} (h : QueueMoves s t) :
    QueueMoves s (rectFieldSample stamp fr t) := by
  refine ite h.reject ?_
  split
  · exact h.reject
  split
  · exact h.reject
  · exact h.takeRect

theorem injectRect {x : RectSample} (h : QueueMoves s t) : QueueMoves s (injectRect x t) := h.takeRect

theorem silenceExpired (h : QueueMoves s t) : QueueMoves s (silenceExpired t) := ite h h.setRectIntake

/-! Ties -/

theorem failEntryOn (h : QueueMoves s t) : QueueMoves s (failEntryOn k f t) := by
  unfold Machine.failEntryOn
  split
  · exact h.thenIf refl.intertripFail
  · exact h

theorem downNotice (h : QueueMoves s t) : QueueMoves s (downNotice k f t) := h.thenIf refl.farEndDown

theorem tieGoesDown {why : Int} (h : QueueMoves s t) : QueueMoves s (tieGoesDown k why t) :=
  (h.setTie.submit.thenUnless (refl.forFeeders fun _ _ => refl.failEntryOn)).forFeeders
    fun _ _ => refl.downNotice

theorem tieLost (h : QueueMoves s t) : QueueMoves s (tieLost k t) := ite h.tieGoesDown h.setTie

theorem tieSilenceExpiry (h : QueueMoves s t) : QueueMoves s (tieSilenceExpiry k t) :=
  ite h (ite h.tieGoesDown h.setTie)

theorem beatGapExpiry (h : QueueMoves s t) : QueueMoves s (beatGapExpiry k t) := ite h h.setTie

theorem beatSendExpiry (h : QueueMoves s t) : QueueMoves s (beatSendExpiry k t) :=
  ite h.setTie h.setTie.offerTie

theorem countBeat (h : QueueMoves s t) : QueueMoves s (countBeat k t) :=
  ite h (ite h.setTie.submit h.setTie)

theorem recordFarMode {m : Mode} (h : QueueMoves s t) : QueueMoves s (recordFarMode k m t) :=
  ite h (ite h.setTie h.setTie.submit)

theorem repeatExpiry (h : QueueMoves s t) : QueueMoves s (repeatExpiry f t) := by
  refine ite h ?_
  dsimp only
  split
  · exact h
  · exact ite h.setFeeder.offerTie h.intertripFail

theorem entryAcked {e : Entry} {result : AckResult} (h : QueueMoves s t) :
    QueueMoves s (entryAcked f e result t) := h.setFeeder.submit

theorem replayEntryExpiry (h : QueueMoves s t) : QueueMoves s (replayEntryExpiry f t) := by
  refine ite ?_ h
  split
  · exact h.entryAcked
  · exact h

theorem serveAck {e : Entry} {result : AckResult} (h : QueueMoves s t) :
    QueueMoves s (serveAck f e result t) := by
  cases result
  · exact h.entryAcked
  · exact h.entryAcked
  · exact h.entryAcked
  all_goals exact h.intertripFail

theorem receiveAck {sec tag : Byte} {result : AckResult} (h : QueueMoves s t) :
    QueueMoves s (receiveAck k sec tag result t) := by
  unfold Machine.receiveAck
  split
  · split
    · exact h.serveAck
    · exact h
  · exact h

theorem interDeadTime (h : QueueMoves s t) : QueueMoves s (interDeadTime f t) := by
  unfold Machine.interDeadTime
  dsimp only
  split <;> exact h.setSq

theorem interAction (h : QueueMoves s t) : QueueMoves s (interAction f t) := by
  unfold Machine.interAction
  dsimp only
  split
  · exact h.requestTrip
  · exact h.requestTrip
  · exact h.requestTrip
  · exact h.requestTrip
  · exact ite h h.abortTest
  · exact h.interDeadTime
  all_goals exact h

theorem answerTripReq {sec tag : Byte} {cause : InterCause} {result : AckResult}
    (h : QueueMoves s t) : QueueMoves s (answerTripReq k sec cause tag result t) := h.submit.offerTie

theorem serveTripReq {sec tag : Byte} {cause : InterCause} (h : QueueMoves s t) :
    QueueMoves s (serveTripReq k f sec cause tag t) := h.interAction.setFeeder.answerTripReq

theorem receiveTripReq {sec tag : Byte} {cause : InterCause} (h : QueueMoves s t) :
    QueueMoves s (receiveTripReq k sec cause tag t) := by
  refine ite h.answerTripReq ?_
  split
  · exact h.answerTripReq
  split
  · exact h.offerTie
  · exact h.serveTripReq

theorem followerClear (h : QueueMoves s t) : QueueMoves s (followerClear f t) := by
  unfold Machine.followerClear
  dsimp only
  split
  · exact h.setSq
  · exact h.setSq.testRequest
  all_goals exact h

theorem receiveSection {hold : Bool} {sec : Byte} (h : QueueMoves s t) :
    QueueMoves s (receiveSection k hold sec t) := by
  unfold Machine.receiveSection
  dsimp only
  split
  · exact h.submit
  · exact ite (ite h.submit.lockout h.submit.followerClear) h.submit

theorem serveTieMsg {m : TieMsg} (h : QueueMoves s t) : QueueMoves s (serveTieMsg k m t) := by
  cases m
  · exact h.countBeat.recordFarMode
  · exact h.receiveTripReq
  · exact h.receiveAck
  all_goals exact h.receiveSection

theorem tieFrame {payload : List Byte} (h : QueueMoves s t) : QueueMoves s (tieFrame k payload t) := by
  unfold Machine.tieFrame
  dsimp only
  split
  · exact (h.thenIf refl.setTie : QueueMoves s (restartSilence k t)).serveTieMsg
  · exact (h.thenIf refl.setTie : QueueMoves s (restartSilence k t)).reject

/-! Ports -/

/-- An update of a port record that leaves its queues and keeps its counts in their ranges. -/
theorem setCounts {r : PortRec} (h : QueueMoves s t) (hu : r.urgent = (t.port p).urgent := by rfl)
    (hn : r.normal = (t.port p).normal := by rfl)
    (hd : r.forwardedDrop = (t.port p).forwardedDrop := by rfl)
    (hj : r.rejected = (t.port p).rejected := by rfl)
    (he : r.errorCount ≤ max 256 (t.port p).errorCount := by exact le_max_right _ _)
    (hc : r.recoveryCount ≤ max 128 (t.port p).recoveryCount := by exact le_max_right _ _) :
    QueueMoves s (t.setPort p r) :=
  h.setPort
    { urgent := hu ▸ .refl _, normal := hn ▸ .refl _, errorCount := he, recoveryCount := hc
      rejected := hj ▸ le_max_right _ _, forwardedDrop := hd ▸ le_max_right _ _ }

theorem reportPort {new old : PortState} (h : QueueMoves s t) : QueueMoves s (reportPort p new old t) :=
  h.submit

theorem portEntersLost {e : RxError} (h : QueueMoves s t) : QueueMoves s (portEntersLost p e t) := by
  have h1 : QueueMoves s (t.setPort p { t.port p with state := .lost, recoveryCount := 0 }) :=
    h.setCounts (hc := Nat.zero_le _)
  unfold Machine.portEntersLost
  dsimp only
  split
  · exact h1.submit.tieLost
  · exact h1.submit

theorem errorFrame {e : RxError} (h : QueueMoves s t) : QueueMoves s (errorFrame p e t) := by
  have h1 : QueueMoves s
      (t.setPort p { t.port p with lastError := some e, errorCount := min 256 ((t.port p).errorCount + 8) }) :=
    h.setCounts (he := le_max_of_le_left (min_le_left _ _))
  unfold Machine.errorFrame
  dsimp only
  split
  · refine ite (reportPort ?_) h1
    exact h1.setCounts
  · exact h1.thenIf refl.portEntersLost
  · refine h.setCounts (hc := le_max_of_le_left ?_)
    dsimp only
    split <;> omega

theorem recoverPort (h : QueueMoves s t) : QueueMoves s (recoverPort p t) := by
  have h1 : QueueMoves s (t.setPort p { t.port p with state := .good, errorCount := 0, recoveryCount := 0 }) :=
    h.setCounts (he := Nat.zero_le _) (hc := Nat.zero_le _)
  exact h1.reportPort.arbitrate

theorem lostGood (h : QueueMoves s t) : QueueMoves s (lostGood p t) := by
  have h1 : QueueMoves s
      (t.setPort p { t.port p with recoveryCount := satInc 128 (t.port p).recoveryCount }) :=
    h.setCounts (hc := satInc_le_max _ _)
  exact h1.thenIf refl.recoverPort

theorem goodFrame (h : QueueMoves s t) : QueueMoves s (goodFrame p t) := by
  have h1 : QueueMoves s (t.setPort p { t.port p with errorCount := (t.port p).errorCount - 1 }) :=
    h.setCounts (he := le_max_of_le_right (Nat.sub_le _ _))
  refine ite (reportPort ?_) h1
  exact h1.setCounts

theorem sendReply {x : Ticket} {type : RequestType} {status : Status} {part parts : Nat}
    {body : ReplyBody} (h : QueueMoves s t) :
    QueueMoves s (sendReply x type status part parts body t) := h.offerReplyFrame

theorem answer {x : Ticket} {type : RequestType} {status : Status} (h : QueueMoves s t) :
    QueueMoves s (answer x type status t) := h.sendReply

theorem manageFrame {source : ReqSource} {fr : RxFrame} (h : QueueMoves s t) :
    QueueMoves s (manageFrame source fr t) := by
  unfold Machine.manageFrame
  dsimp only
  split
  · next hl => exact h.move (.request _ hl)
  · exact h.answer

theorem forwardOrReject {ok : Bool} {fr : RxFrame} (h : QueueMoves s t) :
    QueueMoves s (forwardOrReject ok fr t) := ite h.offerForwarded h.reject

theorem switchSample {row : NodeRow} {stamp : Stamp} {fr : RxFrame} (h : QueueMoves s t) :
    QueueMoves s (switchSample row stamp fr t) := by
  unfold Machine.switchSample
  split
  · exact h.feederSample
  · exact h.rectFieldSample
  · exact h.reject

theorem handStatus {α : Type} {x : Option α} {serve : α → State → State}
    (hs : ∀ v a, QueueMoves a (serve v a)) (h : QueueMoves s t) :
    QueueMoves s (handStatus x serve t) := by
  cases x
  · exact h.reject
  · exact h.trans (hs _ _)

theorem consumeStatus {row : NodeRow} {payload : List Byte} (h : QueueMoves s t) :
    QueueMoves s (consumeStatus row payload t) := by
  unfold Machine.consumeStatus
  split
  · exact h.handStatus fun _ _ => refl.breakerStatus
  · exact h.handStatus fun _ _ => refl.acStatus
  · exact h.handStatus fun _ _ => refl.firingStatus
  · exact h

theorem switchStatus {row : NodeRow} {fr : RxFrame} (h : QueueMoves s t) :
    QueueMoves s (switchStatus row fr t) :=
  ite ((h.thenUnless refl.consumeStatus).thenIf refl.offerForwarded) h.forwardOrReject

theorem switchField {stamp : Stamp} {fr : RxFrame} (h : QueueMoves s t) :
    QueueMoves s (switchField stamp fr t) := by
  refine ite h.reject ?_
  split
  · exact h.switchSample
  · exact h.switchStatus
  · exact ite h.manageFrame h.reject
  · exact h.forwardOrReject
  · exact h.forwardOrReject
  all_goals exact h.reject

theorem forwardDownFrame {ok : Bool} {fr : RxFrame} (h : QueueMoves s t) :
    QueueMoves s (forwardDownFrame ok fr t) := ite h.offerForwarded h.reject

theorem switchStation {fr : RxFrame} (h : QueueMoves s t) : QueueMoves s (switchStation fr t) := by
  refine ite h.reject ?_
  split
  · exact ite h.manageFrame h.forwardDownFrame
  · exact ite h.reject h.forwardDownFrame
  all_goals exact h.reject

theorem switchTie {fr : RxFrame} (h : QueueMoves s t) : QueueMoves s (switchTie k fr t) :=
  ite h.tieFrame h.reject

theorem switchFrame {stamp : Stamp} {fr : RxFrame} (h : QueueMoves s t) :
    QueueMoves s (switchFrame p stamp fr t) := by
  cases p
  · exact h.switchField
  · exact h.switchStation
  all_goals exact h.switchTie

theorem receive {stamp : Stamp} {bytes : List Byte} (h : QueueMoves s t) :
    QueueMoves s (receive p stamp bytes t) := by
  refine ite h ?_
  split
  · exact h.errorFrame
  · exact ite h.lostGood h.goodFrame.switchFrame

theorem transmitDone (h : QueueMoves s t) : QueueMoves s (transmitDone p t) :=
  h.thenIf (arbitrate refl.setCounts)

/-! Modes and resets -/

theorem mirrorOnEntry (h : QueueMoves s t) : QueueMoves s (mirrorOnEntry f t) :=
  h.thenIf refl.enterClosedComplete.reportFeederState

theorem mirrorGroupOnEntry (h : QueueMoves s t) : QueueMoves s (mirrorGroupOnEntry t) := by
  refine ite h ?_
  split
  · exact h.setRect.mirrorRunning
  all_goals exact h.setRect.mirrorParked

theorem enterShadow (h : QueueMoves s t) : QueueMoves s (enterShadow t) :=
  (h.forFeeders fun _ _ => refl.mirrorOnEntry).mirrorGroupOnEntry

theorem mirrorBecomesReal (h : QueueMoves s t) : QueueMoves s (mirrorBecomesReal f t) :=
  h.thenIf refl.setSq.closedFlags

theorem groupBecomesReal (h : QueueMoves s t) : QueueMoves s (groupBecomesReal t) :=
  h.thenIf refl.enterStarting.beginCrossingWait

theorem shadowToService (h : QueueMoves s t) : QueueMoves s (shadowToService t) :=
  h.groupBecomesReal.forFeeders fun _ _ => refl.mirrorBecomesReal

theorem shadowToConfig (h : QueueMoves s t) : QueueMoves s (shadowToConfig t) := h.thenIf refl.rectMove

theorem enterReplay (h : QueueMoves s t) : QueueMoves s (enterReplay t) := h.quiet

theorem exitReplay (h : QueueMoves s t) : QueueMoves s (exitReplay t) := by
  have h1 : QueueMoves s (Machine.forFeeders Machine.enterOut { t with rect := t.rect.exitReplay }) :=
    h.quiet.forFeeders fun _ _ => refl.enterOut
  unfold Machine.exitReplay
  dsimp only
  generalize Machine.forFeeders _ _ = x at h1 ⊢
  exact h1.quiet

theorem transitionEffects {old new : Mode} (h : QueueMoves s t) :
    QueueMoves s (transitionEffects old new t) := by
  unfold Machine.transitionEffects
  dsimp only
  split
  · exact h.enterShadow
  · exact h.enterReplay
  · exact h.shadowToService.thenIf refl.serveEstop
  · exact h.shadowToConfig.thenIf refl.serveEstop
  · exact h.exitReplay.thenIf refl.serveEstop
  all_goals exact h

theorem changeMode {new : Mode} (h : QueueMoves s t) : QueueMoves s (changeMode new t) := by
  have h1 := (h.quiet (u := { t with mode := new })).submit (kind := .modeChange) (src := .device)
    (x := none) (v := some (modeCode new)) (w := some (modeCode t.mode))
  exact h1.quiet.transitionEffects

theorem warmRestart (h : QueueMoves s t) : QueueMoves s (warmRestart t) := by
  refine submit (h.move (.recede (fun q => ?_) (List.nil_sublist _) (List.nil_suffix) (Nat.zero_le _)))
  simpa [State.port] using PortRec.NoFuller.warm (t.port q)

theorem coldReset (h : QueueMoves s t) : QueueMoves s (coldReset t) := by
  refine h.move (.recede (fun q => ?_) (List.nil_sublist _) (List.nil_suffix) (Nat.zero_le _))
  simpa [State.port, Machine.coldReset, State.reset] using PortRec.NoFuller.cold (t.port q)

theorem releaseReset {rest : RestState} {node : BitVec 6} (h : QueueMoves s t) :
    QueueMoves s (releaseReset rest node t) := h.thenIf refl.quiet.submit

theorem settleKey {pos : KeyPos} (h : QueueMoves s t) : QueueMoves s (settleKey pos t) := ite h h.quiet

theorem changeKey {pos : KeyPos} (h : QueueMoves s t) : QueueMoves s (changeKey pos t) :=
  ite (ite h h.quiet.submit) h.settleKey

theorem assertEstop (h : QueueMoves s t) : QueueMoves s (assertEstop t) := ite h h.quiet.serveEstop.submit

theorem releaseEstop (h : QueueMoves s t) : QueueMoves s (releaseEstop t) := ite h.quiet.submit h

theorem simComplete {d : SimDeviceId} (h : QueueMoves s t) : QueueMoves s (simComplete d t) := by
  cases d <;> unfold Machine.simComplete <;> dsimp only <;> split
  · exact h.setFeeder.breakerStatus
  · exact h
  · exact h.setFeeder.breakerStatus
  · exact h
  · exact h.quiet.acStatus
  · exact h

/-! Requests -/

theorem takeRequest {x : Ticket} {r : Request} (h : QueueMoves s t) :
    QueueMoves s (takeRequest x r t) := by
  unfold Machine.takeRequest
  split
  · next q rest hq =>
    refine ite (h.move (.recede (fun _ => .refl _) ?_ (List.suffix_refl _) (le_max_right _ _))) h
    rw [hq]; exact List.sublist_cons_self q rest
  · exact h

theorem checked {x : Ticket} {type : RequestType} {checks : List (Bool × Status)}
    {effect : State → State} (h : QueueMoves s t) (he : QueueMoves t (effect t)) :
    QueueMoves s (checked x type checks effect t) := by
  unfold Machine.checked
  split
  · exact h.answer
  · exact (h.trans he).answer

theorem answerBody {x : Ticket} {type : RequestType} {body : ReplyBody} (h : QueueMoves s t) :
    QueueMoves s (answerBody x type body t) :=
  List.foldlRecOn _ _ h fun _ hb _ _ => hb.sendReply

theorem answerCapture {x : Ticket} {i : Slot} {slot seg : Nat} (h : QueueMoves s t) :
    QueueMoves s (answerCapture x i slot seg t) :=
  List.foldlRecOn _ _ h fun _ hb _ _ => hb.sendReply

theorem bindingChanged {x : Role × FeederId} (h : QueueMoves s t) :
    QueueMoves s (bindingChanged x t) := ite h.setFeeder h.setFeeder

theorem groupRowChanged {old new : NodeRow} (h : QueueMoves s t) :
    QueueMoves s (groupRowChanged old new t) :=
  ((h.thenIf refl.setRectIntake).thenIf refl.setRect).thenIf refl.setRect

theorem writeNode {row : Nat} {new : NodeRow} (h : QueueMoves s t) : QueueMoves s (writeNode row new t) :=
  groupRowChanged (List.foldlRecOn _ _ h.quiet fun _ hb _ _ => hb.bindingChanged)

theorem writePort {v : Recovery} (h : QueueMoves s t) : QueueMoves s (writePort p v t) :=
  h.setCounts.thenIf refl.recoverPort

theorem feederCommand {x : Ticket} {n : Nat} {checks : FeederId → List (Bool × Status)}
    {effect : FeederId → State → State} (h : QueueMoves s t) (he : ∀ e, QueueMoves t (effect e t)) :
    QueueMoves s (feederCommand x n checks effect t) := by
  unfold Machine.feederCommand
  split
  · exact h.checked (he _)
  · exact h.answer

theorem serveInService (h : QueueMoves s t) : QueueMoves s (serveInService f t) :=
  ite h.setSq.setIntake.enterClosedComplete.reportFeederState.closedFlags
    h.setSq.setIntake.enterState.reportFeederState

theorem serveOutOfService (h : QueueMoves s t) : QueueMoves s (serveOutOfService f t) :=
  h.enterOut.reportFeederState

theorem openTesting (h : QueueMoves s t) : QueueMoves s (openTesting f t) :=
  ite h.abortForGood.setSq.enterState.reportFeederState h.abortForGood.setSq.startCloseTimer

theorem serveOpen (h : QueueMoves s t) : QueueMoves s (serveOpen f t) := by
  refine ite (h.thenIf refl.offerField) ?_
  dsimp only
  split
  · exact h.offerSeq.enterState.setSq.reportFeederState
  · exact h.offerSeq.enterState.setSq.reportFeederState
  · exact h.setSq.enterState.reportFeederState
  · exact h.thenUnless refl.openTesting
  all_goals exact h

theorem serveResetLockout (h : QueueMoves s t) : QueueMoves s (serveResetLockout f t) :=
  h.setFeeder.enterState.reportFeederState

theorem requestInService {x : Ticket} {n : Nat} (h : QueueMoves s t) :
    QueueMoves s (requestInService x n t) := h.feederCommand fun _ => refl.serveInService

theorem requestOutOfService {x : Ticket} {n : Nat} (h : QueueMoves s t) :
    QueueMoves s (requestOutOfService x n t) := h.feederCommand fun _ => refl.serveOutOfService

theorem requestClose {x : Ticket} {n : Nat} (h : QueueMoves s t) :
    QueueMoves s (requestClose x n t) := h.feederCommand fun _ => refl.manualRequest

theorem requestOpen {x : Ticket} {n : Nat} (h : QueueMoves s t) :
    QueueMoves s (requestOpen x n t) := h.feederCommand fun _ => refl.serveOpen

theorem requestResetLockout {x : Ticket} {n : Nat} (h : QueueMoves s t) :
    QueueMoves s (requestResetLockout x n t) := h.feederCommand fun _ => refl.serveResetLockout

theorem setTime {x : Stamp} (h : QueueMoves s t) : QueueMoves s (setTime x t) := ite h.quiet h.quiet

theorem requestMode {x : Ticket} {m : Option Mode} (h : QueueMoves s t) :
    QueueMoves s (requestMode x m t) := by
  cases m
  · exact h.checked refl
  · exact ite (h.checked refl) (h.checked refl.changeMode)

theorem requestRecover {x : Ticket} {q : Option Port} (h : QueueMoves s t) :
    QueueMoves s (requestRecover x q t) := by
  cases q
  · exact h.checked refl
  · exact h.checked refl.recoverPort

theorem requestCapture {x : Ticket} {n : Nat} (h : QueueMoves s t) :
    QueueMoves s (requestCapture x n t) := by
  unfold Machine.requestCapture
  split
  · exact h.answer
  · exact h.answer
  · unfold Machine.answerTrigger
    split
    · exact h.trigger.sendReply
    · exact h.trigger.sendReply
    · exact h.trigger.answer

theorem requestCaptureRead {x : Ticket} {slot seg : Nat} (h : QueueMoves s t) :
    QueueMoves s (requestCaptureRead x slot seg t) := by
  unfold Machine.requestCaptureRead
  split
  · exact h.answer
  · exact h.answer
  · dsimp only
    split
    · exact h.answer
    · exact h.answer
    · exact h.answerCapture

theorem requestCaptureRelease {x : Ticket} {slot : Nat} (h : QueueMoves s t) :
    QueueMoves s (requestCaptureRelease x slot t) := by
  unfold Machine.requestCaptureRelease
  split
  · exact h.checked refl
  · exact h.checked refl.setSlot

/-- Whatever an INJECT payload stands for, taking it moves the queues (R185). -/
theorem injection {node : Nat} {payload : List Byte} :
    QueueMoves t ((injection t node payload).getD id t) := by
  unfold Machine.injection
  split
  · exact refl
  dsimp only
  split
  · cases readFeederSample payload
    · exact refl
    · exact refl.injectFeeder
  · cases readRectSample payload
    · exact refl
    · exact refl.injectRect
  · exact refl

theorem requestBad {x : Ticket} {why : BadRequest} (h : QueueMoves s t) :
    QueueMoves s (requestBad x why t) := by
  cases why
  case unknownRectAction => exact h.checked refl
  all_goals exact h.answer

/-! The report unit -/

theorem buildReport (h : QueueMoves s t) : QueueMoves s (buildReport t) := by
  unfold Machine.buildReport
  split
  · next hready =>
    have hdrop : QueueMoves s { t with reports := t.reports.drop (nextBatch t).length } := by
      refine h.move (.recede (fun _ => .refl _) (.refl _) ?_ (le_max_right _ _))
      rw [List.map_drop]
      exact List.drop_suffix _ _
    refine advanceSeq ?_ |>.arbitrate
    unfold Machine.offerReports
    dsimp only
    split
    · next hurgent =>
      have hroom : (t.port .sp).urgent.length < 24 := by
        simp only [reportReady, batchTakeable, hurgent, Bool.and_eq_true, Bool.not_true, Bool.false_or,
          decide_eq_true_eq] at hready
        exact hready.2
      exact hdrop.move (.urgentReport _ hroom)
    split
    · next hl => exact hdrop.move (.normal .sp _ hl)
    · exact hdrop.move (.recede (fun _ => .refl _) (.refl _) (List.suffix_refl _)
        (le_max_of_le_left (min_le_left _ _)))
  · exact h

theorem reachBatchTimeout (h : QueueMoves s t) : QueueMoves s (reachBatchTimeout t) := by
  unfold Machine.reachBatchTimeout
  split
  · next q rest hq =>
    refine h.move (.recede (fun _ => .refl _) (.refl _) ?_ (le_max_right _ _))
    rw [hq]; exact List.suffix_refl _
  · exact h

theorem tick (h : QueueMoves s t) : QueueMoves s (tick t) := by
  refine h.move (.recede (fun _ => .refl _) (.refl _) ?_ (le_max_right _ _))
  simp only [Machine.tick, List.map_map]
  exact List.suffix_refl _

/-! Every command, and every step -/

theorem serveReadNode {x : Ticket} {row : Nat} (h : QueueMoves s t) :
    QueueMoves s (serveReadNode x row t) := ite h.answerBody h.answer

theorem serveReadSingle {x : Ticket} {row : Nat} {body : ReplyBody} (h : QueueMoves s t) :
    QueueMoves s (serveReadSingle x row body t) := ite h.answerBody h.answer

theorem serveReadRectRow {x : Ticket} {row : Nat} (h : QueueMoves s t) :
    QueueMoves s (serveReadRectRow x row t) := h.serveReadSingle

theorem serveReadReport {x : Ticket} {row : Nat} (h : QueueMoves s t) :
    QueueMoves s (serveReadReport x row t) := h.serveReadSingle

theorem serveReadFeederRow {x : Ticket} {row : Nat} (h : QueueMoves s t) :
    QueueMoves s (serveReadFeederRow x row t) := by
  unfold Machine.serveReadFeederRow
  split
  · exact h.answerBody
  · exact h.answer

theorem serveReadSection {x : Ticket} {row : Nat} (h : QueueMoves s t) :
    QueueMoves s (serveReadSection x row t) := by
  unfold Machine.serveReadSection
  split
  · exact h.answerBody
  · exact h.answer

theorem serveReadPortRow {x : Ticket} {row : Nat} (h : QueueMoves s t) :
    QueueMoves s (serveReadPortRow x row t) := by
  unfold Machine.serveReadPortRow
  split
  · exact h.answerBody
  · exact h.answer

theorem serveReadFeeder {x : Ticket} {n : Nat} (h : QueueMoves s t) :
    QueueMoves s (serveReadFeeder x n t) := by
  unfold Machine.serveReadFeeder
  split
  · exact h.answerBody
  · exact h.answer

theorem serveReadPort {x : Ticket} {q : Option Port} (h : QueueMoves s t) :
    QueueMoves s (serveReadPort x q t) := by
  cases q
  · exact h.answer
  · exact h.answerBody

theorem serveReadTie {x : Ticket} {q : Option Tie} (h : QueueMoves s t) :
    QueueMoves s (serveReadTie x q t) := by
  cases q
  · exact h.answer
  · exact h.answerBody

theorem serveReadRect {x : Ticket} (h : QueueMoves s t) : QueueMoves s (serveReadRect x t) :=
  h.answerBody

theorem serveReadDevice {x : Ticket} (h : QueueMoves s t) : QueueMoves s (serveReadDevice x t) :=
  h.answerBody

theorem serveWriteNode {x : Ticket} {row : Nat} {w : RowWrite NodeRow} (h : QueueMoves s t) :
    QueueMoves s (serveWriteNode x row w t) := h.checked refl.writeNode

theorem serveWriteFeeder {x : Ticket} {row : Nat} {w : RowWrite FeederRow} (h : QueueMoves s t) :
    QueueMoves s (serveWriteFeeder x row w t) := by
  unfold Machine.serveWriteFeeder
  split
  · exact h.checked refl.setFeeder
  · exact h.checked refl

theorem serveWriteRect {x : Ticket} {row : Nat} {w : RowWrite RectRow} (h : QueueMoves s t) :
    QueueMoves s (serveWriteRect x row w t) := h.checked refl.quiet

theorem serveWriteReport {x : Ticket} {row : Nat} {w : RowWrite ReportRow} (h : QueueMoves s t) :
    QueueMoves s (serveWriteReport x row w t) := h.checked refl.quiet

theorem serveWriteSection {x : Ticket} {row : Nat} {w : RowWrite SectionRow} (h : QueueMoves s t) :
    QueueMoves s (serveWriteSection x row w t) := by
  unfold Machine.serveWriteSection
  split
  · exact h.checked refl.setFeeder
  · exact h.checked refl

theorem serveWritePort {x : Ticket} {row : Nat} {w : RowWrite Recovery} (h : QueueMoves s t) :
    QueueMoves s (serveWritePort x row w t) := by
  unfold Machine.serveWritePort
  split
  · exact h.checked refl.writePort
  · exact h.checked refl

theorem requestRun {x : Ticket} (h : QueueMoves s t) : QueueMoves s (requestRun x t) :=
  h.checked refl.serveRun

theorem requestRest {x : Ticket} (h : QueueMoves s t) : QueueMoves s (requestRest x t) :=
  h.checked refl.serveRest

theorem requestReset {x : Ticket} (h : QueueMoves s t) : QueueMoves s (requestReset x t) :=
  h.checked refl.serveReset

theorem requestTime {x : Ticket} {n : Nat} (h : QueueMoves s t) : QueueMoves s (requestTime x n t) :=
  h.checked refl.setTime

theorem requestInject {x : Ticket} {node : Nat} {payload : List Byte} (h : QueueMoves s t) :
    QueueMoves s (requestInject x node payload t) := h.checked injection

theorem requestRestart {x : Ticket} (h : QueueMoves s t) : QueueMoves s (requestRestart x t) :=
  h.checked refl.warmRestart

theorem of_outOfReset {g : State → State} (hg : QueueMoves s (g s)) (h : outOfReset g s = .next t) :
    QueueMoves s t := by
  cases h
  exact refl.thenUnless hg

theorem of_taking {x : Ticket} {r : Request} {serve : State → State}
    (hs : ∀ a, QueueMoves a (serve a)) (h : taking x r serve s = .next t) : QueueMoves s t :=
  of_outOfReset (refl.takeRequest.trans (hs _)) h

/-- A received frame, whatever row it comes from (log entry 1). -/
theorem of_receive {stamp : Stamp} {bytes : List Byte}
    (h : Host.Outcome.next (Machine.receive p stamp bytes s) = (.next t : Host.Outcome State Fault Refusal)) :
    QueueMoves s t := by
  cases h
  exact refl.receive

/-- Every command is a chain of moves of the queues. -/
theorem exec {i : Instr} (h : exec i s = .next t) : QueueMoves s t := by
  cases i with
  | errorFrameReceived p bytes => exact of_receive h
  | lostPortGoodFrame p bytes => exact of_receive h
  | frameRejected p bytes => exact of_receive h
  | forwardUp bytes => exact of_receive h
  | forwardDown bytes => exact of_receive h
  | manageReceived p bytes => exact of_receive h
  | transmitEnd p => exact of_outOfReset refl.transmitDone h
  | feederSampleReceived bytes => exact of_receive h
  | blind f => exact of_outOfReset refl.blindExpired h
  | rectSampleReceived stamp bytes => exact of_receive h
  | rectSilenceExpired => exact of_outOfReset refl.silenceExpired h
  | breakerStatusReceived bytes => exact of_receive h
  | openTimerExpired f => exact of_outOfReset refl.openExpired h
  | closeTimerExpired f => exact of_outOfReset refl.closeExpired h
  | sotfTimerExpired f => exact of_outOfReset refl.setSq h
  | reclaimExpired f => exact of_outOfReset refl.reclaimExpired h
  | deadTimeExpired f => exact of_outOfReset refl.deadTimeExpired h
  | actingMaster f => exact of_outOfReset refl.followExpired h
  | acTimerExpired => exact of_outOfReset refl.acTimerExpired h
  | crossingWatchExpired => exact of_outOfReset refl.watchExpired h
  | acBreakerStatusReceived bytes => exact of_receive h
  | firingStatusReceived bytes => exact of_receive h
  | beatSend k => exact of_outOfReset refl.beatSendExpiry h
  | beatReceived k bytes => exact of_receive h
  | beatGapExpired k => exact of_outOfReset refl.beatGapExpiry h
  | tieSilenceExpired k => exact of_outOfReset refl.tieSilenceExpiry h
  | tieFrameMalformed k bytes => exact of_receive h
  | tripReqReceived k bytes => exact of_receive h
  | tripAckReceived k bytes => exact of_receive h
  | repeatTimerExpired f => exact of_outOfReset refl.repeatExpiry h
  | replayIntertripTimeout f => exact of_outOfReset refl.replayEntryExpiry h
  | repeatWindowExpired f => exact of_outOfReset refl.setFeeder h
  | sectionClearReceived k bytes => exact of_receive h
  | sectionHoldReceived k bytes => exact of_receive h
  | reportBuild => exact of_outOfReset refl.buildReport h
  | batchTimeout => exact of_outOfReset refl.reachBatchTimeout h
  | simOperationComplete d => exact of_outOfReset refl.simComplete h
  | readRowNode x row => exact of_taking (fun _ => refl.serveReadNode) h
  | readRowFeeder x row => exact of_taking (fun _ => refl.serveReadFeederRow) h
  | readRowRect x row => exact of_taking (fun _ => refl.serveReadRectRow) h
  | readRowSection x row => exact of_taking (fun _ => refl.serveReadSection) h
  | readRowPort x row => exact of_taking (fun _ => refl.serveReadPortRow) h
  | readRowReport x row => exact of_taking (fun _ => refl.serveReadReport) h
  | readRecordFeeder x n => exact of_taking (fun _ => refl.serveReadFeeder) h
  | readRecordRect x => exact of_taking (fun _ => refl.serveReadRect) h
  | readRecordPort x q => exact of_taking (fun _ => refl.serveReadPort) h
  | readRecordTie x q => exact of_taking (fun _ => refl.serveReadTie) h
  | readRecordDevice x => exact of_taking (fun _ => refl.serveReadDevice) h
  | writeRowNode x row w => exact of_taking (fun _ => refl.serveWriteNode) h
  | writeRowFeeder x row w => exact of_taking (fun _ => refl.serveWriteFeeder) h
  | writeRowRect x row w => exact of_taking (fun _ => refl.serveWriteRect) h
  | writeRowSection x row w => exact of_taking (fun _ => refl.serveWriteSection) h
  | writeRowPort x row w => exact of_taking (fun _ => refl.serveWritePort) h
  | writeRowReport x row w => exact of_taking (fun _ => refl.serveWriteReport) h
  | inService x n => exact of_taking (fun _ => refl.requestInService) h
  | outOfService x n => exact of_taking (fun _ => refl.requestOutOfService) h
  | closeFeeder x n => exact of_taking (fun _ => refl.requestClose) h
  | openFeeder x n => exact of_taking (fun _ => refl.requestOpen) h
  | resetLockout x n => exact of_taking (fun _ => refl.requestResetLockout) h
  | rectRun x => exact of_taking (fun _ => refl.requestRun) h
  | rectRest x => exact of_taking (fun _ => refl.requestRest) h
  | rectReset x => exact of_taking (fun _ => refl.requestReset) h
  | setMode x m => exact of_taking (fun _ => refl.requestMode) h
  | setTime x n => exact of_taking (fun _ => refl.requestTime) h
  | captureStart x n => exact of_taking (fun _ => refl.requestCapture) h
  | captureRead x slot seg => exact of_taking (fun _ => refl.requestCaptureRead) h
  | captureRelease x slot => exact of_taking (fun _ => refl.requestCaptureRelease) h
  | inject x node payload => exact of_taking (fun _ => refl.requestInject) h
  | portRecover x q => exact of_taking (fun _ => refl.requestRecover) h
  | restart x => exact of_taking (fun _ => refl.requestRestart) h
  | badRequest x why => exact of_taking (fun _ => refl.requestBad) h
  | keyChange pos => exact of_outOfReset refl.changeKey h
  | estopAsserted => exact of_outOfReset refl.assertEstop h
  | estopReleased => exact of_outOfReset refl.releaseEstop h
  | coldReset => cases h; exact refl.coldReset
  | resetRelease rest node => cases h; exact refl.releaseReset
  | keyFirstSettling pos => exact of_outOfReset refl.settleKey h

/-- Every step is a chain of moves of the queues. -/
theorem step (h : step s = .next t) : QueueMoves s t := by
  unfold Machine.step at h
  split at h
  · exact refl.quiet.trans (exec h)
  · unfold idle at h
    split at h
    · cases h; exact refl
    split at h
    · exact exec h
    · cases h; exact refl.tick

end QueueMoves

/-- What every move of the queues keeps, every step keeps. -/
theorem step_keeps_of_moves {P : State → Prop} (hP : ∀ a b, QueueMove a b → P a → P b) {s t : State}
    (hs : P s) (h : step s = .next t) : P t := (QueueMoves.step h).keeps hP hs

end Sys2Proof.Machine
end

section
/-! PROOF. The laws of the queues: capacities and ranges (R14 to R17, R164, R176) and one queued command of
each class (R13), each kept by every move of the queues. -/

namespace Sys2Proof.Machine

set_option Elab.async false

/-! Capacities and ranges -/

theorem PortRec.NoFuller.bounded {r old : PortRec} (h : r.NoFuller old) (hb : old.bounded) :
    r.bounded := by
  obtain ⟨hu, hn, he, hc, hj, hd⟩ := hb
  exact ⟨h.urgent.length_le.trans hu, h.normal.length_le.trans hn,
    h.errorCount.trans (max_le le_rfl he), h.recoveryCount.trans (max_le le_rfl hc),
    h.rejected.trans (max_le le_rfl hj), h.forwardedDrop.trans (max_le le_rfl hd)⟩

/-- Replacing one port record by a bounded one keeps every bound. -/
theorem QueuesBounded.setPort {s : State} {p : Port} {r : PortRec} (h : QueuesBounded s)
    (hr : r.bounded) : QueuesBounded (s.setPort p r) := by
  obtain ⟨hp, hrest⟩ := h
  refine ⟨fun q => ?_, hrest⟩
  by_cases hq : q = p
  · subst hq; simpa using hr
  · rw [State.setPort_port_ne _ _ hq]; exact hp q

theorem submit_loss_le (k : ReportKind) (src : Source) (c : Option Cause) (v w : Option Int) {s : State}
    (h : s.loss ≤ 255) : (submit k src c v w s).loss ≤ 255 := by
  by_cases hr : s.reports.length < 64
  · rw [(submit_of_room k src c v w hr).2]; exact Nat.zero_le _
  · rw [(submit_of_full k src c v w (Nat.not_lt.mp hr)).2]; exact satInc_le h

/-- Every move keeps every queue within its capacity and every count within its range. -/
theorem QueueMove.keeps_queuesBounded {s t : State} (h : QueueMove s t) (hs : QueuesBounded s) :
    QueuesBounded t := by
  have ⟨hports, hreq, hrep, hloss⟩ := hs
  cases h with
  | recede hp hq hr hl =>
    refine ⟨fun p => (hp p).bounded (hports p), hq.length_le.trans hreq, ?_,
      hl.trans (max_le le_rfl hloss)⟩
    simpa using hr.length_le.trans (by simpa using hrep)
  | submit kind src c v w =>
    exact ⟨fun p => by simpa using hports p, by simpa using hreq, submit_length_le _ _ _ _ _ hrep,
      submit_loss_le _ _ _ _ _ hloss⟩
  | request q hroom => exact ⟨hports, by simpa [Config.requestCapacity] using hroom, hrep, hloss⟩
  | normal p frame hroom =>
    obtain ⟨hu, -, hrest⟩ := hports p
    exact hs.setPort ⟨hu, by simpa [Config.normalCapacity] using hroom, hrest⟩
  | urgentReport frame hroom =>
    obtain ⟨-, hrest⟩ := hports .sp
    exact hs.setPort ⟨by simpa [Config.urgentCapacity] using hroom, hrest⟩
  | command c hframe =>
    obtain ⟨hu, hrest⟩ := hports .fp
    exact hs.setPort ⟨offeredCommand_length_le hu, hrest⟩
  | tie k m frame =>
    obtain ⟨hu, hrest⟩ := hports k.port
    exact hs.setPort ⟨offeredTie_length_le hu, hrest⟩

/-- Settles O4: a step is a chain of moves, and each move keeps the bounds. -/
theorem stepKeepsQueuesBounded : Obligations.StepKeepsQueuesBounded :=
  fun _ _ => step_keeps_of_moves fun _ _ => QueueMove.keeps_queuesBounded

/-! One command of each class -/

theorem sameClass_symm {c d : FieldCommand} (h : sameClass c d = true) : sameClass d c = true := by
  cases c <;> cases d <;> simp_all [sameClass]

theorem sameClass_trans {c d e : FieldCommand} (h : sameClass c d = true) (h' : sameClass d e = true) :
    sameClass c e = true := by
  cases c <;> cases d <;> cases e <;> simp_all [sameClass]

theorem sameCommandClass_symm {a b : Frame} (h : sameCommandClass a b) : sameCommandClass b a := by
  obtain ⟨c, d, hc, hd, hcd⟩ := h
  exact ⟨d, c, hd, hc, sameClass_symm hcd⟩

theorem sameCommandClass_trans {a b c : Frame} (h : sameCommandClass a b) (h' : sameCommandClass b c) :
    sameCommandClass a c := by
  obtain ⟨x, y, hx, hy, hxy⟩ := h
  obtain ⟨y', z, hy', hz, hyz⟩ := h'
  obtain rfl : y = y' := by simpa [hy] using hy'
  exact ⟨x, z, hx, hz, sameClass_trans hxy hyz⟩

/-- A frame is of the class of a command exactly when it is of the class of a frame that carries it. -/
theorem isClass_iff {c : FieldCommand} {frame x : Frame} (h : frame.payload = .command c) :
    isClass c x = true ↔ sameCommandClass frame x := by
  unfold isClass sameCommandClass
  split
  · next d hd => simp [h, hd]
  · next hd =>
    simp only [Bool.false_eq_true, false_iff]
    rintro ⟨-, d, -, hd', -⟩
    exact hd d hd'

/-- A replacement in place replaces the first frame that satisfies the test. -/
theorem replaceFirst_eq_some {test : Frame → Bool} {new : Frame} {q r : List Frame}
    (h : replaceFirst test new q = some r) :
    ∃ a old b, q = a ++ old :: b ∧ test old = true ∧ r = a ++ new :: b := by
  induction q generalizing r with
  | nil => simp [replaceFirst] at h
  | cons x q ih =>
    simp only [replaceFirst] at h
    split at h
    · next hx => cases h; exact ⟨[], x, q, rfl, hx, rfl⟩
    · obtain ⟨r', hr', rfl⟩ := Option.map_eq_some_iff.mp h
      obtain ⟨a, old, b, rfl, hold, rfl⟩ := ih hr'
      exact ⟨x :: a, old, b, rfl, hold, rfl⟩

/-- A command offered to a queue with one command of each class leaves one of each class (R13): it takes
the place of the one of its class, or joins the tail when there is none. -/
theorem offeredCommand_pairwise {c : FieldCommand} {frame : Frame} (h : frame.payload = .command c)
    {q : List Frame} (hq : q.Pairwise fun a b => ¬ sameCommandClass a b) :
    (offeredCommand c frame q).Pairwise fun a b => ¬ sameCommandClass a b := by
  unfold offeredCommand
  split
  · next r hr =>
    obtain ⟨a, old, b, rfl, hold, rfl⟩ := replaceFirst_eq_some hr
    have hsame := (isClass_iff h).mp hold
    simp only [List.pairwise_append, List.pairwise_cons, List.forall_mem_cons] at hq ⊢
    obtain ⟨ha, ⟨hob, hb⟩, hab⟩ := hq
    refine ⟨ha, ⟨fun y hy hny => hob y hy (sameCommandClass_trans (sameCommandClass_symm hsame) hny),
      hb⟩, fun x hx => ⟨fun hxn => ?_, (hab x hx).2⟩⟩
    exact (hab x hx).1 (sameCommandClass_trans hxn hsame)
  · next hr =>
    split
    · have hnone := replaceFirst_eq_none.mp hr
      refine List.pairwise_append.mpr ⟨hq, List.pairwise_singleton _ _, fun a ha b hb hab => ?_⟩
      obtain rfl := List.mem_singleton.mp hb
      simpa [hnone a ha] using (isClass_iff h).mpr (sameCommandClass_symm hab)
    · exact hq

/-- Every move keeps one command of each class: only an offered command joins the field port's URGENT
queue, and it takes the place of the one of its class. -/
theorem QueueMove.keeps_onePerClass {s t : State} (h : QueueMove s t) (hs : OnePerClass s) :
    OnePerClass t := by
  unfold OnePerClass at hs ⊢
  cases h with
  | recede hp => exact hs.sublist (hp .fp).urgent
  | submit => simpa using hs
  | request => exact hs
  | normal p => cases p <;> exact hs
  | urgentReport => exact hs
  | command c hframe => exact offeredCommand_pairwise hframe hs
  | tie k => cases k <;> exact hs

/-- Settles O5: a step is a chain of moves, and each move keeps one command of each class. -/
theorem stepKeepsOneCommandPerClass : Obligations.StepKeepsOneCommandPerClass :=
  fun _ _ => step_keeps_of_moves fun _ _ => QueueMove.keeps_onePerClass

end Sys2Proof.Machine
end

section
/-! PROOF. The link frame: the check over a frame and its own check (R3), the table of R4, and that what the
part transmits is received good. -/

namespace Sys2Proof.Machine

set_option Elab.async false

/-! The check -/

/-- A bit equal to the top bit of the check register only shifts it (R3). -/
theorem crcBit_top (crc : BitVec 16) : crcBit crc (crc.getLsbD 15) = crc <<< 1 := by simp [crcBit]

/-- The register's own bits, top bit first, shift it out. -/
theorem crcBit_shifted (crc : BitVec 16) {i : Nat} (h : i < 16) :
    crcBit (crc <<< i) (crc.getLsbD (15 - i)) = crc <<< (i + 1) := by
  have htop : (crc <<< i).getLsbD 15 = crc.getLsbD (15 - i) := by
    rw [BitVec.getLsbD_shiftLeft]
    simp [show i ≤ 15 by omega]
  rw [← htop, crcBit_top, ← BitVec.shiftLeft_add]

/-- The register's own high byte shifts it by a byte. -/
theorem crcByte_high (crc : BitVec 16) : crcByte crc (crc.extractLsb' 8 8) = crc <<< 8 := by
  have hbit : ∀ i < 8, crcBit (crc <<< (7 - i)) ((crc.extractLsb' 8 8).getLsbD i) = crc <<< (8 - i) := by
    intro i hi
    have hget : (crc.extractLsb' 8 8).getLsbD i = crc.getLsbD (15 - (7 - i)) := by
      simp [hi, show 15 - (7 - i) = 8 + i by omega]
    rw [hget, crcBit_shifted crc (by omega), show 7 - i + 1 = 8 - i by omega]
  have h0 := hbit 7 (by omega)
  simp only [Nat.sub_self, BitVec.shiftLeft_zero] at h0
  simp only [crcByte, List.foldl, h0]
  rw [hbit 6 (by omega), hbit 5 (by omega), hbit 4 (by omega), hbit 3 (by omega), hbit 2 (by omega),
    hbit 1 (by omega), hbit 0 (by omega)]

/-- A check register that takes its own two bytes is 0. -/
theorem foldl_crcByte_bytes16 (crc : BitVec 16) : (bytes16 crc).foldl crcByte crc = 0#16 := by
  have hlow : crc.extractLsb' 0 8 = (crc <<< 8).extractLsb' 8 8 := by
    ext i hi; simp; omega
  simp only [bytes16, List.foldl_cons, List.foldl_nil, crcByte_high]
  rw [hlow, crcByte_high, ← BitVec.shiftLeft_add]
  simp

/-- Bytes followed by their check have check 0 (R3). -/
theorem crc16_append_own (bytes : List Byte) : crc16 (bytes ++ bytes16 (crc16 bytes)) = 0#16 := by
  rw [crc16, List.foldl_append]
  exact foldl_crcByte_bytes16 _

/-! Classification -/

theorem Kind.ofCode_code (k : Kind) : Kind.ofCode k.code = some k := by cases k <;> decide

/-- A frame of up to 48 payload bytes is received good, with the fields it was sent with (R2, R4). -/
theorem classify_frameBytes (kind : Kind) (dest src seq : Byte) {payload : List Byte}
    (h : payload.length ≤ 48) :
    classify (frameBytes kind dest src seq payload) =
      .good { kind := kind, dest := dest, src := src, seq := seq, payload := payload } := by
  have hlen : (BitVec.ofNat 8 payload.length).toNat = payload.length := by
    rw [BitVec.toNat_ofNat]; omega
  simp only [frameBytes, classify, classifyBody, List.cons_append, hlen]
  rw [if_neg (by omega), if_neg (by simp [bytes16]; omega), if_neg (by simp [bytes16]; omega),
    if_neg (by simp), Kind.ofCode_code]
  simp

theorem Frame.classify_wire {f : Frame} (h : f.payload.toBytes.length ≤ 48) :
    classify f.wire =
      .good { kind := f.kind, dest := f.dest, src := f.src, seq := f.seq
              payload := f.payload.toBytes } := classify_frameBytes _ _ _ _ h

theorem Frame.wire_length (f : Frame) : f.wire.length = f.payload.toBytes.length + 7 := by
  simp [Frame.wire, frameBytes, bytes16]

/-- What the part itself puts in a COMMAND, a REPLY or a TIE frame fits a frame (R2). -/
theorem Payload.toBytes_length_le {x : Payload}
    (h : (∃ c, x = .command c) ∨ (∃ r, x = .reply r) ∨ ∃ m, x = .tie m) : x.toBytes.length ≤ 48 := by
  obtain ⟨c, rfl⟩ | ⟨r, rfl⟩ | ⟨m, rfl⟩ := h
  · exact List.length_take_le _ _
  · exact List.length_take_le _ _
  · cases m <;> simp [Payload.toBytes, TieMsg.bytes]

/-- Settles O12: the register shifts its own bytes out, and a wire frame meets every row of the table. -/
theorem frameCheck : Obligations.FrameCheck := by
  refine ⟨⟨by decide +kernel, crc16_append_own⟩, fun f h => f.classify_wire h, fun f h => ?_⟩
  have hlen := Payload.toBytes_length_le h
  exact ⟨hlen, by rw [f.wire_length]; omega, f.classify_wire hlen⟩

/-- Settles O13: a frame of fewer than five bytes is cut off, and the header of any other gives the
remaining rows. -/
theorem receivedFrameClassification : Obligations.ReceivedFrameClassification := by
  intro bytes
  match bytes with
  | [] | [_] | [_, _] | [_, _, _] | [_, _, _, _] => rfl
  | b0 :: b1 :: b2 :: b3 :: b4 :: rest =>
    have hbytes : ∀ len, (b0 :: b1 :: b2 :: b3 :: b4 :: rest).take (5 + len)
        = b0 :: b1 :: b2 :: b3 :: b4 :: rest.take len := fun len => by simp [Nat.add_comm 5 len]
    have hdrop : ∀ len, (b0 :: b1 :: b2 :: b3 :: b4 :: rest).drop (5 + len) = rest.drop len :=
      fun len => by simp [Nat.add_comm 5 len]
    have hshort : ∀ len, rest.length + 5 < 7 + len ↔ rest.length < 2 + len := fun len => by omega
    have hlong : ∀ len, 7 + len < rest.length + 5 ↔ 2 + len < rest.length := fun len => by omega
    simp only [classify, classifyBody, List.getD_cons_zero, List.getD_cons_succ, hbytes, hdrop,
      List.length_cons, Nat.add_assoc, Nat.reduceAdd, hshort, hlong, List.drop_succ_cons, List.drop_zero]
    rw [if_neg (by omega : ¬ rest.length + 5 < 5)]
    cases Kind.ofCode b0 <;> simp only [ne_comm]

end Sys2Proof.Machine
end

section
/-! PROOF. The ports: error confinement and recovery (R5 to R8), the arbiter at the end of a transmission
(R11), the URGENT queues (R13, R14) and the replies (R175, R181). -/

namespace Sys2Proof.Machine

set_option Elab.async false

/-! Putting back what a change of one port touched -/

@[simp] theorem State.setPort_putPort (t : State) (p : Port) (r : PortRec) (s : State) :
    (t.setPort p r).putPort p s = t.putPort p s := State.setPort_setPort _ _ _ _

@[simp] theorem State.putPort_self (s : State) (p : Port) : s.putPort p s = s := State.setPort_self _ _

/-- A change of one port that is reported touches that port, the report queue and the loss count. -/
theorem submit_setPort_putBack (k : ReportKind) (src : Source) (c : Option Cause) (v w : Option Int)
    (p : Port) (r : PortRec) (s : State) :
    ((submit k src c v w (s.setPort p r)).putPort p s).putReports s = s := by
  unfold submit
  split <;> simp [State.putPort, State.putReports, State.setPort, State.port]

/-- A change of one port does not reach what a report carries. -/
theorem submit_setPort_reports (k : ReportKind) (src : Source) (c : Option Cause) (v w : Option Int)
    (p : Port) (r : PortRec) (s : State) :
    (submit k src c v w (s.setPort p r)).reports = (submit k src c v w s).reports :=
  (submit_congr k src c v w (s := s.setPort p r) (t := s) rfl rfl rfl rfl).1

/-! Reception -/

theorem receive_of_error {p : Port} {stamp : Stamp} {bytes : List Byte} {e : RxError} {s : State}
    (hr : s.inReset = false) (h : classify bytes = .error e) :
    receive p stamp bytes s = errorFrame p e s := by simp [receive, hr, h]

theorem receive_of_lost {p : Port} {stamp : Stamp} {bytes : List Byte} {fr : RxFrame} {s : State}
    (hr : s.inReset = false) (h : classify bytes = .good fr) (hl : (s.port p).state = .lost) :
    receive p stamp bytes s = lostGood p s := by simp [receive, hr, h, hl]

/-! Recovery -/

/-- A port that recovers is GOOD with both counts 0 and its arbiter at work (R8 to R11). -/
theorem recoverPort_port (p : Port) (s : State) :
    (recoverPort p s).port p =
      PortRec.arbitrate { s.port p with state := .good, errorCount := 0, recoveryCount := 0 } := by
  simp [recoverPort, arbitrate_eq, reportPort]

theorem recoverPort_setPort_reports (p : Port) (r : PortRec) (s : State) :
    (recoverPort p (s.setPort p r)).reports
      = (submit .portState (.port p) none (some 1) (some 3) s).reports := by
  rw [recoverPort, State.setPort_setPort]
  exact submit_setPort_reports _ _ _ _ _ _ _ _

/-- The recovery of a port, with a change of its record before it, touches that port and the reports. -/
theorem recoverPort_setPort_putBack (p : Port) (r : PortRec) (s : State) :
    ((recoverPort p (s.setPort p r)).putPort p s).putReports s = s := by
  rw [recoverPort, arbitrate_eq, State.setPort_putPort, State.setPort_setPort]
  exact submit_setPort_putBack _ _ _ _ _ _ _ _

theorem lostGood_eq {p : Port} {s : State} (h : (s.port p).recoveryCount ≤ 128) :
    lostGood p s =
      let n := min 128 ((s.port p).recoveryCount + 1)
      let s1 := s.setPort p { s.port p with recoveryCount := n }
      if n = 128 ∧ (s.port p).recovery = .auto then recoverPort p s1 else s1 := by
  simp only [lostGood, satInc_eq_min h]

/-- Settles O15: on a LOST port the count rises and may recover the port; on another it falls and may
return the port to GOOD. -/
theorem goodFrameCounted : Obligations.GoodFrameCounted := by
  refine ⟨fun p bytes fr s hr hc hl hn => ⟨lostGood p s, ?_, ?_⟩, fun p s => ?_⟩
  · exact congrArg _ (receive_of_lost hr hc hl)
  · rw [lostGood_eq hn]
    dsimp only
    split
    · exact ⟨by simp [recoverPort_port], recoverPort_setPort_reports _ _ _,
        recoverPort_setPort_putBack _ _ _⟩
    · rfl
  · dsimp only [goodFrame]
    split
    · refine ⟨by simp [reportPort], ?_, ?_⟩
      · rw [State.setPort_setPort]
        exact submit_setPort_reports _ _ _ _ _ _ _ _
      · rw [State.setPort_setPort]
        exact submit_setPort_putBack _ _ _ _ _ _ _ _
    · rfl

/-! The end of a transmission -/

/-- Settles O20: the transmitter is freed and the arbiter looks once. -/
theorem transmissionEnds : Obligations.TransmissionEnds := by
  intro p s hr
  refine ⟨transmitDone p s, by simp [exec, execTransmitEnd, outOfReset, hr], ?_⟩
  unfold transmitDone
  by_cases hs : (s.port p).sending = none
  · simp [hs]
  · have hsome : (s.port p).sending.isSome = true := Option.isSome_iff_ne_none.mpr hs
    simp only [hsome, if_true, hs, if_false, arbitrate_eq, State.setPort_port_same]
    refine ⟨by simp, ?_⟩
    by_cases hl : (s.port p).state = .lost
    · simp [PortRec.arbitrate, hl]
    · have hfree : ¬ ((s.port p).state = .lost ∨ (none : Option Frame).isSome = true) := by simp [hl]
      cases (s.port p).urgent with
      | cons f rest => simp only [PortRec.arbitrate, if_neg hfree, if_neg hl]
      | nil => cases (s.port p).normal <;> simp only [PortRec.arbitrate, if_neg hfree, if_neg hl]

/-! Replies -/

theorem sendReply_putPort (k : Ticket) (type : RequestType) (status : Status) (part parts : Nat)
    (body : ReplyBody) (t s : State) :
    (sendReply k type status part parts body t).putPort (replyPort k.source) s
      = t.putPort (replyPort k.source) s := by
  rw [sendReply, offerReplyFrame_eq, State.setPort_putPort]

theorem sendReply_port (k : Ticket) (type : RequestType) (status : Status) (part parts : Nat)
    (body : ReplyBody) (s : State) :
    ((sendReply k type status part parts body s).port (replyPort k.source)).nextSeq
        = (s.port (replyPort k.source)).nextSeq + 1#8
      ∧ ((sendReply k type status part parts body s).port (replyPort k.source)).urgent.length
        ≤ (s.port (replyPort k.source)).urgent.length
      ∧ ((sendReply k type status part parts body s).port (replyPort k.source)).state
        = (s.port (replyPort k.source)).state := by
  rw [sendReply, offerReplyFrame_eq, State.setPort_port_same]
  exact ⟨by simp, (PortRec.arbitrate_urgent_sublist _).length_le, by simp⟩

/-- Some parts of a reply, sent one after another, change the reply port alone and take one originated
number each (R181). -/
theorem foldl_sendReply (k : Ticket) (type : RequestType) (parts : Nat) (body : ReplyBody)
    (ns : List Nat) (s : State) :
    let t := ns.foldl (fun st n => sendReply k type .done n parts body st) s
    let p := replyPort k.source
    t.putPort p s = s
      ∧ (t.port p).nextSeq = (s.port p).nextSeq + BitVec.ofNat 8 ns.length
      ∧ (t.port p).urgent.length ≤ (s.port p).urgent.length
      ∧ (t.port p).state = (s.port p).state := by
  induction ns using List.reverseRecOn with
  | nil => simp
  | append_singleton ns n ih =>
    obtain ⟨hput, hseq, hurgent, hstate⟩ := ih
    obtain ⟨hseq', hurgent', hstate'⟩ := sendReply_port k type .done n parts body
      (ns.foldl (fun st n => sendReply k type .done n parts body st) s)
    simp only [List.foldl_append, List.foldl_cons, List.foldl_nil, sendReply_putPort]
    refine ⟨hput, ?_, hurgent'.trans hurgent, hstate'.trans hstate⟩
    rw [hseq', hseq, List.length_append, List.length_singleton, BitVec.add_assoc, BitVec.ofNat_add]

/-- Settles O18: one reply is one frame offered, and the parts of a reply are offered one by one. -/
theorem repliesOffered : Obligations.RepliesOffered := by
  refine ⟨fun k type status part parts body s => ?_, fun k type body s => ?_⟩
  · have heq : sendReply k type status part parts body s = _ := offerReplyFrame_eq _ _ _ _
    obtain ⟨source, requester, number⟩ := k
    cases source <;> rw [heq] <;> exact ⟨State.setPort_port_same _ _ _, by simp [replyPort]⟩
  · simpa [answerBody] using foldl_sendReply k type (1 + Config.extraParts body) body
      (List.range (1 + Config.extraParts body)) s

/-! The URGENT queues -/

theorem offeredCommand_of_class {c : FieldCommand} {frame old : Frame} {a : List Frame} (b : List Frame)
    (ha : ∀ x ∈ a, isClass c x = false) (ho : isClass c old = true) :
    offeredCommand c frame (a ++ old :: b) = a ++ frame :: b := by
  simp [offeredCommand, replaceFirst_append b ha ho]

theorem offeredCommand_of_new {c : FieldCommand} {frame : Frame} {a : List Frame}
    (ha : ∀ x ∈ a, isClass c x = false) (hl : a.length < 24) :
    offeredCommand c frame a = a ++ [frame] := by
  simp [offeredCommand, replaceFirst_eq_none.mpr ha, Config.urgentCapacity, hl]

theorem offeredTie_of_replaced {m : TieMsg} {frame old : Frame} {a : List Frame} (b : List Frame)
    (ha : ∀ x ∈ a, replacesTie m x = false) (ho : replacesTie m old = true) :
    offeredTie m frame (a ++ old :: b) = a ++ frame :: b := by
  simp [offeredTie, replaceFirst_append b ha ho]

theorem offeredTie_of_room {m : TieMsg} {frame : Frame} {a : List Frame}
    (ha : ∀ x ∈ a, replacesTie m x = false) (hl : a.length < 24) :
    offeredTie m frame a = a ++ [frame] := by
  simp [offeredTie, replaceFirst_eq_none.mpr ha, Config.urgentCapacity, hl]

/-- On a full queue, a frame that replaces none: a BEAT is dropped, another makes room by the oldest BEAT,
or else the oldest TRIP_ACK (R14). -/
theorem offeredTie_of_full {m : TieMsg} {frame : Frame} {a : List Frame}
    (ha : ∀ x ∈ a, replacesTie m x = false) (hl : 24 ≤ a.length) :
    offeredTie m frame a =
      if isBeat frame then a
      else
        match removeFirst isBeat a, removeFirst isAck a with
        | some q, _ => q ++ [frame]
        | none, some q => q ++ [frame]
        | none, none => a := by
  simp only [offeredTie, replaceFirst_eq_none.mpr ha, Config.urgentCapacity, Nat.not_lt.mpr hl, if_false]
  cases removeFirst isBeat a <;> cases removeFirst isAck a <;> rfl

theorem isBeat_iff {frame : Frame} {m : TieMsg} (h : frame.payload = .tie m) :
    isBeat frame = true ↔ ∃ x, m = .beat x := by
  cases m <;> simp [isBeat, h]

/-- Settles O19: the queues by the rule that resolves the offer, and the offer as one change of the tie's
port. -/
theorem urgentQueuesResolve : Obligations.UrgentQueuesResolve := by
  refine ⟨fun c frame a b old ha => ⟨offeredCommand_of_class b ha, offeredCommand_of_new ha⟩,
    fun m frame a b old hm ha => ⟨offeredTie_of_replaced b ha, offeredTie_of_room ha, ?_, ?_⟩, ?_⟩
  · intro hl hbeat
    rw [offeredTie_of_full ha hl, if_pos ((isBeat_iff hm).mpr hbeat)]
  · rintro u v rfl hl hnot hold
    have hframe : ¬ isBeat frame = true := fun h => by
      obtain ⟨x, hx⟩ := (isBeat_iff hm).mp h
      exact hnot x hx
    rw [offeredTie_of_full ha hl, if_neg hframe]
    obtain ⟨hu, ho⟩ | ⟨hnone, hu, ho⟩ := hold
    · rw [removeFirst_append v hu ho]
    · rw [removeFirst_eq_none.mpr hnone, removeFirst_append v hu ho]
  · intro k m s
    cases k <;> exact ⟨by rw [offerTie_eq]; exact State.setPort_port_same _ _ _,
      by rw [offerTie_eq]; simp [Tie.port]⟩

end Sys2Proof.Machine
end

section
/-! PROOF. The state after reset, the requests that write the RECT, PORT and REPORT tables (R10, R119, R167)
and RESTART (R186). -/

namespace Sys2Proof.Machine

set_option Elab.async false

/-! The state after reset -/

@[simp] theorem State.reset_port (p : Port) : State.reset.port p = PortRec.cold :=
  PerPort.get_const _ _

@[simp] theorem State.reset_feeder (f : FeederId) : State.reset.feeder f = FeederUnit.cold :=
  PerFeeder.get_const _ _

@[simp] theorem State.reset_sq (f : FeederId) : State.reset.sq f = FeederRec.fresh :=
  congrArg FeederUnit.sq (State.reset_feeder f)

theorem PortRec.cold_bounded : PortRec.cold.bounded := by unfold PortRec.bounded; decide

/-- Settles O3: law by law, from the cold-reset records. -/
theorem resetMeetsEveryLaw : Obligations.ResetMeetsEveryLaw := by
  refine ⟨⟨fun p => ?_, ?_⟩, ?_, trivial, fun f => ?_, ?_, fun f => ?_, ?_, fun f => ?_⟩
  · rw [State.reset_port]; exact PortRec.cold_bounded
  · decide
  · rw [OnePerClass, State.reset_port]; exact .nil
  · rw [State.reset_feeder]; exact Nat.zero_le _
  · exact fun h => absurd h (by decide)
  · simp [FeederRec.fresh]
  · unfold AcTripLaw; decide
  · have hlatched : State.reset.rect.latched.get f = false := PerFeeder.get_const _ _
    simp [FeederRec.fresh, hlatched]

/-! Requests taken and checked -/

/-- The taking of a request changes the request queue alone (R176). -/
theorem takeRequest_eq (k : Ticket) (r : Request) (s : State) :
    ∃ q, takeRequest k r s = { s with requests := q } := by
  unfold takeRequest
  split
  · split
    · exact ⟨_, rfl⟩
    · exact ⟨s.requests, rfl⟩
  · exact ⟨s.requests, rfl⟩

theorem taking_eq {s : State} (h : s.inReset = false) (k : Ticket) (r : Request)
    (serve : State → State) : taking k r serve s = .next (serve (takeRequest k r s)) := by
  simp [taking, outOfReset, h]

theorem checked_of_accepted {k : Ticket} {type : RequestType} {checks : List (Bool × Status)}
    (h : firstRefusal checks = none) (effect : State → State) (s : State) :
    checked k type checks effect s = answer k type .done (effect s) := by simp [checked, h]

theorem checked_of_refused {k : Ticket} {type : RequestType} {checks : List (Bool × Status)}
    {status : Status} (h : firstRefusal checks = some status) (effect : State → State) (s : State) :
    checked k type checks effect s = answer k type status s := by simp [checked, h]

theorem stationOnly_fst {k : Ticket} (h : k.source = .fromStation) :
    stationOnly k = (false, .refusedAuthority) := by simp [stationOnly, h]

/-! The rows -/

theorem clampAlpha_bounds {row : RectRow} (h : row.alphaMin ≤ row.alphaMax) (a : Nat) :
    row.alphaMin ≤ clampAlpha row a ∧ clampAlpha row a ≤ row.alphaMax := by
  have := clampInt_bounds (a : Int) (Int.ofNat_le.mpr h)
  unfold clampAlpha
  omega

theorem clampAlpha_of_mem {row : RectRow} {a : Nat} (h1 : row.alphaMin ≤ a) (h2 : a ≤ row.alphaMax) :
    clampAlpha row a = a := by
  rw [clampAlpha, clampInt_of_mem (Int.ofNat_le.mpr h1) (Int.ofNat_le.mpr h2), Int.toNat_natCast]

theorem rectRowOk_iff (r : RectRow) :
    rectRowOk r = true ↔
      (r.freq = 50 ∨ r.freq = 60) ∧ 600 ≤ r.uSet ∧ r.uSet ≤ 900 ∧ r.db ≤ 50
        ∧ r.alphaMin ≤ 300 ∧ 300 ≤ r.alphaMax ∧ r.alphaMax ≤ 1500 ∧ r.alphaMin < r.alphaMax
        ∧ 1 ≤ r.alphaStep ∧ r.alphaStep ≤ 50 ∧ 10 ≤ r.alphaClStep ∧ r.alphaClStep ≤ 300
        ∧ 1 ≤ r.h ∧ r.h ≤ 16 ∧ 500 ≤ r.iLim ∧ r.iLim ≤ 12000
        ∧ r.iLim ≤ r.iRectTrip ∧ r.iRectTrip ≤ 20000 ∧ 1 ≤ r.cRect ∧ r.cRect ≤ 4
        ∧ 1 ≤ r.j ∧ r.j ≤ 500 ∧ 40 ≤ r.tWarn ∧ r.tWarn ≤ 120
        ∧ r.tWarn + 5 ≤ r.tTrip ∧ r.tTrip ≤ 130 ∧ 2 ≤ r.hysteresis ∧ r.hysteresis ≤ 20
        ∧ 400 ≤ r.uWake ∧ r.uWake ≤ 700 := by
  simp [rectRowOk, within, and_assoc]

theorem rectWriteBlocked_iff (s : State) (r : RectRow) :
    rectWriteBlocked s r = true ↔
      r.freq ≠ s.rectRow.freq ∧ s.rect.state ≠ .parked ∧ s.rect.state ≠ .faulted := by
  simp [rectWriteBlocked]

theorem reportRowOk_iff (r : ReportRow) :
    reportRowOk r = true ↔
      1 ≤ r.level ∧ r.level ≤ 4 ∧ 1 ≤ r.batchTimeout ∧ r.batchTimeout ≤ 50
        ∧ 10 ≤ r.replayTime ∧ r.replayTime ≤ 200 := by
  simp [reportRowOk, within, and_assoc]

theorem portOfRow_eq_none_iff (n : Nat) : portOfRow n = none ↔ 3 < n := by
  unfold portOfRow
  repeat' split
  all_goals simp; omega

/-! The writes -/

section

variable {k : Ticket} {n : Nat} {s : State}

/-- WRITE_ROW RECT outside reset, by its checks (R119). -/
theorem exec_writeRowRect (hr : s.inReset = false) (w : RowWrite RectRow) :
    exec (.writeRowRect k n w) s =
      .next
        (checked k .writeRow
          [stationOnly k, configOnly s, (n != 0, .badRow), (w.outOfSet || !rectRowOk w.value, .badValue),
            (rectWriteBlocked s w.value, .refusedState)]
          (writeRect w.value) (takeRequest k (.writeRowRect n w) s)) := by
  obtain ⟨q, hq⟩ := takeRequest_eq k (.writeRowRect n w) s
  refine (taking_eq hr _ _ _).trans ?_
  rw [hq]
  rfl

/-- WRITE_ROW PORT outside reset, by its checks (R10). -/
theorem exec_writeRowPort (hr : s.inReset = false) (w : RowWrite Recovery) :
    exec (.writeRowPort k n w) s =
      .next
        (match portOfRow n with
         | some p =>
           checked k .writeRow [stationOnly k, configOnly s, (!portRowOk p w, .badValue)]
             (writePort p w.value) (takeRequest k (.writeRowPort n w) s)
         | none =>
           checked k .writeRow [stationOnly k, configOnly s, (true, .badRow)] id
             (takeRequest k (.writeRowPort n w) s)) := by
  obtain ⟨q, hq⟩ := takeRequest_eq k (.writeRowPort n w) s
  refine (taking_eq hr _ _ _).trans ?_
  rw [hq]
  rfl

/-- WRITE_ROW REPORT outside reset, by its checks (R167). -/
theorem exec_writeRowReport (hr : s.inReset = false) (w : RowWrite ReportRow) :
    exec (.writeRowReport k n w) s =
      .next
        (checked k .writeRow
          [stationOnly k, (n != 0, .badRow), (w.outOfSet || !reportRowOk w.value, .badValue)]
          (fun st => { st with reportRow := w.value }) (takeRequest k (.writeRowReport n w) s)) :=
  taking_eq hr _ _ _

/-- An accepted RECT row: α is clamped, and a changed frequency restarts the period (R119). -/
theorem writeRect_rect {w : RectRow} (hok : rectRowOk w = true) :
    let t := writeRect w s
    w.alphaMin ≤ t.rect.alpha ∧ t.rect.alpha ≤ w.alphaMax
      ∧ (w.alphaMin ≤ s.rect.alpha → s.rect.alpha ≤ w.alphaMax → t.rect.alpha = s.rect.alpha)
      ∧ (if w.freq = s.rectRow.freq then
          t.rect.t = s.rect.t ∧ t.rect.syncValid = s.rect.syncValid
        else t.rect.t = (if w.freq = 60 then 16667 else 20000) ∧ t.rect.syncValid = false) := by
  obtain ⟨-, -, -, -, hmin, hmax, -⟩ := (rectRowOk_iff w).mp hok
  obtain ⟨hlo, hhi⟩ := clampAlpha_bounds (hmin.trans hmax) s.rect.alpha
  refine ⟨hlo, hhi, clampAlpha_of_mem, ?_⟩
  by_cases hf : w.freq = s.rectRow.freq <;> simp [writeRect, nominalPeriod, hf]

/-- The recovery that a change from MANUAL to AUTO makes of a held LOST port (R10). -/
theorem writePort_eq (p : Port) (v : Recovery) (s : State) :
    writePort p v s =
      if (s.port p).recovery = .manual ∧ v = .auto ∧ (s.port p).state = .lost
          ∧ (s.port p).recoveryCount = 128 then
        recoverPort p (s.setPort p { s.port p with recovery := v })
      else s.setPort p { s.port p with recovery := v } := rfl

/-- Settles O49: each write by its list of checks, and each check field by field. -/
theorem deviceTablesWritten : Obligations.DeviceTablesWritten := by
  refine ⟨fun k n s hr hk => ⟨?_, ?_, ?_, ?_, ?_, ?_⟩, fun r q s => ⟨rectRowOk_iff r,
    rectWriteBlocked_iff s r, reportRowOk_iff q, rfl, rfl, rfl, rfl,
    fun n => (portOfRow_eq_none_iff n).mpr⟩⟩
  · intro w hm hn hset hok hfree
    obtain ⟨q, hq⟩ := takeRequest_eq k (.writeRowRect n w) s
    refine ⟨writeRect w.value (takeRequest k (.writeRowRect n w) s), ?_, rfl, rfl, ?_⟩
    · rw [exec_writeRowRect hr, checked_of_accepted]
      simp [firstRefusal, stationOnly_fst hk, configOnly, hm, hn, hset, hok, hfree]
    · obtain ⟨hlo, hhi, hsame, hfreq⟩ := writeRect_rect (s := takeRequest k (.writeRowRect n w) s) hok
      rw [hq] at *
      exact ⟨hlo, hhi, hsame, hfreq, rfl, rfl, rfl⟩
  · intro p w hm hp hset hsp
    obtain ⟨q, hq⟩ := takeRequest_eq k (.writeRowPort n w) s
    refine ⟨writePort p w.value (takeRequest k (.writeRowPort n w) s), ?_, ?_⟩
    · have hok : portRowOk p w = true := by
        have hsp' := not_and_or.mp hsp
        simpa [portRowOk, hset] using hsp'
      rw [exec_writeRowPort hr, hp]
      dsimp only
      rw [checked_of_accepted]
      simp [firstRefusal, stationOnly_fst hk, configOnly, hm, hok]
    · have hport : (takeRequest k (.writeRowPort n w) s).port p = s.port p := by rw [hq]; rfl
      dsimp only
      split
      · next h =>
        rw [writePort_eq, hport, if_pos h]
        simp [recoverPort_port, h.2.1]
      · next h => rw [writePort_eq, hport, if_neg h]
  · intro w hn hset hok
    rw [exec_writeRowReport hr, checked_of_accepted]
    simp [firstRefusal, stationOnly_fst hk, hn, hset, hok]
  · intro w hm
    refine ⟨fun hn => ?_, fun hn hbad => ?_, fun hn hset hok hblocked => ?_⟩ <;>
      rw [exec_writeRowRect hr, checked_of_refused]
    · simp [firstRefusal, stationOnly_fst hk, configOnly, hm, hn]
    · simp [firstRefusal, stationOnly_fst hk, configOnly, hm, hn, hbad]
    · simp [firstRefusal, stationOnly_fst hk, configOnly, hm, hn, hset, hok, hblocked]
  · intro w hm
    refine ⟨fun hn => ?_, fun p hp hbad => ?_⟩ <;> rw [exec_writeRowPort hr]
    · rw [(portOfRow_eq_none_iff n).mpr hn]
      dsimp only
      rw [checked_of_refused]
      simp [firstRefusal, stationOnly_fst hk, configOnly, hm]
    · rw [hp]
      dsimp only
      rw [checked_of_refused]
      have hbad' : portRowOk p w = false := by
        rcases hbad with hset | ⟨hsp, hman⟩ <;> simp [portRowOk, *]
      simp [firstRefusal, stationOnly_fst hk, configOnly, hm, hbad']
  · intro w
    refine ⟨fun hn => ?_, fun hn hbad => ?_⟩ <;> rw [exec_writeRowReport hr, checked_of_refused]
    · simp [firstRefusal, stationOnly_fst hk, hn]
    · simp [firstRefusal, stationOnly_fst hk, hn, hbad]

end

/-! RESTART -/

theorem FeederId.mem_all (f : FeederId) : f ∈ FeederId.all := by cases f <;> decide

theorem allFeeders_iff (s : State) (test : FeederRec → Bool) :
    allFeeders s test = true ↔ ∀ f, test (s.sq f) = true := by
  simp [allFeeders, FeederId.mem_all]

theorem restartBlocked_iff (s : State) :
    restartBlocked s = true ↔
      ∃ f, (s.sq f).state = .tripping
        ∨ ((s.sq f).state = .lockout ∧ (s.sq f).lockoutCause = some .breakerFailure) := by
  rw [restartBlocked, Bool.not_eq_true', Bool.eq_false_iff, ne_eq, allFeeders_iff, not_forall]
  refine exists_congr fun f => ?_
  simp
  tauto

/-- RESTART outside reset, by its checks (R186). -/
theorem exec_restart {k : Ticket} {s : State} (hr : s.inReset = false) :
    exec (.restart k) s =
      .next
        (checked k .restart [stationOnly k, configOnly s, (restartBlocked s, .refusedState)] warmRestart
          (takeRequest k .restart s)) := by
  obtain ⟨q, hq⟩ := takeRequest_eq k .restart s
  refine (taking_eq hr _ _ _).trans ?_
  rw [hq]
  rfl

theorem warmRestart_feeder (s : State) (f : FeederId) : (warmRestart s).feeder f = (s.feeder f).warm := by
  simp [warmRestart, State.feeder]

theorem warmRestart_port (s : State) (p : Port) : (warmRestart s).port p = (s.port p).warm := by
  simp [warmRestart, State.port]

theorem warmRestart_tie (s : State) (i : Tie) : (warmRestart s).tie i = (s.tie i).warm := by
  simp [warmRestart, State.tie]

/-- After a warm restart the RESTART report stands alone (R186). -/
theorem warmRestart_reports (s : State) :
    (warmRestart s).reports.map (fun q => (q.record.kind, q.record.source, q.record.value1))
        = [(.restart, .device, some 2)]
      ∧ (warmRestart s).loss = 0 := by
  unfold warmRestart
  obtain ⟨hrep, hloss⟩ := submit_of_room .restart .device none (some 2) none
    (s := { s with
      ports := s.ports.map PortRec.warm
      feeders := s.feeders.map FeederUnit.warm
      rectIntake := RectIntake.fresh
      rect := s.rect.warm
      ties := s.ties.map TieRec.warm
      reports := []
      loss := 0
      slots := PerSlot.const Slot.free
      requests := []
      simAc := SimDevice.start }) (by simp)
  rw [hrep, hloss]
  simp

/-- Settles O56: RESTART by its checks, and the warm-restart value of every block. -/
theorem warmRestartTaken : Obligations.WarmRestartTaken := by
  refine ⟨fun k s hr hk hm hfree => ?_,
    fun k s hr => ⟨fun hk => ?_, fun hk hm => ?_, fun hk hm hb => ?_⟩⟩
  · obtain ⟨q, hq⟩ := takeRequest_eq k .restart s
    refine ⟨warmRestart (takeRequest k .restart s), ?_, ?_⟩
    · have hnot : restartBlocked s = false := by
        rw [Bool.eq_false_iff, ne_eq, restartBlocked_iff]
        rintro ⟨f, h | h⟩
        · exact (hfree f).1 h
        · exact (hfree f).2 h
      rw [exec_restart hr, checked_of_accepted]
      simp [firstRefusal, stationOnly_fst hk, configOnly, hm, hnot]
    · rw [hq]
      obtain ⟨hrep, hloss⟩ := warmRestart_reports { s with requests := q }
      refine ⟨fun f => ?_, warmRestart_port _, warmRestart_tie _, ?_, ?_, fun f => ?_, ?_⟩
      · simp [State.sq, warmRestart_feeder, FeederUnit.warm, FeederUnit.cold]
        exact ⟨rfl, rfl, rfl⟩
      · simp [warmRestart]
      · simp [warmRestart, RectRec.warm, RectRec.clearSums]
      · simp [warmRestart_feeder, FeederUnit.warm, FeederUnit.cold]
      · exact ⟨by simp [warmRestart], rfl, rfl, rfl, rfl, rfl, rfl, rfl, rfl, rfl, hloss, rfl, rfl, rfl,
          rfl, rfl, hrep⟩
  all_goals rw [exec_restart hr, checked_of_refused]
  · simp [firstRefusal, stationOnly, hk]
  · simp [firstRefusal, stationOnly_fst hk, configOnly, hm]
  · simp [firstRefusal, stationOnly_fst hk, configOnly, hm, (restartBlocked_iff s).mpr hb]

end Sys2Proof.Machine
end

section
/-! PROOF. A tie port that enters LOST (R147, R148): what the service of one feeder reaches, said once, and
from it what is left when every feeder has been told of the tie going DOWN. -/

namespace Sys2Proof.Machine

set_option Elab.async false

/-- What the service of feeder `f` leaves alone between two states. Beside the feeder it may reach the group,
the field port and the reports; and through the group, when it leaves PROBE, it may start the latched tests
of others (R132, R133). -/
structure FeederServed (f : FeederId) (s t : State) : Prop where
  ties : t.ties = s.ties
  ports : ∀ p, p ≠ .fp → t.port p = s.port p
  reports : s.reports <+: t.reports
  entries : ∀ g x, (t.feeder g).entry = some x → (s.feeder g).entry = some x
  /-- A feeder with no latched test gets none and is not reached. -/
  unlatched : ∀ g, g ≠ f → s.rect.latched.get g = false →
    t.rect.latched.get g = false ∧ t.feeder g = s.feeder g
  /-- A group RUNNING stays so, and no other feeder is reached. -/
  running : s.rect.state = .running → t.rect.state = .running ∧ ∀ g, g ≠ f → t.feeder g = s.feeder g

/-- The feeder whose breaker unit a command is for. -/
def FieldCommand.feeder? : FieldCommand → Option FeederId
  | .breaker f _ => some f
  | .testContactor f _ => some f
  | .firingSet _ => none
  | .acBreaker _ => none

theorem offerField_feeder_ne {c : FieldCommand} {g : FeederId} (h : c.feeder? ≠ some g) (s : State) :
    (offerField c s).feeder g = s.feeder g := by
  by_cases hm : s.mode = .replay
  · rw [offerField_replay hm]
    cases c with
    | breaker f b => exact State.setFeeder_feeder_ne _ _ fun hg => h (congrArg some hg.symm)
    | testContactor f b => exact State.setFeeder_feeder_ne _ _ fun hg => h (congrArg some hg.symm)
    | firingSet x => rfl
    | acBreaker b => rfl
  · obtain ⟨r, hr⟩ := offerField_port_only (c := c) hm
    rw [hr]; rfl

@[simp] theorem offerField_entry (c : FieldCommand) (s : State) (f : FeederId) :
    ((offerField c s).feeder f).entry = (s.feeder f).entry := by
  by_cases hm : s.mode = .replay
  · rw [offerField_replay hm]
    cases c with
    | breaker g b => by_cases hf : f = g <;> simp [simCommand, State.setFeeder_feeder_ne, *]
    | testContactor g b => by_cases hf : f = g <;> simp [simCommand, State.setFeeder_feeder_ne, *]
    | firingSet x => rfl
    | acBreaker b => rfl
  · obtain ⟨r, hr⟩ := offerField_port_only (c := c) hm
    rw [hr]; rfl

/-- A command offered reaches no other port than the field port (R13). -/
theorem offerField_port_ne (c : FieldCommand) (s : State) {p : Port} (h : p ≠ .fp) :
    (offerField c s).port p = s.port p := by
  by_cases hm : s.mode = .replay
  · rw [offerField_replay hm]; cases c <;> rfl
  · obtain ⟨r, hr⟩ := offerField_port_only (c := c) hm
    rw [hr]; exact State.setPort_port_ne _ _ h

theorem submit_reports_prefix (k : ReportKind) (src : Source) (c : Option Cause) (v w : Option Int)
    (s : State) : s.reports <+: (submit k src c v w s).reports := by
  unfold submit
  split
  · exact List.prefix_append _ _
  · exact List.prefix_refl _

namespace FeederServed

variable {f : FeederId} {s t u : State} {c : FieldCommand}

/-! Chains -/

theorem refl : FeederServed f s s :=
  ⟨rfl, fun _ _ => rfl, List.prefix_refl _, fun _ _ h => h, fun _ _ h => ⟨h, rfl⟩,
    fun h => ⟨h, fun _ _ => rfl⟩⟩

theorem trans (h : FeederServed f s t) (h' : FeederServed f t u) : FeederServed f s u where
  ties := h'.ties.trans h.ties
  ports p hp := (h'.ports p hp).trans (h.ports p hp)
  reports := h.reports.trans h'.reports
  entries g x hx := h.entries g x (h'.entries g x hx)
  unlatched g hg hl := by
    obtain ⟨hl1, hf1⟩ := h.unlatched g hg hl
    obtain ⟨hl2, hf2⟩ := h'.unlatched g hg hl1
    exact ⟨hl2, hf2.trans hf1⟩
  running hr := by
    obtain ⟨hr1, hf1⟩ := h.running hr
    obtain ⟨hr2, hf2⟩ := h'.running hr1
    exact ⟨hr2, fun g hg => (hf2 g hg).trans (hf1 g hg)⟩

theorem ite {cond : Prop} {dec : Decidable cond} (ht : FeederServed f s t) (hu : FeederServed f s u) :
    FeederServed f s (if cond then t else u) := by split <;> assumption

theorem thenIf {cond : Prop} {dec : Decidable cond} (h : FeederServed f s t) (h' : FeederServed f t u) :
    FeederServed f s (if cond then u else t) := ite (h.trans h') h

theorem thenUnless {cond : Prop} {dec : Decidable cond} (h : FeederServed f s t)
    (h' : FeederServed f t u) : FeederServed f s (if cond then t else u) := ite h (h.trans h')

theorem not_running (h : FeederServed f s t) (ht : t.rect.state ≠ .running) : s.rect.state ≠ .running :=
  fun hs => ht (h.running hs).1

/-- A change of the feeder's own unit, which gives it no new entry. -/
theorem setFeeder {r : FeederUnit} (h : FeederServed f s t)
    (hr : ∀ x, r.entry = some x → (t.feeder f).entry = some x) : FeederServed f s (t.setFeeder f r) :=
  h.trans
    { ties := rfl
      ports := fun _ _ => rfl
      reports := List.prefix_refl _
      entries := fun g x hx => by
        by_cases hg : g = f
        · subst hg; exact hr x (by simpa using hx)
        · rwa [State.setFeeder_feeder_ne _ _ hg] at hx
      unlatched := fun g hg hl => ⟨hl, State.setFeeder_feeder_ne _ _ hg⟩
      running := fun hs => ⟨hs, fun g hg => State.setFeeder_feeder_ne _ _ hg⟩ }

theorem setSq {r : FeederRec} (h : FeederServed f s t) : FeederServed f s (t.setSq f r) :=
  h.setFeeder fun _ hx => hx

theorem setProt {r : Protection} (h : FeederServed f s t) : FeederServed f s (t.setProt f r) :=
  h.setFeeder fun _ hx => hx

/-- A change that leaves the feeders, the group's state and the latched tests of the others. -/
theorem beside (h : FeederServed f s t) (hties : u.ties = t.ties)
    (hports : ∀ p, p ≠ .fp → u.port p = t.port p) (hreports : t.reports <+: u.reports)
    (hentries : ∀ g, (u.feeder g).entry = (t.feeder g).entry)
    (hfeeders : ∀ g, g ≠ f → u.feeder g = t.feeder g) (hstate : u.rect.state = t.rect.state)
    (hlatched : ∀ g, g ≠ f → u.rect.latched.get g = t.rect.latched.get g) : FeederServed f s u :=
  h.trans
    { ties := hties
      ports := hports
      reports := hreports
      entries := fun g x hx => by rwa [hentries g] at hx
      unlatched := fun g hg hl => ⟨(hlatched g hg).trans hl, hfeeders g hg⟩
      running := fun hs => ⟨hstate.trans hs, hfeeders⟩ }

theorem setRect {r : RectRec} (h : FeederServed f s t) (hstate : r.state = t.rect.state)
    (hlatched : ∀ g, g ≠ f → r.latched.get g = t.rect.latched.get g) :
    FeederServed f s (t.setRect r) :=
  h.beside rfl (fun _ _ => rfl) (List.prefix_refl _) (fun _ => rfl) (fun _ _ => rfl) hstate hlatched

/-- A change of the group that keeps its state and its latched tests. -/
theorem adjustRect {r : RectRec} (h : FeederServed f s t) (hstate : r.state = t.rect.state := by rfl)
    (hlatched : r.latched = t.rect.latched := by rfl) : FeederServed f s (t.setRect r) :=
  h.setRect hstate fun _ _ => by rw [hlatched]

/-- A change of the group's state from one that is not RUNNING. -/
theorem setRectState {r : RectRec} (h : FeederServed f s t) (hn : s.rect.state ≠ .running)
    (hlatched : r.latched = t.rect.latched) : FeederServed f s (t.setRect r) where
  ties := h.ties
  ports := h.ports
  reports := h.reports
  entries := h.entries
  unlatched g hg hl := by
    obtain ⟨hl1, hf1⟩ := h.unlatched g hg hl
    exact ⟨by rw [← hl1, ← hlatched]; rfl, hf1⟩
  running hr := absurd hr hn

theorem submit {kind : ReportKind} {src : Source} {x : Option Cause} {v w : Option Int}
    (h : FeederServed f s t) : FeederServed f s (submit kind src x v w t) :=
  h.beside (submit_ties ..) (fun _ _ => submit_port ..) (submit_reports_prefix ..)
    (fun _ => congrArg FeederUnit.entry (submit_feeder ..)) (fun _ _ => submit_feeder ..)
    (by rw [submit_rect]) fun g _ => by rw [submit_rect]

/-- A command offered for the feeder or for the group. -/
theorem offerField (h : FeederServed f s t) (hc : ∀ g, g ≠ f → c.feeder? ≠ some g) :
    FeederServed f s (offerField c t) :=
  h.beside (offerField_ties ..) (fun _ hp => offerField_port_ne _ _ hp)
    (by rw [offerField_reports]) (fun g => offerField_entry c t g)
    (fun g hg => offerField_feeder_ne (hc g hg) _) (by rw [offerField_rect]) fun g _ => by
      rw [offerField_rect]

theorem withdrawLatched (h : FeederServed f s t) : FeederServed f s (withdrawLatched f t) :=
  h.setRect rfl fun _ hg => PerFeeder.get_set_ne _ _ hg

theorem addTester (h : FeederServed f s t) : FeederServed f s (addTester f t) :=
  h.adjustRect

theorem dropTester (h : FeederServed f s t) : FeederServed f s (dropTester f t) :=
  h.adjustRect

theorem offerContactor {close : Bool} (h : FeederServed f s t) :
    FeederServed f s (offerSeq (.testContactor f close) t) :=
  h.thenUnless (refl.offerField fun _ hg he => hg (Option.some.inj he).symm)

/-! The feeder's record -/

theorem enterCore {new : FeederState} {cause : Option LockoutCause} (h : FeederServed f s t) :
    FeederServed f s (enterCore f new cause t) := (h.thenIf refl.withdrawLatched).setSq.thenIf refl.setProt

theorem startCloseTimer (h : FeederServed f s t) : FeederServed f s (startCloseTimer f t) := h.setSq

theorem recordResult {x : LastResult} (h : FeederServed f s t) : FeederServed f s (recordResult f x t) :=
  h.setSq.submit

theorem enterPhase {ph : Phase} {timer : Timer} (h : FeederServed f s t) :
    FeederServed f s (enterPhase f ph timer t) :=
  (h.thenUnless refl.enterCore).setSq.thenUnless refl.submit

theorem abortEffects {reason : AbortReason} {uAvg ubAvg : Option Nat} (h : FeederServed f s t) :
    FeederServed f s (abortEffects f reason uAvg ubAvg t) :=
  (h.setSq.thenIf refl.offerContactor).recordResult

theorem giveShotBack (h : FeederServed f s t) : FeederServed f s (giveShotBack f t) := ite h.setSq h

theorem returnAfterFlag (h : FeederServed f s t) : FeederServed f s (returnAfterFlag f t) := by
  unfold Machine.returnAfterFlag
  dsimp only
  split
  · exact h.giveShotBack.enterPhase
  split
  · exact h.enterPhase
  · exact h.enterPhase
  · exact h.enterPhase

theorem enterTesting {kind : TestKind} {origin : Option TestOrigin} (h : FeederServed f s t) :
    FeederServed f s (enterTesting f kind origin t) := h.enterCore.setSq.submit

theorem beginContactorCheck (h : FeederServed f s t) : FeederServed f s (beginContactorCheck f t) :=
  ite h.setSq h.offerContactor.startCloseTimer

theorem startTest {kind : TestKind} {origin : Option TestOrigin} (h : FeederServed f s t) :
    FeederServed f s (startTest f kind origin t) := h.addTester.enterTesting.beginContactorCheck

/-! The group -/

theorem offerGroup {force : Bool} (h : FeederServed f s t) (hc : c.feeder? = none) :
    FeederServed f s (offerRect force c t) :=
  h.thenUnless (refl.offerField fun _ _ he => by simp [hc] at he)

theorem offerBlocked {force : Bool} (h : FeederServed f s t) :
    FeederServed f s (offerBlocked force t) :=
  (h.beside (u := { t with freeCount := t.freeCount + 1 }) rfl (fun _ _ => rfl) (List.prefix_refl _)
    (fun _ => rfl) (fun _ _ => rfl) rfl fun _ _ => rfl).offerGroup rfl

theorem rectMove {new : RectState} {cause : RectCause} (h : FeederServed f s t)
    (hn : s.rect.state ≠ .running) : FeederServed f s (rectMove new cause t) :=
  ((h.setRectState hn (by rfl)).thenIf refl.offerBlocked).submit

theorem enterRest {target : RestState} {cause : RectCause} (h : FeederServed f s t)
    (hn : s.rect.state ≠ .running) : FeederServed f s (enterRest target cause t) := by
  cases target
  · exact h.rectMove hn
  · exact ((h.rectMove hn).offerGroup rfl).adjustRect

theorem enterStarting (h : FeederServed f s t) (hn : s.rect.state ≠ .running) :
    FeederServed f s (enterStarting t) :=
  (((h.adjustRect.offerGroup rfl).rectMove hn).adjustRect).thenIf
    (refl.adjustRect)

theorem startLatched (h : FeederServed f s t) : FeederServed f s (startLatched f t) :=
  ite
    (ite h.withdrawLatched.addTester.setSq.enterTesting.abortEffects.dropTester.returnAfterFlag
      h.withdrawLatched.addTester.setSq.enterTesting.beginContactorCheck)
    h

/-- The start of the latched tests reaches the feeders that have one (R132). -/
theorem startAllLatched (h : FeederServed f s t) (hn : s.rect.state ≠ .running) :
    FeederServed f s (startAllLatched t) := by
  refine forFeeders_induct (P := FeederServed f s) (fun g v hv => ?_) h
  by_cases hl : v.rect.latched.get g = true
  · have hg : FeederServed g v (Machine.startLatched g v) := refl.startLatched
    exact
      { ties := hg.ties.trans hv.ties
        ports := fun p hp => (hg.ports p hp).trans (hv.ports p hp)
        reports := hv.reports.trans hg.reports
        entries := fun e x hx => hv.entries e x (hg.entries e x hx)
        unlatched := fun e he hle => by
          obtain ⟨hl1, hf1⟩ := hv.unlatched e he hle
          have hne : e ≠ g := by rintro rfl; simp [hl] at hl1
          obtain ⟨hl2, hf2⟩ := hg.unlatched e hne hl1
          exact ⟨hl2, hf2.trans hf1⟩
        running := fun hr => absurd hr hn }
  · rw [Machine.startLatched, if_neg hl]; exact hv

theorem probeEnd (h : FeederServed f s t) (hn : s.rect.state ≠ .running) :
    FeederServed f s (probeEnd t) := ite ((h.rectMove hn).startAllLatched hn) (h.enterRest hn)

theorem leaveTesting (h : FeederServed f s t) : FeederServed f s (leaveTesting f t) := by
  refine h.thenIf ?_
  have hdrop : FeederServed f t (Machine.dropTester f t) := refl.dropTester
  dsimp only
  split
  · next hp => exact hdrop.probeEnd (hdrop.not_running (by simp [hp.1]))
  · exact hdrop

theorem enterState {new : FeederState} {cause : Option LockoutCause} (h : FeederServed f s t) :
    FeederServed f s (enterState f new cause t) := (h.thenIf refl.leaveTesting).enterCore

/-- A lockout that asks for no SECTION_HOLD. -/
theorem lockout {cause : LockoutCause} {offered : Bool} (h : FeederServed f s t)
    (hc : cause.holds = false) : FeederServed f s (lockout f cause offered t) := by
  unfold Machine.lockout
  rw [hc]
  exact (h.thenIf refl.offerContactor).enterState.setSq.submit

/-! Test requests and intertrips -/

theorem probeFromHold (h : FeederServed f s t) (hn : s.rect.state ≠ .running) :
    FeederServed f s (probeFromHold t) := (h.rectMove hn).adjustRect

theorem latchTest (h : FeederServed f s t) (hn : s.rect.state ≠ .running) :
    FeederServed f s (latchTest f t) := by
  refine ite h ?_
  have hset := h.setRect (r := { t.rect with latched := t.rect.latched.set f true }) rfl
    fun _ hg => PerFeeder.get_set_ne _ _ hg
  exact ite (hset.enterStarting hn) hset

theorem awaitSupply {origin : TestOrigin} (h : FeederServed f s t) (hn : s.rect.state ≠ .running) :
    FeederServed f s (awaitSupply f origin t) := h.enterPhase.setSq.latchTest hn

theorem testRequest {origin : TestOrigin} (h : FeederServed f s t) :
    FeederServed f s (testRequest f origin t) := by
  unfold Machine.testRequest
  refine ite h.setSq.abortEffects.returnAfterFlag
    (ite h.setSq.abortEffects.returnAfterFlag (ite h.enterPhase.setSq ?_))
  have hn : t.rect.state ≠ .running → s.rect.state ≠ .running := h.not_running
  cases hs : t.rect.state with
  | running => exact h.startTest
  | probe => exact h.startTest
  | hold => exact (h.probeFromHold (hn (by simp [hs]))).startTest
  | parked => exact h.awaitSupply (hn (by simp [hs]))
  | starting => exact h.awaitSupply (hn (by simp [hs]))
  | faulted => exact h.awaitSupply (hn (by simp [hs]))

theorem farEndDown (h : FeederServed f s t) : FeederServed f s (farEndDown f t) :=
  h.setSq.testRequest.submit

theorem intertripFailNotice (h : FeederServed f s t) : FeederServed f s (intertripFailNotice f t) := by
  unfold Machine.intertripFailNotice
  dsimp only
  split
  · exact h.setSq
  · exact h.lockout rfl
  · exact ite (h.lockout rfl) (h.abortEffects.leaveTesting.giveShotBack.lockout rfl)
  all_goals exact h

theorem failEntryOn {k : Tie} (h : FeederServed f s t) : FeederServed f s (failEntryOn k f t) := by
  unfold Machine.failEntryOn
  split
  · exact h.thenIf (refl.setFeeder fun _ hx => by cases hx).submit.intertripFailNotice
  · exact h

theorem downNotice {k : Tie} (h : FeederServed f s t) : FeederServed f s (downNotice k f t) :=
  h.thenIf refl.farEndDown

end FeederServed

/-! Every feeder served in turn -/

/-- What the services of the other feeders keep, and the service of `f` turns into something they keep too,
holds when every feeder has been served. -/
theorem forFeeders_turn {g : FeederId → State → State} {f : FeederId} {Pre Post : State → Prop}
    (before : ∀ e, e ≠ f → ∀ s, Pre s → Pre (g e s)) (turn : ∀ s, Pre s → Post (g f s))
    (after : ∀ e, e ≠ f → ∀ s, Post s → Post (g e s)) {s : State} (hs : Pre s) :
    Post (forFeeders g s) := by
  have hnodup : FeederId.all.Nodup := by decide
  obtain ⟨a, b, hab⟩ := List.append_of_mem (FeederId.mem_all f)
  rw [hab, List.nodup_append, List.nodup_cons] at hnodup
  obtain ⟨-, ⟨hb, -⟩, ha⟩ := hnodup
  rw [forFeeders, hab, List.foldl_append, List.foldl_cons]
  have hpre : Pre (a.foldl (fun st e => g e st) s) :=
    List.foldlRecOn a _ hs fun v hv e he => before e (ha e he f List.mem_cons_self) v hv
  refine List.foldlRecOn b _ (turn _ hpre) fun v hv e he => after e ?_ v hv
  rintro rfl
  exact hb he

/-- What no service of a feeder changes, the service of every feeder leaves. -/
theorem forFeeders_served {g : FeederId → State → State}
    (hg : ∀ f s, FeederServed f s (g f s)) (s : State) :
    (forFeeders g s).ties = s.ties
      ∧ (∀ p, p ≠ .fp → (forFeeders g s).port p = s.port p)
      ∧ s.reports <+: (forFeeders g s).reports
      ∧ ∀ f x, ((forFeeders g s).feeder f).entry = some x → (s.feeder f).entry = some x := by
  refine forFeeders_induct
    (P := fun t => t.ties = s.ties ∧ (∀ p, p ≠ .fp → t.port p = s.port p) ∧ s.reports <+: t.reports
      ∧ ∀ f x, (t.feeder f).entry = some x → (s.feeder f).entry = some x) (fun f t ht => ?_)
    ⟨rfl, fun _ _ => rfl, List.prefix_refl _, fun _ _ h => h⟩
  obtain ⟨hties, hports, hreports, hentries⟩ := ht
  have h := hg f t
  exact ⟨h.ties.trans hties, fun p hp => (h.ports p hp).trans (hports p hp),
    hreports.trans h.reports, fun e x hx => hentries e x (h.entries e x hx)⟩

/-! Reports that stand -/

theorem reported_submit (k : ReportKind) (src : Source) (c : Option Cause) (v w : Option Int) {s : State}
    (h : s.reports.length < 64) : Reported (submit k src c v w s) k src c v w := by
  rw [Reported, (submit_of_room k src c v w h).1]
  exact ⟨_, List.mem_append_right _ List.mem_cons_self, rfl, rfl, rfl, rfl, rfl⟩

theorem Reported.mono {s t : State} {k : ReportKind} {src : Source} {c : Option Cause}
    {v w : Option Int} (h : Reported s k src c v w) (hst : s.reports <+: t.reports) :
    Reported t k src c v w := by
  obtain ⟨q, hq, hrec⟩ := h
  exact ⟨q, hst.subset hq, hrec⟩

/-! The two services of a tie going DOWN -/

section

variable {k : Tie} {f : FeederId} {s : State}

/-- An entry on the tie is removed (R153). -/
theorem failEntryOn_entry {x : Entry} (h : ((failEntryOn k f s).feeder f).entry = some x) :
    x.tie ≠ k := by
  unfold failEntryOn at h
  split at h
  · next e he =>
    by_cases hk : e.tie = k
    · rw [if_pos hk] at h
      have hs : FeederServed f (submit .intertripFailed (.feeder f) (some e.cause.cause)
          (some e.sectionId) (some InterFail.linkDown.code)
          (s.setFeeder f { s.feeder f with entry := none }))
            (intertripFail f e.cause e.sectionId .linkDown s) :=
        FeederServed.refl.intertripFailNotice
      simpa using hs.entries f x h
    · rw [if_neg hk, he] at h
      cases h
      exact hk
  · next he => rw [he] at h; cases h

/-- A TRIPPING feeder is marked when its entry fails (R95). -/
theorem failEntryOn_of_tripping {x : Entry} (he : (s.feeder f).entry = some x) (hx : x.tie = k)
    (hs : (s.sq f).state = .tripping) :
    (failEntryOn k f s).sq f = { s.sq f with intertripFailed := true }
      ∧ (failEntryOn k f s).rect = s.rect := by
  have hs' : ((s.feeder f).sq).state = .tripping := hs
  simp [failEntryOn, he, hx, intertripFail, intertripFailNotice, State.sq, hs']

/-- A feeder in TESTING for a test just started (R107). -/
structure FeederRec.TestStarted (kind : TestKind) (origin : Option TestOrigin) (r : FeederRec) : Prop where
  state : r.state = .testing
  kind : r.test.kind = some kind
  origin : r.test.origin = origin
  dead : r.dead = none

theorem offerSeq_sq (c : FieldCommand) (s : State) (g : FeederId) : (offerSeq c s).sq g = s.sq g := by
  unfold offerSeq; split <;> simp

/-- A test that starts leaves its feeder in TESTING, whatever becomes of the contactor (R107). -/
theorem startTest_sq (f : FeederId) (kind : TestKind) (origin : Option TestOrigin) (s : State) :
    ((startTest f kind origin s).sq f).TestStarted kind origin := by
  have hsq : ((enterTesting f kind origin (addTester f s)).sq f).TestStarted kind origin := by
    constructor <;> simp [enterTesting, reportFeederState, enterCore_sq, FeederRec.entered]
  unfold startTest beginContactorCheck
  dsimp only
  split
  · obtain ⟨h1, h2, h3, h4⟩ := hsq
    constructor <;> simp [*]
  · obtain ⟨h1, h2, h3, h4⟩ := hsq
    constructor <;> simp [startCloseTimer, offerSeq_sq, *]

/-- A request that nothing delays is served at once by a group RUNNING (R101). -/
theorem testRequest_of_running {origin : TestOrigin} (hb : (s.sq f).blind = false)
    (hf : (s.sq f).frozen = false) (ht : (s.feeder f).prot.theta ≤ thetaReclose s f)
    (hr : s.rect.state = .running) :
    testRequest f origin s = startTest f .auto (some origin) s := by
  simp [testRequest, hb, hf, Nat.not_lt.mpr ht, hr]

/-- A unit that waits for the far end on tie `k` with nothing to keep it from its test (R101, R104). -/
structure FeederUnit.AwaitsFarEnd (k : Tie) (u : FeederUnit) : Prop where
  tie : u.section_.tie = some k
  entry : u.entry = none
  state : u.sq.state = .deadTime
  phase : u.sq.phase = some .awaitingFarEnd
  blind : u.sq.blind = false
  frozen : u.sq.frozen = false
  theta : u.prot.theta ≤ thetaOf u.row.prot.iReclose

theorem failEntryOn_of_awaiting (h : (s.feeder f).AwaitsFarEnd k) : failEntryOn k f s = s := by
  simp [failEntryOn, h.entry]

/-- The notice starts the test of a feeder that waits when the group is RUNNING (R101, R104). -/
theorem downNotice_of_awaiting (h : (s.feeder f).AwaitsFarEnd k) (hr : s.rect.state = .running) :
    ((downNotice k f s).sq f).TestStarted .auto (some .awaitingFarEnd) := by
  obtain ⟨htie, -, hstate, hphase, hblind, hfrozen, htheta⟩ := h
  have hacts : sectionTie s f = some k ∧ (s.sq f).state = .deadTime
      ∧ (s.sq f).phase = some .awaitingFarEnd := ⟨htie, hstate, hphase⟩
  unfold downNotice
  rw [if_pos hacts, farEndDown, submit_sq]
  have hblind' : (s.sq f).blind = false := hblind
  have hfrozen' : (s.sq f).frozen = false := hfrozen
  rw [testRequest_of_running (by simpa using hblind') (by simpa using hfrozen')
    (by simpa [thetaReclose] using htheta) (by simpa using hr)]
  exact startTest_sq _ _ _ _

end

/-! A tie that goes DOWN -/

section

variable {k : Tie} {why : Int} {f : FeederId} {s : State}

/-- The link recorded DOWN and reported, before any feeder is served (R147, R148). -/
def linkDown (k : Tie) (why : Int) (s : State) : State :=
  submit .tieDown (.tie k) none (some why) none (s.setTie k (s.tie k).down)

/-- Outside REPLAY the entries on the tie fail before the feeders are notified (R148, R159). -/
theorem tieGoesDown_eq (h : s.mode ≠ .replay) :
    tieGoesDown k why s = forFeeders (downNotice k) (forFeeders (failEntryOn k) (linkDown k why s)) := by
  have hm : (linkDown k why s).mode ≠ .replay := by simpa [linkDown] using h
  exact congrArg (forFeeders (downNotice k)) (if_neg hm)

theorem tieGoesDown_eq_of_replay (h : s.mode = .replay) :
    tieGoesDown k why s = forFeeders (downNotice k) (linkDown k why s) := by
  have hm : (linkDown k why s).mode = .replay := by simpa [linkDown] using h
  exact congrArg (forFeeders (downNotice k)) (if_pos hm)

/-- A tie going DOWN changes the ties by its own record, and no port but the field port; its reports follow
TIE_DOWN. -/
theorem tieGoesDown_frame (k : Tie) (why : Int) (s : State) :
    (tieGoesDown k why s).ties = (linkDown k why s).ties
      ∧ (∀ p, p ≠ .fp → (tieGoesDown k why s).port p = s.port p)
      ∧ (linkDown k why s).reports <+: (tieGoesDown k why s).reports := by
  have hport : ∀ p, (linkDown k why s).port p = s.port p := fun p => by simp [linkDown]
  have hnotice := forFeeders_served fun f s => (FeederServed.refl (f := f) (s := s)).downNotice (k := k)
  have hfail := forFeeders_served fun f s => (FeederServed.refl (f := f) (s := s)).failEntryOn (k := k)
  by_cases hm : s.mode = .replay
  · rw [tieGoesDown_eq_of_replay hm]
    obtain ⟨hties, hports, hreports, -⟩ := hnotice (linkDown k why s)
    exact ⟨hties, fun p hp => (hports p hp).trans (hport p), hreports⟩
  · rw [tieGoesDown_eq hm]
    obtain ⟨hties, hports, hreports, -⟩ := hfail (linkDown k why s)
    obtain ⟨hties', hports', hreports', -⟩ := hnotice (forFeeders (failEntryOn k) (linkDown k why s))
    exact ⟨hties'.trans hties, fun p hp => (hports' p hp).trans ((hports p hp).trans (hport p)),
      hreports.trans hreports'⟩

/-- No entry on a tie outlasts its going DOWN (R148). -/
theorem tieGoesDown_entry (hm : s.mode ≠ .replay) {x : Entry}
    (h : ((tieGoesDown k why s).feeder f).entry = some x) : x.tie ≠ k := by
  have hfailed : ∀ y, ((forFeeders (failEntryOn k) (linkDown k why s)).feeder f).entry = some y →
      y.tie ≠ k :=
    forFeeders_turn (f := f) (Pre := fun _ => True)
      (Post := fun t => ∀ y, (t.feeder f).entry = some y → y.tie ≠ k)
      (fun _ _ _ _ => trivial) (fun _ _ _ => failEntryOn_entry)
      (fun _ _ _ hv y hy => hv y (FeederServed.refl.failEntryOn.entries f y hy)) trivial
  rw [tieGoesDown_eq hm] at h
  obtain ⟨-, -, -, hentries⟩ :=
    forFeeders_served (fun f s => (FeederServed.refl (f := f) (s := s)).downNotice (k := k))
      (forFeeders (failEntryOn k) (linkDown k why s))
  exact hfailed x (hentries f x h)

/-- A TRIPPING feeder marked by a failed intertrip, with no latched test. -/
structure TripMarked (f : FeederId) (t : State) : Prop where
  latched : t.rect.latched.get f = false
  state : (t.sq f).state = .tripping
  mark : (t.sq f).intertripFailed = true

theorem TripMarked.served {e : FeederId} {t u : State} (h : TripMarked f t) (hne : f ≠ e)
    (hs : FeederServed e t u) : TripMarked f u := by
  obtain ⟨hlatched, hfeeder⟩ := hs.unlatched f hne h.latched
  have hsq : u.sq f = t.sq f := congrArg FeederUnit.sq hfeeder
  exact ⟨hlatched, hsq ▸ h.state, hsq ▸ h.mark⟩

/-- A TRIPPING feeder whose entry stood on the tie is marked (R95, R153). -/
theorem tieGoesDown_tripping (hm : s.mode ≠ .replay) {x : Entry} (he : (s.feeder f).entry = some x)
    (hx : x.tie = k) (hs : (s.sq f).state = .tripping) (hl : s.rect.latched.get f = false) :
    ((tieGoesDown k why s).sq f).intertripFailed = true := by
  have hfailed : TripMarked f (forFeeders (failEntryOn k) (linkDown k why s)) := by
    refine forFeeders_turn (f := f)
      (Pre := fun t => t.rect.latched.get f = false ∧ t.feeder f = s.feeder f) ?_ ?_ ?_
      ⟨by simpa [linkDown] using hl, by simp [linkDown]⟩
    · rintro e hne t ⟨htl, htf⟩
      obtain ⟨hl', hf'⟩ :=
        (FeederServed.refl (f := e) (s := t)).failEntryOn (k := k) |>.unlatched f hne.symm htl
      exact ⟨hl', hf'.trans htf⟩
    · rintro t ⟨htl, htf⟩
      have hsq : t.sq f = s.sq f := congrArg FeederUnit.sq htf
      obtain ⟨hmark, hrect⟩ := failEntryOn_of_tripping (htf ▸ he) hx (hsq ▸ hs)
      exact ⟨hrect ▸ htl, by rw [hmark]; exact hsq ▸ hs, by rw [hmark]⟩
    · exact fun e hne t ht => ht.served hne.symm FeederServed.refl.failEntryOn
  rw [tieGoesDown_eq hm]
  have hnotice : TripMarked f
      (forFeeders (downNotice k) (forFeeders (failEntryOn k) (linkDown k why s))) := by
    refine forFeeders_induct (P := TripMarked f) (fun e t ht => ?_) hfailed
    by_cases hne : f = e
    · subst hne
      simpa [downNotice, ht.state] using ht
    · exact ht.served hne FeederServed.refl.downNotice
  exact hnotice.mark

/-- A group RUNNING while a feeder waits for the far end on the tie. -/
structure AwaitedRunning (k : Tie) (f : FeederId) (t : State) : Prop where
  running : t.rect.state = .running
  awaits : (t.feeder f).AwaitsFarEnd k

theorem AwaitedRunning.served {e : FeederId} {t u : State} (h : AwaitedRunning k f t) (hne : f ≠ e)
    (hs : FeederServed e t u) : AwaitedRunning k f u := by
  obtain ⟨hrunning, hfeeders⟩ := hs.running h.running
  exact ⟨hrunning, hfeeders f hne ▸ h.awaits⟩

/-- A feeder that waits for the far end on the tie has its test started by a group RUNNING (R104). -/
theorem tieGoesDown_awaiting (h : AwaitedRunning k f s) :
    ((tieGoesDown k why s).sq f).TestStarted .auto (some .awaitingFarEnd) := by
  have hdown : AwaitedRunning k f (linkDown k why s) :=
    ⟨by simpa [linkDown] using h.running, by simpa [linkDown] using h.awaits⟩
  have hnotice : ∀ t, AwaitedRunning k f t →
      ((forFeeders (downNotice k) t).sq f).TestStarted .auto (some .awaitingFarEnd) := fun t ht => by
    refine (forFeeders_turn (f := f) (Pre := AwaitedRunning k f)
      (Post := fun u => u.rect.state = .running ∧ (u.sq f).TestStarted .auto (some .awaitingFarEnd))
      (fun e hne u hu => hu.served hne.symm FeederServed.refl.downNotice) (fun u hu => ?_) ?_ ht).2
    · exact ⟨(FeederServed.refl.downNotice.running hu.running).1,
        downNotice_of_awaiting hu.awaits hu.running⟩
    · rintro e hne u ⟨hrunning, htest⟩
      obtain ⟨hrunning', hfeeders⟩ :=
        (FeederServed.refl (f := e) (s := u)).downNotice (k := k) |>.running hrunning
      have hsq : (downNotice k e u).sq f = u.sq f := congrArg FeederUnit.sq (hfeeders f hne.symm)
      exact ⟨hrunning', hsq ▸ htest⟩
  by_cases hm : s.mode = .replay
  · rw [tieGoesDown_eq_of_replay hm]
    exact hnotice _ hdown
  · rw [tieGoesDown_eq hm]
    refine hnotice _ (forFeeders_induct (P := AwaitedRunning k f) (fun e t ht => ?_) hdown)
    by_cases hne : f = e
    · subst hne
      rwa [failEntryOn_of_awaiting ht.awaits]
    · exact ht.served hne FeederServed.refl.failEntryOn

end

/-! An error frame -/

@[simp] theorem State.setTie_putTie (t : State) (k : Tie) (r : TieRec) (s : State) :
    (t.setTie k r).putTie k s = t.putTie k s := by simp [State.putTie]

/-- A port recorded LOST and reported, before its tie controller hears of it (R7). -/
def portLost (p : Port) (e : RxError) (s : State) : State :=
  submit .portLost (.port p) none (some e.code) none
    (s.setPort p { s.port p with state := .lost, recoveryCount := 0 })

theorem portEntersLost_tie (k : Tie) (e : RxError) (s : State) :
    portEntersLost k.port e s = tieLost k (portLost k.port e s) := by cases k <;> rfl

theorem portEntersLost_plain {p : Port} (h : p = .fp ∨ p = .sp) (e : RxError) (s : State) :
    portEntersLost p e s = portLost p e s := by obtain rfl | rfl := h <;> rfl

theorem portLost_setPort (p : Port) (r : PortRec) (e : RxError) (s : State) :
    portLost p e (s.setPort p r)
      = submit .portLost (.port p) none (some e.code) none
          (s.setPort p { r with state := .lost, recoveryCount := 0 }) := by
  rw [portLost, State.setPort_setPort, State.setPort_port_same]

theorem tieLost_of_down {k : Tie} {s : State} (h : (s.tie k).up = false) :
    tieLost k s = s.setTie k { s.tie k with beatCount := 0, gapTimer := none } := by simp [tieLost, h]

theorem tieLost_of_up {k : Tie} {s : State} (h : (s.tie k).up = true) :
    tieLost k s = tieGoesDown k 2 s := by simp [tieLost, h]

/-- The port's share of an error frame, by the state of the port (R6 to R8). -/
theorem errorFrame_good {p : Port} {e : RxError} {s : State} (h : (s.port p).state = .good) :
    let n := min 256 ((s.port p).errorCount + 8)
    let counted := { s.port p with lastError := some e, errorCount := n }
    errorFrame p e s =
      if 128 ≤ n then
        submit .portState (.port p) none (some 2) (some 1)
          (s.setPort p { counted with state := .degraded })
      else s.setPort p counted := by
  simp [errorFrame, h, reportPort]
  rfl

theorem errorFrame_degraded {p : Port} {e : RxError} {s : State} (h : (s.port p).state = .degraded) :
    let n := min 256 ((s.port p).errorCount + 8)
    let counted := { s.port p with lastError := some e, errorCount := n }
    errorFrame p e s =
      if n = 256 then portEntersLost p e (s.setPort p counted) else s.setPort p counted := by
  simp [errorFrame, h]

theorem errorFrame_lost {p : Port} {e : RxError} {s : State} (h : (s.port p).state = .lost) :
    errorFrame p e s =
      s.setPort p
        { s.port p with
          lastError := some e
          recoveryCount := if (s.port p).recoveryCount = 128 then 128 else 0 } := by
  simp [errorFrame, h]

/-- The error frame that brings a tie port to LOST (R6, R7, R147). -/
theorem errorFrame_tie_lost {k : Tie} {e : RxError} {s : State} (hs : (s.port k.port).state = .degraded)
    (hn : 248 ≤ (s.port k.port).errorCount) :
    errorFrame k.port e s =
      tieLost k
        (submit .portLost (.port k.port) none (some e.code) none
          (s.setPort k.port
            { s.port k.port with
              lastError := some e, errorCount := 256, state := .lost, recoveryCount := 0 })) := by
  have hcount : min 256 ((s.port k.port).errorCount + 8) = 256 := by omega
  rw [errorFrame_degraded hs]
  dsimp only
  rw [if_pos hcount, portEntersLost_tie, portLost_setPort, hcount]

theorem linkDown_tie (k : Tie) (why : Int) (s : State) : (linkDown k why s).tie k = (s.tie k).down := by
  simp [linkDown]

/-- A tie going DOWN with room for two reports leaves those that stood, and TIE_DOWN. -/
theorem tieGoesDown_reported (k : Tie) (why : Int) {s : State} (h : s.reports.length < 64) :
    s.reports <+: (tieGoesDown k why s).reports
      ∧ Reported (tieGoesDown k why s) .tieDown (.tie k) none (some why) none := by
  obtain ⟨-, -, hreports⟩ := tieGoesDown_frame k why s
  exact ⟨(submit_reports_prefix .tieDown (.tie k) none (some why) none
      (s.setTie k (s.tie k).down)).trans hreports,
    (reported_submit .tieDown (.tie k) none (some why) none (s := s.setTie k (s.tie k).down) h).mono
      hreports⟩

/-- Settles O14: the port by its state; the tie that is lost with it by the services of the feeders. -/
theorem errorFrameServed : Obligations.ErrorFrameServed := by
  refine ⟨fun p bytes e s hr hc => ⟨errorFrame p e s, congrArg _ (receive_of_error hr hc), ?_⟩,
    fun k bytes e s hr hc hs hn hroom =>
      ⟨errorFrame k.port e s, congrArg _ (receive_of_error hr hc), ?_⟩⟩
  · dsimp only
    split
    · next h =>
      rw [errorFrame_good h]
      dsimp only
      split
      · exact ⟨by simp, submit_setPort_reports .., submit_setPort_putBack ..⟩
      · rfl
    · next h =>
      rw [errorFrame_degraded h]
      dsimp only
      split
      · refine ⟨rfl, fun hp => ?_⟩
        rw [portEntersLost_plain hp, portLost_setPort]
        exact ⟨by simp, submit_setPort_reports .., submit_setPort_putBack ..⟩
      · rfl
    · next h => exact errorFrame_lost h
  · rw [errorFrame_tie_lost hs hn]
    dsimp only
    generalize hlost : ({ s.port k.port with
      lastError := some e, errorCount := 256, state := .lost, recoveryCount := 0 } : PortRec) = lost
    generalize hs0 : submit .portLost (.port k.port) none (some e.code) none (s.setPort k.port lost) = s0
    have hport : s0.port k.port = lost := by simp [← hs0]
    have hties : s0.ties = s.ties := by simp [← hs0]
    have htie : s0.tie k = s.tie k := congrArg (PerTie.get · k) hties
    have hfeeder : ∀ f, s0.feeder f = s.feeder f := fun f => by simp [← hs0]
    have hrect : s0.rect = s.rect := by simp [← hs0]
    have hmode : s0.mode = s.mode := by simp [← hs0]
    have hreports : s0.reports = (submit .portLost (.port k.port) none (some e.code) none s).reports :=
      hs0 ▸ submit_setPort_reports ..
    obtain hup | hup : (s.tie k).up = false ∨ (s.tie k).up = true := Bool.eq_false_or_eq_true _ |>.symm
    · rw [tieLost_of_down (htie ▸ hup), htie]
      refine ⟨hport, fun _ => ⟨by simp, hreports, ?_⟩, fun h => by simp [hup] at h⟩
      have hput : s0.putTie k s = s0 := by rw [State.putTie, ← htie]; exact State.setTie_self _ _
      rw [State.setTie_putTie, hput, ← hs0]
      exact submit_setPort_putBack ..
    · rw [tieLost_of_up (htie ▸ hup)]
      have hroom0 : s.reports.length < 64 := by omega
      have hroom1 : s0.reports.length < 64 := by
        rw [hreports, (submit_of_room _ _ _ _ _ hroom0).1, List.length_append, List.length_singleton]
        omega
      obtain ⟨hties', hports, -⟩ := tieGoesDown_frame k 2 s0
      obtain ⟨hprefix, hdown⟩ := tieGoesDown_reported k 2 hroom1
      refine ⟨(hports _ (by cases k <;> decide)).trans hport, fun h => by simp [hup] at h,
        fun _ hlatched => ⟨?_, ?_, hdown, fun hm f x hx => ?_, fun hm f x he hx htrip => ?_,
          fun f hsec hentry hstate hphase hblind hfrozen htheta hrun => ?_⟩⟩
      · rw [State.tie, hties', ← State.tie, linkDown_tie, htie]; rfl
      · have hstands := reported_submit .portLost (.port k.port) none (some e.code) none hroom0
        exact (hstands.mono (hreports ▸ List.prefix_refl _)).mono hprefix
      · exact tieGoesDown_entry (hmode ▸ hm) hx
      · have hnot : s.rect.latched.get f = false := by
          by_contra h
          have hdead := hlatched f (by simpa using h)
          rw [htrip] at hdead
          cases hdead
        exact tieGoesDown_tripping (hmode ▸ hm) (by rw [hfeeder]; exact he) hx
          (by rw [State.sq, hfeeder]; exact htrip) (by rw [hrect]; exact hnot)
      · obtain ⟨h1, h2, h3, h4⟩ := tieGoesDown_awaiting (k := k) (why := 2) (f := f) (s := s0)
          ⟨by rw [hrect]; exact hrun, by
            rw [hfeeder]; exact ⟨hsec, hentry, hstate, hphase, hblind, hfrozen, htheta⟩⟩
        exact ⟨h1, h2, h3, h4⟩

end Sys2Proof.Machine
end

section
/-! PROOF. The frame switch (R23 to R33): rejection, forwarding, decimated copies, and the requests
that it hands to the agent (R26, R29, R175, R176). -/

namespace Sys2Proof.Machine

set_option Elab.async false

/-! A good frame before it is switched -/

@[simp] theorem goodFrame_fixed (p : Port) (s : State) : (goodFrame p s).fixed = s.fixed := by
  dsimp only [goodFrame, reportPort]
  split
  · rw [submit_fixed, State.setPort_fixed, State.setPort_fixed]
  · rw [State.setPort_fixed]

@[simp] theorem goodFrame_rejected (p : Port) (s : State) :
    ((goodFrame p s).port p).rejected = (s.port p).rejected := by
  dsimp only [goodFrame, reportPort]
  split <;> simp

theorem ownByte_of_fixed {s t : State} (h : t.fixed = s.fixed) : t.ownByte = s.ownByte :=
  congrArg (BitVec.setWidth 8) (ownNode_of_fixed h)

theorem stationAddress_of_fixed {s t : State} (h : t.fixed = s.fixed) :
    stationAddress t = stationAddress s :=
  congrArg (fun n : Option Byte => n.getD 63#8) (findNode_of_fixed h .gateway none)

/-- A good frame on a port that is not LOST lowers the error count and is switched (R5). -/
theorem Arrives.receive_eq {p : Port} {bytes : List Byte} {fr : RxFrame} {s : State}
    (h : Arrives p bytes fr s) (stamp : Stamp) :
    receive p stamp bytes s = switchFrame p stamp fr (goodFrame p s) := by
  obtain ⟨hr, hc, hl⟩ := h
  simp [receive, hr, hc, hl]

/-! Rejection (R31, R32) -/

/-- What the switch rejects is decided by the node table and the part's own node. -/
theorem switchRejects_of_fixed {s t : State} (h : t.fixed = s.fixed) (p : Port) (fr : RxFrame) :
    switchRejects p t fr ↔ switchRejects p s fr := by
  unfold switchRejects fieldRejects stationRejects
  simp only [nodeRow_of_fixed h, ownByte_of_fixed h]

section

variable {stamp : Stamp} {fr : RxFrame} {s : State}

theorem switchSample_of_unbound {row : NodeRow} (hrect : row.role ≠ .rectMu)
    (hmu : ¬ (row.role = .feederMu ∧ row.binding.isSome = true)) :
    switchSample row stamp fr s = reject .fp s := by
  unfold switchSample
  split
  · next f hrole hbinding => simp [hrole, hbinding] at hmu
  · next hrole => exact absurd hrole hrect
  · rfl

theorem switchField_of_rejects (h : fieldRejects s fr) : switchField stamp fr s = reject .fp s := by
  unfold fieldRejects at h
  unfold switchField
  by_cases hrow : (s.nodeRow fr.src).role = .unused ∨ (s.nodeRow fr.src).side = .station
  · exact if_pos hrow
  · obtain ⟨hrole, hside⟩ := not_or.mp hrow
    dsimp only
    rw [if_neg hrow]
    cases hk : fr.kind <;> simp only [hk, hrole, hside, reduceCtorEq, false_and, true_and, or_false,
      false_or] at h
    case sample => exact switchSample_of_unbound h.1 h.2
    case status => simp [switchStatus, forwardOrReject, h]
    case command => rfl
    case manage => exact if_neg h
    case reply => simp [forwardOrReject, h]
    case report => simp [forwardOrReject, h]
    case tie => rfl

theorem forwardDownFrame_of_barred {permitted : Bool}
    (h : ¬ (roleIsField (s.nodeRow fr.dest).role = true ∧ permitted = true)) :
    forwardDownFrame permitted fr s = reject .sp s :=
  if_neg fun hb => h (Bool.and_eq_true_iff.mp hb)

theorem switchStation_of_rejects (h : stationRejects s fr) : switchStation fr s = reject .sp s := by
  unfold stationRejects at h
  unfold switchStation
  by_cases hsrc : (s.nodeRow fr.src).role = .gateway
  · rw [if_neg (not_not.mpr hsrc)]
    cases hk : fr.kind <;> simp only [hk, hsrc, ne_eq, not_true_eq_false, reduceCtorEq,
      not_false_eq_true, and_true, and_false, false_and, true_and, or_false, false_or] at h
    case manage =>
      obtain ⟨hdest, hpass⟩ := h
      exact (if_neg hdest).trans (forwardDownFrame_of_barred hpass)
    case command =>
      by_cases hdest : fr.dest = s.ownByte
      · exact if_pos hdest
      · exact (if_neg hdest).trans (forwardDownFrame_of_barred (h.resolve_left hdest))
    all_goals rfl
  · exact if_pos hsrc

theorem switchFrame_of_rejects {p : Port} (h : switchRejects p s fr) :
    switchFrame p stamp fr s = reject p s := by
  cases p with
  | fp => exact switchField_of_rejects h
  | sp => exact switchStation_of_rejects h
  | ta => exact if_neg h
  | tb => exact if_neg h

/-! Forwarding (R27, R30) -/

theorem switchField_of_upPass (hrole : (s.nodeRow fr.src).role ≠ .unused)
    (hside : (s.nodeRow fr.src).side = .field)
    (h : (fr.kind = .reply ∧ (s.nodeRow fr.src).upReply = true)
      ∨ (fr.kind = .report ∧ (s.nodeRow fr.src).upReport = true)
      ∨ (fr.kind = .status ∧ (s.nodeRow fr.src).upStatus = true
          ∧ roleSendsStatus (s.nodeRow fr.src).role = false)) :
    switchField stamp fr s = forwardUpFrame fr s := by
  have hrow : ¬ ((s.nodeRow fr.src).role = .unused ∨ (s.nodeRow fr.src).side = .station) := by
    simp [hrole, hside]
  unfold switchField
  dsimp only
  rw [if_neg hrow]
  obtain ⟨hk, hup⟩ | ⟨hk, hup⟩ | ⟨hk, hup, hblock⟩ := h
  · simp [hk, hup, forwardOrReject]
  · simp [hk, hup, forwardOrReject]
  · simp [hk, hup, hblock, switchStatus, forwardOrReject]

theorem switchStation_of_downPass (hsrc : (s.nodeRow fr.src).role = .gateway)
    (hdest : fr.dest ≠ s.ownByte) (hfield : roleIsField (s.nodeRow fr.dest).role = true)
    (h : (fr.kind = .command ∧ (s.nodeRow fr.dest).downCommand = true)
      ∨ (fr.kind = .manage ∧ (s.nodeRow fr.dest).downManage = true)) :
    switchStation fr s = offerForwarded .fp (forwardedFrame fr fr.dest) s := by
  obtain ⟨hk, hdown⟩ | ⟨hk, hdown⟩ := h <;>
    simp [switchStation, forwardDownFrame, hsrc, hdest, hfield, hk, hdown]

/-! Requests (R26, R29, R175, R176) -/

theorem switchStation_of_manage (hk : fr.kind = .manage) (hdest : fr.dest = s.ownByte)
    (hsrc : (s.nodeRow fr.src).role = .gateway) :
    switchStation fr s = manageFrame .fromStation fr s := by simp [switchStation, hk, hdest, hsrc]

theorem switchField_of_manage (hk : fr.kind = .manage) (hdest : fr.dest = s.ownByte)
    (hrole : (s.nodeRow fr.src).role = .panel) (hside : (s.nodeRow fr.src).side = .field) :
    switchField stamp fr s = manageFrame .fromPanel fr s := by
  simp [switchField, hk, hdest, hrole, hside]

end

theorem requestNumber_eq (payload : List Byte) : requestNumber payload = payload.getD 1 0#8 := by
  match payload with
  | [] => rfl
  | [_] => rfl
  | _ :: _ :: _ => rfl

/-- A payload of at least 2 bytes whose type and length are known is its request (R175). -/
theorem readRequest_of_known {type number : Byte} {fields : List Byte} {r : Request}
    (h : Config.requestOf type fields = some r) (hr : ∀ x, r ≠ .bad (.malformed x)) :
    readRequest (type :: number :: fields) = r := by
  cases r with
  | bad why =>
    cases why with
    | malformed x => exact absurd rfl (hr x)
    | _ => simp only [readRequest, h]
  | _ => simp only [readRequest, h]

theorem readRequest_of_unknown {type number : Byte} {fields : List Byte}
    (h : Config.requestOf type fields = none) :
    readRequest (type :: number :: fields) = .bad (.malformed type) := by
  simp [readRequest, h, requestTypeByte]

/-- A request joins the queue or is answered BUSY, the error count of its port lowered before (R176). -/
theorem manageFrame_goodFrame (source : ReqSource) (fr : RxFrame) (p : Port) (s : State) :
    manageFrame source fr (goodFrame p s) =
      let k : Ticket := { source := source, requester := fr.src, number := fr.payload.getD 1 0#8 }
      if s.requests.length < 8 then
        { goodFrame p s with
          requests := s.requests ++ [{ ticket := k, request := readRequest fr.payload }] }
      else answer k (requestType (readRequest fr.payload)) .busy (goodFrame p s) := by
  simp only [manageFrame, requestNumber_eq, requests_of_fixed (goodFrame_fixed p s),
    Config.requestCapacity]

/-- Settles O17: the switch hands the frame to the agent, and the payload is read by its length and its
free value. -/
theorem manageFrameQueued : Obligations.ManageFrameQueued := by
  refine ⟨fun p bytes fr s source harr hk hdest hsource => ?_, rfl, fun _ => rfl,
    fun type number fields => ⟨readRequest_of_unknown, fun r => readRequest_of_known⟩⟩
  have hfixed := goodFrame_fixed p s
  have hdest' : fr.dest = (goodFrame p s).ownByte := hdest.trans (ownByte_of_fixed hfixed).symm
  have hrow : (goodFrame p s).nodeRow fr.src = s.nodeRow fr.src := nodeRow_of_fixed hfixed _
  have hswitch : switchFrame p s.time fr (goodFrame p s) = manageFrame source fr (goodFrame p s) := by
    obtain ⟨rfl, rfl, hrole⟩ | ⟨rfl, rfl, hrole, hside⟩ := hsource
    · exact switchStation_of_manage hk hdest' (hrow ▸ hrole)
    · exact switchField_of_manage hk hdest' (hrow ▸ hrole) (hrow ▸ hside)
  have hexec : exec (.manageReceived p bytes) s = .next (manageFrame source fr (goodFrame p s)) :=
    congrArg _ ((harr.receive_eq s.time).trans hswitch)
  rw [hexec, manageFrame_goodFrame]
  dsimp only
  split
  · rfl
  · rfl

/-- Settles O16: each good frame by the branch of the switch that takes it, and each offer as one change of
a port record. -/
theorem framesSwitched : Obligations.FramesSwitched := by
  refine ⟨fun p bytes fr s harr hcount hrej => ?_, fun bytes fr s harr hrole hside hpass => ?_,
    fun bytes fr s harr hsrc hdest hfield hpass => ?_, fun p frame s => ?_, fun f fr s => ?_⟩
  · have hrej' := (switchRejects_of_fixed (goodFrame_fixed p s) p fr).mpr hrej
    refine ⟨reject p (goodFrame p s),
      congrArg _ ((harr.receive_eq s.time).trans (switchFrame_of_rejects hrej')), ?_, ?_, ?_⟩
    · simp [reject_eq, satInc_eq_min hcount]
    · rw [reject_eq, State.setPort_putPort, State.putPort_self]
    · rw [reject_eq, State.setPort_port_same, ← goodFrame_rejected p s]
  · have hfixed := goodFrame_fixed .fp s
    rw [← nodeRow_of_fixed hfixed] at hrole hside hpass
    refine congrArg _ ((harr.receive_eq s.time).trans
      ((switchField_of_upPass hrole hside hpass).trans ?_))
    rw [forwardUpFrame, stationAddress_of_fixed hfixed]
    rfl
  · have hfixed := goodFrame_fixed .sp s
    rw [← nodeRow_of_fixed hfixed] at hsrc hfield hpass
    rw [← ownByte_of_fixed hfixed] at hdest
    exact congrArg _ ((harr.receive_eq s.time).trans
      (switchStation_of_downPass hsrc hdest hfield hpass))
  · dsimp only
    rw [offerForwarded_eq, State.setPort_port_same, State.setPort_putPort, State.putPort_self]
    exact ⟨fun hroom => if_pos hroom,
      fun hfull hdrop => by rw [if_neg (Nat.not_lt.mpr hfull), satInc_eq_min hdrop], rfl⟩
  · dsimp only [decimate]
    exact ⟨fun h0 => if_pos h0, fun h0 hd => by rw [if_neg h0, if_neg hd],
      fun h0 hd => by rw [if_neg h0, if_pos hd]⟩

end Sys2Proof.Machine
end

section
/-! PROOF. The NODE, FEEDER and SECTION tables (R19 to R21, R54, R144, R180): the conditions on a written
row and the effects of an accepted write. -/

namespace Sys2Proof.Machine

set_option Elab.async false

/-! Feeder numbers -/

theorem FeederId.ofNum_num (f : FeederId) : FeederId.ofNum f.num = some f := by cases f <;> rfl

theorem FeederId.ofNum_eq_none_iff (n : Nat) : FeederId.ofNum n = none ↔ n = 0 ∨ 8 < n := by
  simp only [FeederId.ofNum, FeederId.all, List.find?_eq_none, List.forall_mem_cons, FeederId.num,
    beq_iff_eq, List.not_mem_nil, false_imp_iff, implies_true, and_true]
  omega

/-! The NODE table: the checks (R20) -/

/-- A row serves a feeder as its measuring or breaker unit (R20). -/
def RowServes (r : NodeRow) (f : FeederId) : Prop :=
  (r.role = .feederMu ∨ r.role = .breaker) ∧ r.binding = some f

theorem bindsFeeder_iff (role : Role) : bindsFeeder role = true ↔ role = .feederMu ∨ role = .breaker := by
  cases role <;> simp [bindsFeeder]

theorem bindingOk_iff (r : NodeRow) :
    bindingOk r = true ↔ (r.binding ≠ none ↔ r.role = .feederMu ∨ r.role = .breaker) := by
  rw [bindingOk, beq_iff_eq, Bool.eq_iff_iff, Option.isSome_iff_ne_none, bindsFeeder_iff]

theorem sideOk_iff (r : NodeRow) :
    sideOk r = true ↔ (r.role = .gateway → r.side = .station)
      ∧ (r.role ≠ .gateway → r.role ≠ .unused → r.side = .field) := by
  unfold sideOk
  cases r.role <;> simp

theorem passesAny_iff (r : NodeRow) :
    passesAny r = true ↔ r.downCommand = true ∨ r.downManage = true ∨ r.upStatus = true
      ∨ r.upReply = true ∨ r.upReport = true := by simp [passesAny, or_assoc]

theorem passOk_iff (r : NodeRow) :
    passOk r = true ↔ ((r.role = .unused ∨ r.role = .gateway) → ¬ passesAny r = true)
      ∧ ((r.role = .breaker ∨ r.role = .acBreaker ∨ r.role = .firing) → r.downCommand = false) := by
  unfold passOk
  cases r.role <;> simp

theorem rowsClash_eq_false_iff (a b : NodeRow) :
    rowsClash a b = false ↔ (a.role ≠ .unused → b.role = a.role →
      (a.role = .feederMu ∨ a.role = .breaker) ∧ b.binding ≠ a.binding) := by
  rw [← bindsFeeder_iff, Bool.eq_false_iff]
  simp only [rowsClash, ne_eq, Bool.and_eq_true, Bool.or_eq_true, beq_iff_eq, bne_iff_ne,
    Bool.not_eq_true', eq_comm (a := b.role), eq_comm (a := b.binding)]
  cases bindsFeeder a.role <;> tauto

theorem nodeRowOk_iff (s : State) (n : Nat) (w : RowWrite NodeRow) :
    nodeRowOk s n w = true ↔
      w.outOfSet = false ∧ n ≠ 63 ∧ n ≠ s.ownNode.toNat ∧ bindingOk w.value = true
        ∧ sideOk w.value = true ∧ passOk w.value = true
        ∧ ∀ m, m ≤ 63 → m ≠ n → rowsClash w.value (s.nodeRow (BitVec.ofNat 8 m)) = false := by
  have hall : (nodeNumbers.all fun m => m == n || !rowsClash w.value (s.nodeRow (BitVec.ofNat 8 m)))
      = true ↔ ∀ m, m ≤ 63 → m ≠ n → rowsClash w.value (s.nodeRow (BitVec.ofNat 8 m)) = false := by
    simp [nodeNumbers, List.all_eq_true, or_iff_not_imp_left, Nat.lt_succ_iff]
  simp only [nodeRowOk, Bool.and_eq_true, Bool.not_eq_true', bne_iff_ne, hall, and_assoc, ne_eq]

/-! The NODE table: the bindings (R21) -/

theorem boundAs_of_serves {r : NodeRow} {f : FeederId} (h : RowServes r f) :
    boundAs r = some (r.role, f) := by
  obtain ⟨hrole, hbinding⟩ := h
  simp [boundAs, (bindsFeeder_iff _).mpr hrole, hbinding]

theorem serves_of_boundAs {r : NodeRow} {x : Role × FeederId} (h : boundAs r = some x) :
    r.role = x.1 ∧ RowServes r x.2 := by
  unfold boundAs at h
  split at h
  · next hb =>
    obtain ⟨f, hf, rfl⟩ := Option.map_eq_some_iff.mp h
    exact ⟨rfl, (bindsFeeder_iff _).mp hb, hf⟩
  · cases h

/-- A row that serves a feeder stands for the same binding as another exactly when role and binding are
the same (R21). -/
theorem boundAs_eq_iff {a b : NodeRow} {f : FeederId} (h : RowServes a f) :
    boundAs a = boundAs b ↔ a.role = b.role ∧ a.binding = b.binding := by
  rw [boundAs_of_serves h]
  refine ⟨fun heq => ?_, fun ⟨hrole, hbinding⟩ => ?_⟩
  · obtain ⟨hrole, -, hbinding⟩ := serves_of_boundAs heq.symm
    exact ⟨hrole.symm, h.2.trans hbinding.symm⟩
  · have hb : RowServes b f := ⟨hrole ▸ h.1, hbinding ▸ h.2⟩
    rw [boundAs_of_serves hb, hrole]

theorem mem_changedBindings {old new : NodeRow} {x : Role × FeederId} :
    x ∈ changedBindings old new ↔
      boundAs old ≠ boundAs new ∧ (boundAs old = some x ∨ boundAs new = some x) := by
  unfold changedBindings
  split <;> simp [*]

/-- A write changes the binding of a feeder that its old or its new row serves, unless the two have the
same role and binding (R21). -/
theorem exists_mem_changedBindings {old new : NodeRow} {f : FeederId} :
    (∃ role, (role, f) ∈ changedBindings old new) ↔
      (RowServes old f ∨ RowServes new f) ∧ ¬ (old.role = new.role ∧ old.binding = new.binding) := by
  simp only [mem_changedBindings]
  refine ⟨fun ⟨role, hne, hx⟩ => ?_, fun ⟨hserves, hne⟩ => ?_⟩
  · obtain hx | hx := hx
    · obtain ⟨-, hs⟩ := serves_of_boundAs hx
      exact ⟨.inl hs, fun h => hne ((boundAs_eq_iff hs).mpr h)⟩
    · obtain ⟨-, hs⟩ := serves_of_boundAs hx
      exact ⟨.inr hs, fun ⟨hr, hb⟩ => hne ((boundAs_eq_iff hs).mpr ⟨hr.symm, hb.symm⟩).symm⟩
  · obtain hs | hs := hserves
    · exact ⟨old.role, fun h => hne ((boundAs_eq_iff hs).mp h), .inl (boundAs_of_serves hs)⟩
    · refine ⟨new.role, fun h => ?_, .inr (boundAs_of_serves hs)⟩
      obtain ⟨hr, hb⟩ := (boundAs_eq_iff hs).mp h.symm
      exact hne ⟨hr.symm, hb.symm⟩

theorem bindingsFree_iff (s : State) (old new : NodeRow) :
    bindingsFree s old new = true ↔
      ∀ f, (RowServes old f ∨ RowServes new f) → ¬ (old.role = new.role ∧ old.binding = new.binding) →
        (s.sq f).state = .out := by
  simp only [bindingsFree, List.all_eq_true, beq_iff_eq, Prod.forall]
  rw [forall_comm]
  refine forall_congr' fun f => ?_
  rw [← and_imp, ← exists_mem_changedBindings, exists_imp]

/-! The NODE table: the write (R20, R21) -/

/-- What the effects of a changed binding leave alone (R21): they reach intake records, decimation counts
and device positions. -/
structure Rebound (s t : State) : Prop where
  nodes : t.nodes = s.nodes
  ports : t.ports = s.ports
  mode : t.mode = s.mode
  reports : t.reports = s.reports
  feeder : ∀ f, (t.feeder f).row = (s.feeder f).row ∧ (t.sq f).state = (s.sq f).state

theorem Rebound.refl (s : State) : Rebound s s := ⟨rfl, rfl, rfl, rfl, fun _ => ⟨rfl, rfl⟩⟩

theorem Rebound.trans {s t u : State} (h : Rebound s t) (h' : Rebound t u) : Rebound s u where
  nodes := h'.nodes.trans h.nodes
  ports := h'.ports.trans h.ports
  mode := h'.mode.trans h.mode
  reports := h'.reports.trans h.reports
  feeder f := ⟨(h'.feeder f).1.trans (h.feeder f).1, (h'.feeder f).2.trans (h.feeder f).2⟩

theorem Rebound.thenIf {cond : Prop} {dec : Decidable cond} {s t u : State} (h : Rebound s t)
    (h' : Rebound t u) : Rebound s (if cond then u else t) := by
  split
  · exact h.trans h'
  · exact h

theorem Rebound.setRectIntake {s : State} {r : RectIntake} : Rebound s (s.setRectIntake r) :=
  ⟨rfl, rfl, rfl, rfl, fun _ => ⟨rfl, rfl⟩⟩

theorem Rebound.setRect {s : State} {r : RectRec} : Rebound s (s.setRect r) :=
  ⟨rfl, rfl, rfl, rfl, fun _ => ⟨rfl, rfl⟩⟩

theorem Rebound.setFeeder {s : State} {f : FeederId} {u : FeederUnit}
    (h : u.row = (s.feeder f).row ∧ u.sq.state = (s.sq f).state) : Rebound s (s.setFeeder f u) where
  nodes := rfl
  ports := rfl
  mode := rfl
  reports := rfl
  feeder g := by
    by_cases hg : g = f
    · subst hg; simpa using h
    · simp [State.sq, State.setFeeder_feeder_ne _ _ hg]

theorem bindingChanged_rebound (x : Role × FeederId) (s : State) : Rebound s (bindingChanged x s) := by
  dsimp only [bindingChanged]
  split
  · exact .setFeeder ⟨rfl, rfl⟩
  · exact .setFeeder ⟨rfl, rfl⟩

theorem groupRowChanged_rebound (old new : NodeRow) (s : State) :
    Rebound s (groupRowChanged old new s) :=
  (((Rebound.refl s).thenIf .setRectIntake).thenIf .setRect).thenIf .setRect

theorem writeNode_rebound (n : Nat) (new : NodeRow) (s : State) :
    Rebound { s with nodes := s.nodes.setIfInBounds n (storedRow new) } (writeNode n new s) := by
  refine .trans ?_ (groupRowChanged_rebound _ _ _)
  exact List.foldlRecOn _ _ (.refl _) fun t ht x _ => ht.trans (bindingChanged_rebound x t)

theorem State.nodeRow_ofNat (s : State) {m : Nat} (h : m ≤ 63) :
    s.nodeRow (BitVec.ofNat 8 m) = (s.nodes[m]?).getD unusedRow := by
  rw [State.nodeRow, BitVec.toNat_ofNat, Nat.mod_eq_of_lt (by omega)]

theorem writeNode_nodeRow_same {n : Nat} (h : n ≤ 63) (new : NodeRow) (s : State) :
    (writeNode n new s).nodeRow (BitVec.ofNat 8 n) = storedRow new := by
  rw [State.nodeRow_ofNat _ h, (writeNode_rebound n new s).nodes,
    Vector.getElem?_setIfInBounds_self_of_lt (by omega), Option.getD_some]

theorem writeNode_nodeRow_ne {n m : Nat} (h : m ≤ 63) (hm : m ≠ n) (new : NodeRow) (s : State) :
    (writeNode n new s).nodeRow (BitVec.ofNat 8 m) = s.nodeRow (BitVec.ofNat 8 m) := by
  rw [State.nodeRow_ofNat _ h, (writeNode_rebound n new s).nodes,
    Vector.getElem?_setIfInBounds_ne hm.symm, ← State.nodeRow_ofNat s h]

/-! The FEEDER and SECTION tables -/

theorem intakeOk_iff (k : IntakeSettings) :
    intakeOk k = true ↔ 2 ≤ k.tBlind ∧ k.tBlind ≤ 100 ∧ 10 ≤ k.iRippleMin ∧ k.iRippleMin ≤ 5000
      ∧ (k.wF = 32 ∨ k.wF = 512) ∧ k.decimation ≤ 200 := by
  simp [intakeOk, within, and_assoc]

theorem protOk_iff (p : ProtSettings) :
    protOk p = true ↔ 500 ≤ p.iIoc ∧ p.iIoc ≤ 32000 ∧ 1 ≤ p.c ∧ p.c ≤ 4
      ∧ 20 ≤ p.sStart ∧ p.sStart ≤ 4000 ∧ p.sEnd < p.sStart ∧ 1 ≤ p.e ∧ p.e ≤ 8
      ∧ 200 ≤ p.dISet ∧ p.dISet ≤ 30000 ∧ 1 ≤ p.dMin ∧ p.dMin ≤ 200
      ∧ p.dMax ≤ 400 ∧ p.dMin < p.dMax ∧ 8 ≤ p.k ∧ p.k ≤ 24
      ∧ 16 ≤ p.iReclose ∧ p.iReclose < p.iAlarm ∧ p.iAlarm ≤ p.iTrip ∧ p.iTrip ≤ 32767 := by
  simp only [protOk, within, Bool.and_eq_true, decide_eq_true_eq]
  omega

theorem breakerOk_iff (b : BreakerSettings) :
    breakerOk b = true ↔ 20 ≤ b.tOpenMax ∧ b.tOpenMax ≤ 500 ∧ 50 ≤ b.tCloseMax ∧ b.tCloseMax ≤ 1000
      ∧ 100 ≤ b.tSotf ∧ b.tSotf ≤ 2000 ∧ 1000 ≤ b.tReclaim ∧ b.tReclaim ≤ 300000 := by
  simp [breakerOk, within, and_assoc]

theorem testOk_iff (q : TestSettings) :
    testOk q = true ↔ 1 ≤ q.shots ∧ q.shots ≤ 3 ∧ 100 ≤ q.dead1 ∧ q.dead1 ≤ 60000
      ∧ 100 ≤ q.dead2 ∧ q.dead2 ≤ 60000 ∧ 100 ≤ q.dead3 ∧ q.dead3 ≤ 60000
      ∧ 1000 ≤ q.tFollow ∧ q.tFollow ≤ 120000 ∧ 20 ≤ q.wSettle ∧ q.wSettle ≤ 400
      ∧ q.rLive ≤ 1023 ∧ q.rShort < q.rLoad ∧ q.rLoad ≤ 1023
      ∧ 200 ≤ q.ubMinTest ∧ q.ubMinTest ≤ 900 := by
  simp only [testOk, within, Bool.and_eq_true, decide_eq_true_eq]
  omega

theorem feederRowOk_iff (r : FeederRow) :
    feederRowOk r = true ↔ intakeOk r.intake = true ∧ protOk r.prot = true ∧ breakerOk r.brk = true
      ∧ testOk r.test = true := by simp [feederRowOk, and_assoc]

theorem sectionOk_iff (s : State) (f : FeederId) (w : RowWrite SectionRow) :
    sectionOk s f w = true ↔ w.outOfSet = false ∧ w.value.sectionId ≤ 255
      ∧ ∀ g, g ≠ f → w.value.tie ≠ none → (s.feeder g).section_.tie = w.value.tie →
          (s.feeder g).section_.sectionId ≠ w.value.sectionId := by
  simp [sectionOk, List.all_eq_true, FeederId.mem_all, and_assoc, or_iff_not_imp_left]

theorem sectionBlocked_iff (s : State) (f : FeederId) (r : SectionRow) :
    sectionBlocked s f r = true ↔ (s.feeder f).entry ≠ none
      ∧ (r.tie ≠ (s.feeder f).section_.tie ∨ r.sectionId ≠ (s.feeder f).section_.sectionId) := by
  simp [sectionBlocked, Option.isSome_iff_ne_none]

theorem FeederIntake.underPolicy_eq (policy : Policy) (k : FeederIntake) :
    k.underPolicy policy = if policy = .latch then { k with clearingCount := 0 } else k := by
  cases policy <;> rfl

theorem writeFeeder_eq (f : FeederId) (r : FeederRow) (s : State) :
    writeFeeder f r s =
      s.setFeeder f
        { s.feeder f with
          row := r, valid := true, decim := 0
          intake :=
            if r.intake.policy = .latch then { (s.feeder f).intake with clearingCount := 0 }
            else (s.feeder f).intake } := by
  rw [writeFeeder, FeederIntake.underPolicy_eq]

/-! The writes by their checks -/

section

variable {k : Ticket} {n : Nat} {s : State}

/-- WRITE_ROW NODE outside reset, by its checks (R20, R21). -/
theorem exec_writeRowNode (hr : s.inReset = false) (w : RowWrite NodeRow) :
    exec (.writeRowNode k n w) s =
      .next
        (checked k .writeRow
          [stationOnly k, configOnly s, (decide (63 < n), .badRow), (!nodeRowOk s n w, .badValue),
            (!bindingsFree s (s.nodeRow (BitVec.ofNat 8 n)) w.value, .refusedState)]
          (writeNode n w.value) (takeRequest k (.writeRowNode n w) s)) := by
  obtain ⟨q, hq⟩ := takeRequest_eq k (.writeRowNode n w) s
  refine (taking_eq hr _ _ _).trans ?_
  rw [hq]
  rfl

/-- WRITE_ROW FEEDER of a feeder outside reset, by its checks (R54, R180). -/
theorem exec_writeRowFeeder {f : FeederId} (hr : s.inReset = false) (hn : n = f.num)
    (w : RowWrite FeederRow) :
    exec (.writeRowFeeder k n w) s =
      .next
        (checked k .writeRow
          [stationOnly k, (w.outOfSet || !feederRowOk (roundFeeder w.value), .badValue),
            ((s.sq f).state != .out, .refusedState)]
          (writeFeeder f (roundFeeder w.value)) (takeRequest k (.writeRowFeeder n w) s)) := by
  obtain ⟨q, hq⟩ := takeRequest_eq k (.writeRowFeeder n w) s
  refine (taking_eq hr _ _ _).trans ?_
  rw [hq, serveWriteFeeder, hn, FeederId.ofNum_num]
  rfl

theorem exec_writeRowFeeder_noRow (hr : s.inReset = false) (hn : n = 0 ∨ 8 < n)
    (w : RowWrite FeederRow) :
    exec (.writeRowFeeder k n w) s =
      .next
        (checked k .writeRow [stationOnly k, (true, .badRow)] id
          (takeRequest k (.writeRowFeeder n w) s)) := by
  refine (taking_eq hr _ _ _).trans ?_
  rw [serveWriteFeeder, (FeederId.ofNum_eq_none_iff n).mpr hn]

/-- WRITE_ROW SECTION of a feeder outside reset, by its checks (R144). -/
theorem exec_writeRowSection {f : FeederId} (hr : s.inReset = false) (hn : n = f.num)
    (w : RowWrite SectionRow) :
    exec (.writeRowSection k n w) s =
      .next
        (checked k .writeRow
          [stationOnly k, configOnly s, (!sectionOk s f w, .badValue),
            (sectionBlocked s f w.value, .refusedState)]
          (writeSection f w.value) (takeRequest k (.writeRowSection n w) s)) := by
  obtain ⟨q, hq⟩ := takeRequest_eq k (.writeRowSection n w) s
  refine (taking_eq hr _ _ _).trans ?_
  rw [hq, serveWriteSection, hn, FeederId.ofNum_num]
  rfl

theorem exec_writeRowSection_noRow (hr : s.inReset = false) (hn : n = 0 ∨ 8 < n)
    (w : RowWrite SectionRow) :
    exec (.writeRowSection k n w) s =
      .next
        (checked k .writeRow [stationOnly k, configOnly s, (true, .badRow)] id
          (takeRequest k (.writeRowSection n w) s)) := by
  obtain ⟨q, hq⟩ := takeRequest_eq k (.writeRowSection n w) s
  refine (taking_eq hr _ _ _).trans ?_
  rw [hq, serveWriteSection, (FeederId.ofNum_eq_none_iff n).mpr hn]
  rfl

end

/-- Settles O48: each write by its list of checks, and each check field by field. -/
theorem feederTablesWritten : Obligations.FeederTablesWritten := by
  refine ⟨fun k n s hr hk => ⟨?_, ?_, ?_, ?_, ?_, ?_⟩, fun s n w => ?_, bindingsFree_iff,
    fun s f w => ⟨sectionOk_iff s f w, sectionBlocked_iff s f w.value⟩, fun r => ⟨rfl, ?_⟩⟩
  · intro w hm hn hok hfree
    obtain ⟨q, hq⟩ := takeRequest_eq k (.writeRowNode n w) s
    have hstored := writeNode_rebound n w.value (takeRequest k (.writeRowNode n w) s)
    refine ⟨writeNode n w.value (takeRequest k (.writeRowNode n w) s), ?_,
      writeNode_nodeRow_same hn _ _, fun m hm63 hmn => ?_, ?_⟩
    · rw [exec_writeRowNode hr, checked_of_accepted]
      simp [firstRefusal, stationOnly_fst hk, configOnly, hm, Nat.not_lt.mpr hn, hok, hfree]
    · rw [writeNode_nodeRow_ne hm63 hmn, hq]
      rfl
    · rw [hq] at hstored ⊢
      exact ⟨hstored.feeder, hstored.ports, hstored.mode, hstored.reports⟩
  · intro f w hn hset hok hout
    obtain ⟨q, hq⟩ := takeRequest_eq k (.writeRowFeeder n w) s
    rw [exec_writeRowFeeder hr hn, checked_of_accepted, writeFeeder_eq, hq]
    · rfl
    · simp [firstRefusal, stationOnly_fst hk, hset, hok, hout]
  · intro f w hn hm hok hfree
    obtain ⟨q, hq⟩ := takeRequest_eq k (.writeRowSection n w) s
    rw [exec_writeRowSection hr hn, checked_of_accepted, writeSection, hq]
    · rfl
    · simp [firstRefusal, stationOnly_fst hk, configOnly, hm, hok, hfree]
  · intro w hm
    refine ⟨fun hn => ?_, fun hn hbad => ?_, fun hn hok hbound => ?_⟩ <;>
      rw [exec_writeRowNode hr, checked_of_refused]
    · simp [firstRefusal, stationOnly_fst hk, configOnly, hm, hn]
    · simp [firstRefusal, stationOnly_fst hk, configOnly, hm, Nat.not_lt.mpr hn, hbad]
    · simp [firstRefusal, stationOnly_fst hk, configOnly, hm, Nat.not_lt.mpr hn, hok, hbound]
  · intro w
    refine ⟨fun hn => ?_, fun f hn => ⟨fun hbad => ?_, fun hset hok hin => ?_⟩⟩
    · rw [exec_writeRowFeeder_noRow hr hn, checked_of_refused]
      simp [firstRefusal, stationOnly_fst hk]
    all_goals rw [exec_writeRowFeeder hr hn, checked_of_refused]
    · simp [firstRefusal, stationOnly_fst hk, hbad]
    · simp [firstRefusal, stationOnly_fst hk, hset, hok, hin]
  · intro w hm
    refine ⟨fun hn => ?_, fun f hn => ⟨fun hbad => ?_, fun hok hblocked => ?_⟩⟩
    · rw [exec_writeRowSection_noRow hr hn, checked_of_refused]
      simp [firstRefusal, stationOnly_fst hk, configOnly, hm]
    all_goals rw [exec_writeRowSection hr hn, checked_of_refused]
    · simp [firstRefusal, stationOnly_fst hk, configOnly, hm, hbad]
    · simp [firstRefusal, stationOnly_fst hk, configOnly, hm, hok, hblocked]
  · dsimp only
    rw [nodeRowOk_iff, bindingOk_iff, sideOk_iff, passOk_iff, passesAny_iff]
    simp only [rowsClash_eq_false_iff, and_assoc]
  · rw [feederRowOk_iff, intakeOk_iff, protOk_iff, breakerOk_iff, testOk_iff]

end Sys2Proof.Machine
end

section
/-! PROOF. What the sequence units do with a sample, an abort, a trip or a lost measurement, with all that it
starts at the group and the ties, said once: a chain of ten elementary actions, none of which reaches what intake
holds of a feeder (R41 to R46), its BLIND and FROZEN flags or its thermal image. -/

namespace Sys2Proof.Machine

set_option Elab.async false

/-- The elementary actions. TEST_CLOSE is not among the commands: the sample that asks for it is looked at by
itself. -/
inductive UnitAct : State → State → Prop where
  | setSq (f : FeederId) {r : FeederRec} {s : State} (blind : r.blind = (s.sq f).blind)
      (frozen : r.frozen = (s.sq f).frozen) : UnitAct s (s.setSq f r)
  /-- IOC and DDL at rest, with the trip hold either way (R53, R68, R69). -/
  | rest (f : FeederId) (hold : Bool) (s : State) :
      UnitAct s (s.setProt f { (s.feeder f).prot.atRest with hold := hold })
  | setEntry (f : FeederId) (e : Option Entry) (s : State) :
      UnitAct s (s.setFeeder f { s.feeder f with entry := e })
  | setRect (r : RectRec) (s : State) : UnitAct s (s.setRect r)
  | setTie (k : Tie) (r : TieRec) (s : State) : UnitAct s (s.setTie k r)
  | setSlot (k : SlotId) (c : Slot) (s : State) : UnitAct s (s.setSlot k c)
  | takeFree (n : Nat) (s : State) : UnitAct s { s with freeCount := n }
  | submit (kind : ReportKind) (src : Source) (c : Option Cause) (v w : Option Int) (s : State) :
      UnitAct s (submit kind src c v w s)
  | offer {c : FieldCommand} (h : ∀ f, c ≠ .testContactor f true) (s : State) :
      UnitAct s (offerField c s)
  | offerTie (k : Tie) (m : TieMsg) (s : State) : UnitAct s (offerTie k m s)

/-- A chain of actions. -/
def UnitActs : State → State → Prop := Relation.ReflTransGen UnitAct

namespace UnitActs

variable {s t u : State} {f : FeederId} {k : Tie} {c : FieldCommand}

/-! Chains -/

theorem refl : UnitActs s s := Relation.ReflTransGen.refl

theorem trans (h : UnitActs s t) (h' : UnitActs t u) : UnitActs s u := Relation.ReflTransGen.trans h h'

theorem act (h : UnitActs s t) (h' : UnitAct t u) : UnitActs s u := Relation.ReflTransGen.tail h h'

theorem ite {cond : Prop} {dec : Decidable cond} (ht : UnitActs s t) (hu : UnitActs s u) :
    UnitActs s (if cond then t else u) := by split <;> assumption

/-- Actions taken under a condition. -/
theorem thenIf {cond : Prop} {dec : Decidable cond} (h : UnitActs s t) (h' : UnitActs t u) :
    UnitActs s (if cond then u else t) := ite (h.trans h') h

/-- Actions taken unless a condition holds. -/
theorem thenUnless {cond : Prop} {dec : Decidable cond} (h : UnitActs s t) (h' : UnitActs t u) :
    UnitActs s (if cond then t else u) := ite h (h.trans h')

theorem forFeeders {g : FeederId → State → State} (hg : ∀ e a, UnitActs a (g e a))
    (h : UnitActs s t) : UnitActs s (forFeeders g t) :=
  forFeeders_induct (P := UnitActs s) (fun e a ha => ha.trans (hg e a)) h

/-! The shared operations -/

theorem setSq {r : FeederRec} (h : UnitActs s t) (blind : r.blind = (t.sq f).blind := by rfl)
    (frozen : r.frozen = (t.sq f).frozen := by rfl) : UnitActs s (t.setSq f r) :=
  h.act (.setSq f blind frozen)

theorem setRect {r : RectRec} (h : UnitActs s t) : UnitActs s (t.setRect r) := h.act (.setRect ..)

theorem submit {kind : ReportKind} {src : Source} {x : Option Cause} {v w : Option Int}
    (h : UnitActs s t) : UnitActs s (submit kind src x v w t) := h.act (.submit ..)

/-- A command of the sequence unit that is no TEST_CLOSE. -/
theorem offerSeq (h : UnitActs s t) (hc : ∀ e, c ≠ .testContactor e true := by simp) :
    UnitActs s (offerSeq c t) := h.thenUnless (refl.act (.offer hc _))

/-- A command of the group. -/
theorem offerRect {force : Bool} (h : UnitActs s t)
    (hc : ∀ e, c ≠ .testContactor e true := by simp) : UnitActs s (offerRect force c t) :=
  h.thenUnless (refl.act (.offer hc _))

theorem trigger {kind : TriggerKind} (h : UnitActs s t) : UnitActs s (trigger f kind t) := by
  unfold Machine.trigger
  split
  · exact h
  · exact h.act (.setSlot ..)
  · exact h.submit

/-! Feeders and the group -/

theorem withdrawLatched (h : UnitActs s t) : UnitActs s (withdrawLatched f t) := h.setRect

theorem addTester (h : UnitActs s t) : UnitActs s (addTester f t) := h.setRect

theorem dropTester (h : UnitActs s t) : UnitActs s (dropTester f t) := h.setRect

theorem enterCore {new : FeederState} {cause : Option LockoutCause} (h : UnitActs s t) :
    UnitActs s (enterCore f new cause t) := by
  refine ((h.thenIf (refl.withdrawLatched (f := f))).setSq ?_ ?_).thenIf (refl.act (.rest f false _))
  all_goals split <;> rfl

theorem reportFeederState {new old : FeederState} (h : UnitActs s t) :
    UnitActs s (reportFeederState f new old t) := h.submit

theorem startCloseTimer (h : UnitActs s t) : UnitActs s (startCloseTimer f t) := h.setSq

theorem recordResult {x : LastResult} (h : UnitActs s t) : UnitActs s (recordResult f x t) :=
  h.setSq.submit

theorem enterPhase {ph : Phase} {timer : Timer} (h : UnitActs s t) :
    UnitActs s (enterPhase f ph timer t) :=
  (h.thenUnless refl.enterCore).setSq.thenUnless refl.submit

theorem offerBlocked {force : Bool} (h : UnitActs s t) : UnitActs s (offerBlocked force t) :=
  (h.act (.takeFree ..)).offerRect

theorem rectMove {new : RectState} {cause : RectCause} (h : UnitActs s t) :
    UnitActs s (rectMove new cause t) :=
  ((h.setRect).thenIf refl.offerBlocked).submit

theorem park {cause : RectCause} (h : UnitActs s t) :
    UnitActs s (park cause t) := h.rectMove.offerRect.setRect

theorem enterRest {target : RestState} {cause : RectCause} (h : UnitActs s t) :
    UnitActs s (enterRest target cause t) := by
  cases target
  · exact h.rectMove
  · exact h.park

theorem beginCrossingWait (h : UnitActs s t) : UnitActs s (beginCrossingWait t) := h.setRect

theorem enterStarting (h : UnitActs s t) :
    UnitActs s (enterStarting t) :=
  (((h.setRect).offerRect.rectMove).setRect).thenIf
    refl.beginCrossingWait

/-! Line tests and dead time -/

theorem abortEffects {reason : AbortReason} {uAvg ubAvg : Option Nat} (h : UnitActs s t) :
    UnitActs s (abortEffects f reason uAvg ubAvg t) := (h.setSq.thenIf refl.offerSeq).recordResult

theorem giveShotBack (h : UnitActs s t) : UnitActs s (giveShotBack f t) := ite h.setSq h

theorem returnAfterFlag (h : UnitActs s t) : UnitActs s (returnAfterFlag f t) := by
  unfold Machine.returnAfterFlag
  dsimp only
  split
  · exact h.giveShotBack.enterPhase
  split
  · exact h.enterPhase
  · exact h.enterPhase
  · exact h.enterPhase

theorem enterTesting {kind : TestKind} {origin : Option TestOrigin} (h : UnitActs s t) :
    UnitActs s (enterTesting f kind origin t) := h.enterCore.setSq.submit

theorem beginContactorCheck (h : UnitActs s t) : UnitActs s (beginContactorCheck f t) :=
  ite h.setSq h.offerSeq.startCloseTimer

theorem startTest {kind : TestKind} {origin : Option TestOrigin} (h : UnitActs s t) :
    UnitActs s (startTest f kind origin t) := h.addTester.enterTesting.beginContactorCheck

theorem startLatched (h : UnitActs s t) : UnitActs s (startLatched f t) := by
  have hstart := (h.withdrawLatched (f := f)).addTester (f := f) |>.setSq (f := f)
    (r := { t.sq f with pendingTest := false })
  exact ite (ite hstart.enterTesting.abortEffects.dropTester.returnAfterFlag
    hstart.enterTesting.beginContactorCheck) h

theorem startAllLatched (h : UnitActs s t) : UnitActs s (startAllLatched t) :=
  forFeeders (fun _ _ => refl.startLatched) h

theorem enterRunning (h : UnitActs s t) : UnitActs s (enterRunning t) :=
  h.rectMove.startAllLatched

theorem probeEnd (h : UnitActs s t) : UnitActs s (probeEnd t) :=
  ite h.enterRunning h.enterRest

theorem leaveTesting (h : UnitActs s t) : UnitActs s (leaveTesting f t) :=
  h.thenIf (refl.dropTester.thenIf refl.probeEnd)

theorem enterState {new : FeederState} {cause : Option LockoutCause} (h : UnitActs s t) :
    UnitActs s (enterState f new cause t) := (h.thenIf refl.leaveTesting).enterCore

theorem sendSection {hold : Bool} (h : UnitActs s t) : UnitActs s (sendSection f hold t) := by
  unfold Machine.sendSection
  split
  · exact h
  · exact ite h (h.act (.offerTie ..))

theorem lockout {cause : LockoutCause} {offered : Bool} (h : UnitActs s t) :
    UnitActs s (lockout f cause offered t) :=
  (h.thenIf refl.offerSeq).enterState.setSq.submit.thenIf refl.sendSection

theorem latchTest (h : UnitActs s t) : UnitActs s (latchTest f t) :=
  ite h (h.setRect.thenIf refl.enterStarting)

theorem probeFromHold (h : UnitActs s t) :
    UnitActs s (probeFromHold t) := h.rectMove.setRect

theorem abortUnstarted {reason : AbortReason} {origin : TestOrigin} (h : UnitActs s t) :
    UnitActs s (abortUnstarted f reason origin t) := h.setSq.abortEffects.returnAfterFlag

theorem awaitSupply {origin : TestOrigin} (h : UnitActs s t) : UnitActs s (awaitSupply f origin t) :=
  h.enterPhase.setSq.latchTest

theorem testRequest {origin : TestOrigin} (h : UnitActs s t) : UnitActs s (testRequest f origin t) := by
  unfold Machine.testRequest
  refine ite h.abortUnstarted (ite h.abortUnstarted (ite h.enterPhase.setSq ?_))
  cases hs : t.rect.state with
  | running => exact h.startTest
  | probe => exact h.startTest
  | hold => exact h.probeFromHold.startTest
  | parked => exact h.awaitSupply
  | starting => exact h.awaitSupply
  | faulted => exact h.awaitSupply

theorem enterFarEnd (h : UnitActs s t) : UnitActs s (enterFarEnd f t) :=
  h.enterPhase.thenIf refl.setSq.testRequest.submit

theorem abortReturn {reason : AbortReason} (h : UnitActs s t) :
    UnitActs s (abortReturn f reason t) := by
  unfold Machine.abortReturn
  dsimp only
  split
  · exact ite h.setSq h.enterState.reportFeederState
  · exact ite h.enterFarEnd h.returnAfterFlag

theorem abortTesting {reason : AbortReason} {uAvg ubAvg : Option Nat} (h : UnitActs s t) :
    UnitActs s (abortTesting f reason uAvg ubAvg t) := h.abortEffects.leaveTesting

theorem abortTest {reason : AbortReason} {uAvg ubAvg : Option Nat} (h : UnitActs s t) :
    UnitActs s (abortTest f reason uAvg ubAvg t) := h.abortTesting.abortReturn

theorem enterClosing (h : UnitActs s t) : UnitActs s (enterClosing f t) :=
  h.enterState.reportFeederState.offerSeq.setSq

theorem serveShort (h : UnitActs s t) : UnitActs s (serveShort f t) :=
  ite h.setSq.leaveTesting.enterPhase h.setSq.lockout

theorem serveResult {x : LastResult} (h : UnitActs s t) : UnitActs s (serveResult f x t) :=
  ite (ite h.recordResult.enterState.reportFeederState h.recordResult.serveShort)
    h.recordResult.enterClosing

/-! Tripping -/

theorem intertripFailNotice (h : UnitActs s t) : UnitActs s (intertripFailNotice f t) := by
  unfold Machine.intertripFailNotice
  dsimp only
  split
  · exact h.setSq
  · exact h.lockout
  · exact ite h.lockout h.abortTesting.giveShotBack.lockout
  all_goals exact h

theorem intertripFail {cause : InterCause} {sec : Nat} {why : InterFail} (h : UnitActs s t) :
    UnitActs s (intertripFail f cause sec why t) :=
  (h.act (.setEntry f none _)).submit.intertripFailNotice

theorem intertripRequest {cause : InterCause} (h : UnitActs s t) :
    UnitActs s (intertripRequest f cause t) := by
  unfold Machine.intertripRequest
  split
  · exact h
  · next k hk =>
    have htag : UnitActs s (advanceTag k t) := h.act (.setTie ..)
    dsimp only
    split
    · exact (htag.act (.setEntry ..)).submit
    split
    · exact ((htag.act (.setEntry ..)).act (.offerTie ..)).submit
    split
    · exact h.intertripFail
    · exact (htag.act (.offerTie ..)).submit.intertripFail

theorem startTrip {req : TripRequest} (h : UnitActs s t) : UnitActs s (startTrip f req t) := by
  unfold Machine.startTrip
  dsimp only
  have htrip := (h.enterState (f := f) (new := .tripping) (cause := none)).offerSeq
    (c := .breaker f .trip) |>.setSq (f := f)
      (r := FeederRec.tripped req (t.sq f).sotf.isSome (ms (t.feeder f).row.brk.tOpenMax)
        ((Machine.offerSeq (.breaker f .trip) (Machine.enterState f .tripping none t)).sq f))
  have hcapture := (htrip.submit (kind := .trip) (src := .feeder f)
    (x := some req.primary.cause) (v := req.i) (w := req.value2)).thenIf
      (cond := (t.feeder f).row.brk.capture = true) (dec := inferInstance)
      (refl.trigger (f := f) (kind := .trip))
  split
  · exact hcapture.intertripRequest
  · exact hcapture

theorem requestTrip {req : TripRequest} (h : UnitActs s t) : UnitActs s (requestTrip f req t) := by
  refine ite h ?_
  dsimp only
  cases (t.sq f).state with
  | closed => exact h.startTrip
  | closing => exact h.startTrip
  | opening => exact h.startTrip
  | tripping => exact h.setSq
  | _ => exact h

theorem flagAction {blind : Bool} (h : UnitActs s t) : UnitActs s (flagAction f blind t) := by
  unfold Machine.flagAction
  refine ite h ?_
  dsimp only
  split
  · split
    · exact h.requestTrip
    · exact h
  · exact ite h h.abortTest
  all_goals exact h

/-! Samples -/

theorem sumSample {x : FeederTaken} (h : UnitActs s t) : UnitActs s (sumSample f x t) :=
  ite h.abortTest (ite (ite h.abortTest h.offerSeq.startCloseTimer.setSq) h.setSq)

theorem serveCooling (h : UnitActs s t) : UnitActs s (coolingSample f t) := h.thenIf refl.testRequest

theorem raiseTrip {req : TripRequest} (h : UnitActs s t) : UnitActs s (raiseTrip f req t) := by
  have hrest := h.act (.rest f true t)
  exact ite (hrest.submit.thenIf refl.trigger) hrest.requestTrip

end UnitActs

/-- A sample that the sequence unit takes gives actions, but for the failing one of the live check, which
offers TEST_CLOSE (R108). -/
theorem sequenceSample_cases (f : FeederId) (x : FeederTaken) (s : State) :
    sequenceSample f x s = closeContactor f s ∨ UnitActs s (sequenceSample f x s) := by
  have hstay : UnitActs s s := .refl
  unfold sequenceSample
  dsimp only
  split
  · exact .inr (.ite hstay.serveCooling hstay)
  · unfold testSample
    dsimp only
    split
    · exact .inr hstay
    split
    · unfold liveSample
      dsimp only
      split
      · exact .inl rfl
      · exact .inr (.ite hstay.serveResult hstay.setSq)
    · exact .inr (.ite hstay.setSq hstay.setSq)
    · exact .inr hstay.sumSample
    all_goals exact .inr hstay
  all_goals exact .inr hstay

/-! What the actions leave -/

/-- IOC and DDL at rest (R53). -/
def Protection.Resting (r : Protection) : Prop := r.iocCount = 0 ∧ r.ddl = Ddl.rest

theorem Protection.atRest_resting (r : Protection) : r.atRest.Resting := ⟨rfl, rfl⟩

/-- The same is held of a feeder's measurement: its intake record and its flags. -/
structure FeederUnit.SameIntake (v u : FeederUnit) : Prop where
  intake : v.intake = u.intake
  blind : v.sq.blind = u.sq.blind
  frozen : v.sq.frozen = u.sq.frozen

/-- The thermal image is the same, and IOC and DDL stay at rest. -/
structure FeederUnit.SameImage (v u : FeederUnit) : Prop where
  theta : v.prot.theta = u.prot.theta
  resting : u.prot.Resting → v.prot.Resting

theorem FeederUnit.SameIntake.refl (u : FeederUnit) : u.SameIntake u := ⟨rfl, rfl, rfl⟩

theorem FeederUnit.SameIntake.trans {u v w : FeederUnit} (h : w.SameIntake v) (h' : v.SameIntake u) :
    w.SameIntake u :=
  ⟨h.intake.trans h'.intake, h.blind.trans h'.blind, h.frozen.trans h'.frozen⟩

theorem FeederUnit.SameImage.refl (u : FeederUnit) : u.SameImage u := ⟨rfl, id⟩

theorem FeederUnit.SameImage.trans {u v w : FeederUnit} (h : w.SameImage v) (h' : v.SameImage u) :
    w.SameImage u := ⟨h.theta.trans h'.theta, h.resting ∘ h'.resting⟩

/-- What a new unit for one feeder keeps of it, the update keeps of every feeder. -/
theorem State.setFeeder_keeps {R : FeederUnit → FeederUnit → Prop} (hrefl : ∀ u, R u u) {s : State}
    {f : FeederId} {u : FeederUnit} (h : R u (s.feeder f)) (e : FeederId) :
    R ((s.setFeeder f u).feeder e) (s.feeder e) := by
  by_cases he : e = f
  · subst he; rwa [State.setFeeder_feeder_same]
  · rw [State.setFeeder_feeder_ne _ _ he]; exact hrefl _

/-- A command offered may reach a simulated device, and nothing else that the part holds for a feeder. -/
theorem offerField_unit (c : FieldCommand) (s : State) (e : FeederId) :
    ∃ b k, (offerField c s).feeder e = { s.feeder e with simBreaker := b, simContactor := k } := by
  by_cases hm : s.mode = .replay
  · rw [offerField_replay hm]
    cases c with
    | breaker g b =>
      exact State.setFeeder_keeps
        (R := fun v u => ∃ b k, v = { u with simBreaker := b, simContactor := k })
        (fun u => ⟨u.simBreaker, u.simContactor, rfl⟩) ⟨_, _, rfl⟩ e
    | testContactor g b =>
      exact State.setFeeder_keeps
        (R := fun v u => ∃ b k, v = { u with simBreaker := b, simContactor := k })
        (fun u => ⟨u.simBreaker, u.simContactor, rfl⟩) ⟨_, _, rfl⟩ e
    | firingSet x => exact ⟨_, _, rfl⟩
    | acBreaker b => exact ⟨_, _, rfl⟩
  · obtain ⟨r, hr⟩ := offerField_port_only (c := c) hm
    rw [hr]
    exact ⟨_, _, rfl⟩

theorem offerField_sameIntake (c : FieldCommand) (s : State) (e : FeederId) :
    ((offerField c s).feeder e).SameIntake (s.feeder e)
      ∧ ((offerField c s).feeder e).SameImage (s.feeder e) := by
  obtain ⟨b, k, h⟩ := offerField_unit c s e
  rw [h]
  exact ⟨⟨rfl, rfl, rfl⟩, ⟨rfl, id⟩⟩

/-- No action reaches what is held of a feeder's measurement, or its thermal image. -/
theorem UnitAct.sameUnit {s t : State} (h : UnitAct s t) (e : FeederId) :
    (t.feeder e).SameIntake (s.feeder e) ∧ (t.feeder e).SameImage (s.feeder e) := by
  have hset : ∀ (f : FeederId) {u : FeederUnit}, u.SameIntake (s.feeder f) → u.SameImage (s.feeder f) →
      ((s.setFeeder f u).feeder e).SameIntake (s.feeder e)
        ∧ ((s.setFeeder f u).feeder e).SameImage (s.feeder e) := fun f u hi hm =>
    ⟨State.setFeeder_keeps FeederUnit.SameIntake.refl hi e,
      State.setFeeder_keeps FeederUnit.SameImage.refl hm e⟩
  cases h with
  | setSq f hb hf => exact hset f ⟨rfl, hb, hf⟩ ⟨rfl, id⟩
  | rest f hold => exact hset f ⟨rfl, rfl, rfl⟩ ⟨rfl, fun _ => ⟨rfl, rfl⟩⟩
  | setEntry f x => exact hset f ⟨rfl, rfl, rfl⟩ ⟨rfl, id⟩
  | submit => rw [submit_feeder]; exact ⟨.refl _, .refl _⟩
  | offer => exact offerField_sameIntake _ _ _
  | offerTie k m => rw [offerTie_eq]; exact ⟨.refl _, .refl _⟩
  | _ => exact ⟨.refl _, .refl _⟩

/-- Reports are only added. -/
theorem UnitActs.reports {s t : State} (h : UnitActs s t) : s.reports <+: t.reports := by
  induction h with
  | refl => exact List.prefix_refl _
  | tail _ ha ih =>
    refine ih.trans ?_
    cases ha with
    | submit => exact submit_reports_prefix ..
    | offer => rw [offerField_reports]
    | offerTie => rw [offerTie_eq]; exact List.prefix_refl _
    | _ => exact List.prefix_refl _

/-- What intake holds of the feeders is the same in two states. -/
def IntakeKept (s t : State) : Prop := ∀ e, (t.feeder e).SameIntake (s.feeder e)

/-- The thermal images are the same in two states, and elements at rest stay so. -/
def ImageKept (s t : State) : Prop := ∀ e, (t.feeder e).SameImage (s.feeder e)

theorem UnitActs.imageKept {s t : State} (h : UnitActs s t) : ImageKept s t := by
  induction h with
  | refl => exact fun e => .refl _
  | tail _ ha ih => exact fun e => (ha.sameUnit e).2.trans (ih e)

namespace IntakeKept

variable {s t u : State} {f : FeederId}

theorem refl : IntakeKept s s := fun _ => .refl _

theorem trans (h : IntakeKept s t) (h' : IntakeKept t u) : IntakeKept s u :=
  fun e => (h' e).trans (h e)

theorem acts (h : IntakeKept s t) (h' : UnitActs t u) : IntakeKept s u := by
  induction h' with
  | refl => exact h
  | tail _ ha ih => exact ih.trans fun e => (ha.sameUnit e).1

theorem ite {cond : Prop} {dec : Decidable cond} (ht : IntakeKept s t) (hu : IntakeKept s u) :
    IntakeKept s (if cond then t else u) := by split <;> assumption

theorem setProt {r : Protection} (h : IntakeKept s t) : IntakeKept s (t.setProt f r) :=
  h.trans (State.setFeeder_keeps FeederUnit.SameIntake.refl ⟨rfl, rfl, rfl⟩)

theorem submit {kind : ReportKind} {src : Source} {x : Option Cause} {v w : Option Int}
    (h : IntakeKept s t) : IntakeKept s (submit kind src x v w t) := h.acts (.submit .refl)

/-- Protection takes a sample: only its own record and what it asks of the sequence unit change. -/
theorem protectionSample {x : FeederTaken} (h : IntakeKept s t) :
    IntakeKept s (protectionSample f x t) := by
  have hthermal : ∀ {v}, IntakeKept s v → IntakeKept s (thermalSample f x.i v) := fun hv =>
    ite (ite hv.setProt.submit (ite hv.setProt.submit hv.setProt)) hv
  have hslow : ∀ {v} (e : DdlEvent), IntakeKept s v → IntakeKept s (reportSlowRise f e v) := fun e hv => by
    cases e
    · exact hv
    · exact hv
    · exact hv.submit
  refine ite ?_ (hthermal h)
  unfold Machine.armedSample
  dsimp only
  split
  · exact (hthermal (hslow _ h.setProt)).acts (.raiseTrip .refl)
  · exact ite (hthermal (hslow _ h.setProt)).setProt (hthermal (hslow _ h.setProt))

end IntakeKept

theorem closeContactor_kept (f : FeederId) (s : State) :
    IntakeKept s (closeContactor f s) ∧ ImageKept s (closeContactor f s) := by
  have hoffer : IntakeKept s (offerSeq (.testContactor f true) s)
      ∧ ImageKept s (offerSeq (.testContactor f true) s) := by
    unfold offerSeq
    split
    · exact ⟨.refl, fun _ => .refl _⟩
    · have hunit := offerField_sameIntake (.testContactor f true) s
      exact ⟨fun e => (hunit e).1, fun e => (hunit e).2⟩
  have hrest : UnitActs (offerSeq (.testContactor f true) s) (closeContactor f s) :=
    UnitActs.refl.startCloseTimer.setSq
  exact ⟨hoffer.1.acts hrest, fun e => (hrest.imageKept e).trans (hoffer.2 e)⟩

/-- A sample that the sequence unit takes reaches neither intake nor protection, but to put it at rest. -/
theorem sequenceSample_kept (f : FeederId) (x : FeederTaken) (s : State) :
    IntakeKept s (sequenceSample f x s) ∧ ImageKept s (sequenceSample f x s) := by
  obtain h | h := sequenceSample_cases f x s
  · rw [h]; exact closeContactor_kept f s
  · exact ⟨IntakeKept.refl.acts h, h.imageKept⟩

end Sys2Proof.Machine
end

section
/-! PROOF. Commands that stand on the field port, and aborted tests (R115 to R117): what the abort of a test
leaves of its feeder, whatever the end of its service starts at the group. -/

namespace Sys2Proof.Machine

set_option Elab.async false

/-! Commands that stand on the field port -/

/-- The arbiter loses no frame: the one it takes is being sent (R11). -/
theorem PortRec.arbitrate_stands {r : PortRec} {q : Frame} (h : q ∈ r.urgent ++ r.sending.toList) :
    q ∈ r.arbitrate.urgent ++ r.arbitrate.sending.toList := by
  obtain ⟨-, he⟩ | ⟨-, hfree, ⟨a, rest, hu, he⟩ | ⟨a, rest, hu, -, he⟩ | ⟨hu, -, he⟩⟩ := r.arbitrate_cases
  all_goals rw [he]
  · exact h
  · simp only [hu, hfree, Option.toList_none, List.append_nil, List.mem_cons] at h
    simpa [or_comm] using h
  · simp [hu, hfree] at h
  · exact h

/-- A command offered with room in the queue stands in it (R13). -/
theorem mem_offeredCommand {c : FieldCommand} {frame : Frame} {q : List Frame} (h : q.length < 24) :
    frame ∈ offeredCommand c frame q := by
  unfold offeredCommand
  split
  · next r hr =>
    obtain ⟨a, old, b, -, -, rfl⟩ := replaceFirst_eq_some hr
    simp
  · simp [Config.urgentCapacity, h]

/-- A queued command outlasts the offer of one of another class, or of itself (R13). -/
theorem offeredCommand_stands {c d : FieldCommand} {frame x : Frame} {q : List Frame}
    (hframe : frame.payload = .command c) (hx : x ∈ q) (hd : x.payload = .command d)
    (hclass : sameClass c d = true → c = d) :
    ∃ y ∈ offeredCommand c frame q, y.payload = .command d := by
  unfold offeredCommand
  split
  · next r hr =>
    obtain ⟨a, old, b, rfl, hold, rfl⟩ := replaceFirst_eq_some hr
    simp only [List.mem_append, List.mem_cons] at hx
    obtain ha | rfl | hb := hx
    · exact ⟨x, by simp [ha], hd⟩
    · have hsame : sameClass c d = true := by simpa [isClass, hd] using hold
      exact ⟨frame, by simp, by rw [hframe, hclass hsame]⟩
    · exact ⟨x, by simp [hb], hd⟩
  · split
    · exact ⟨x, List.mem_append_left _ hx, hd⟩
    · exact ⟨x, hx, hd⟩

/-- A command offered outside REPLAY to a node that there is, with room in the queue, stands on the field
port (R13). -/
theorem offerField_commanded {c : FieldCommand} {s : State} (hm : s.mode ≠ .replay)
    (hnode : (commandNode s c).isSome = true) (hroom : (s.port .fp).urgent.length < 24) :
    Commanded (offerField c s) c := by
  obtain ⟨n, hn⟩ := Option.isSome_iff_exists.mp hnode
  simp only [offerField, if_neg hm, hn, Commanded, offerCommandFrame_eq, State.setPort_port_same]
  exact ⟨_, PortRec.arbitrate_stands (List.mem_append_left _ (mem_offeredCommand hroom)), rfl⟩

/-- A command that stands outlasts the offer of one of another class, or of itself. -/
theorem Commanded.offerField {c d : FieldCommand} {s : State} (h : Commanded s d)
    (hclass : sameClass c d = true → c = d) : Commanded (offerField c s) d := by
  by_cases hm : s.mode = .replay
  · rw [offerField_replay hm]
    cases c <;> exact h
  obtain ⟨x, hx, hd⟩ := h
  simp only [Machine.offerField, if_neg hm]
  split
  · next n hn =>
    rw [Commanded, offerCommandFrame_eq, State.setPort_port_same]
    obtain hx | hx := List.mem_append.mp hx
    · obtain ⟨y, hy, hyd⟩ :=
        offeredCommand_stands (frame := originated s .fp .command n (.command c)) rfl hx hd hclass
      exact ⟨y, PortRec.arbitrate_stands (List.mem_append_left _ hy), hyd⟩
    · exact ⟨x, PortRec.arbitrate_stands (List.mem_append_right _ hx), hd⟩
  · exact ⟨x, hx, hd⟩

/-- A TEST_OPEN that stands on the field port outlasts every action: none offers TEST_CLOSE (R13). -/
theorem Commanded.acts {f : FeederId} {s t : State} (h : Commanded s (.testContactor f false))
    (hacts : UnitActs s t) : Commanded t (.testContactor f false) := by
  induction hacts with
  | refl => exact h
  | tail _ ha ih =>
    cases ha with
    | submit => simpa [Commanded] using ih
    | @offer c hc =>
      refine ih.offerField fun hsame => ?_
      cases c with
      | testContactor g close =>
        obtain rfl : g = f := by simpa [sameClass] using hsame
        cases close
        · rfl
        · exact absurd rfl (hc g)
      | _ => simp [sameClass] at hsame
    | offerTie k => rw [offerTie_eq]; cases k <;> exact ih
    | _ => exact ih

/-! The abort of a test -/

variable {f : FeederId} {reason : AbortReason} {uAvg ubAvg : Option Nat} {s : State}

/-- The result with which an aborted test is recorded (R117). -/
def abortResult (reason : AbortReason) (uAvg ubAvg : Option Nat) : LastResult :=
  { outcome := .aborted reason, r := none, uAvg := uAvg, ubAvg := ubAvg }

/-- The record of an aborted test before its feeder returns (R115). -/
def FeederRec.aborted (reason : AbortReason) (uAvg ubAvg : Option Nat) (r : FeederRec) : FeederRec :=
  { r with
    closeTimer := none
    test :=
      { r.test with
        step := none, count := 0, sumU := 0, sumUb := 0, pending := none
        last := some (abortResult reason uAvg ubAvg) } }

/-- A test that is aborted, its TEST_OPEN offered where it must be, and nothing yet recorded (R115). -/
def abortOffered (f : FeederId) (s : State) : State :=
  let r := s.sq f
  let s1 :=
    s.setSq f
      { r with
        closeTimer := none
        test := { r.test with step := none, count := 0, sumU := 0, sumUb := 0, pending := none } }
  if r.contactor != .opened || r.test.step == some .contactorClosing then
    offerSeq (.testContactor f false) s1
  else s1

/-- The averages of a LINE_TEST report, where there are both (R117). -/
def averages (uAvg ubAvg : Option Nat) : Option Int :=
  match uAvg, ubAvg with
  | some u, some ub => some (u * 4096 + ub)
  | _, _ => none

theorem abortEffects_eq (f : FeederId) (reason : AbortReason) (uAvg ubAvg : Option Nat) (s : State) :
    abortEffects f reason uAvg ubAvg s =
      submit .lineTest (.feeder f) (some reason.cause) none (averages uAvg ubAvg)
        ((abortOffered f s).setSq f
          { (abortOffered f s).sq f with
            test := { ((abortOffered f s).sq f).test with
                      last := some (abortResult reason uAvg ubAvg) } }) := rfl

/-- The offer of a test's abort reaches the field port alone, beside the record. -/
theorem abortOffered_beside (f : FeederId) (s : State) :
    (abortOffered f s).reports = s.reports ∧ (abortOffered f s).rect = s.rect
      ∧ (abortOffered f s).sq f =
          { s.sq f with
            closeTimer := none
            test := { (s.sq f).test with step := none, count := 0, sumU := 0, sumUb := 0
                                         pending := none } } := by
  dsimp only [abortOffered, offerSeq]
  repeat' split
  all_goals simp

theorem abortEffects_sq (f : FeederId) (reason : AbortReason) (uAvg ubAvg : Option Nat) (s : State) :
    (abortEffects f reason uAvg ubAvg s).sq f = (s.sq f).aborted reason uAvg ubAvg := by
  obtain ⟨-, -, hsq⟩ := abortOffered_beside f s
  rw [abortEffects_eq, submit_sq, State.setSq_sq_same, hsq]
  rfl

@[simp] theorem abortEffects_rect (f : FeederId) (reason : AbortReason) (uAvg ubAvg : Option Nat)
    (s : State) : (abortEffects f reason uAvg ubAvg s).rect = s.rect := by
  rw [abortEffects_eq, submit_rect, State.setSq_rect, (abortOffered_beside f s).2.1]

/-- An abort is reported (R117). -/
theorem abortEffects_reported (h : s.reports.length < 64) :
    Reported (abortEffects f reason uAvg ubAvg s) .lineTest (.feeder f) (some reason.cause) none
      (averages uAvg ubAvg) := by
  obtain ⟨hreports, -, -⟩ := abortOffered_beside f s
  rw [abortEffects_eq]
  exact reported_submit _ _ _ _ _ (by rwa [State.setSq_reports, hreports])

/-- An abort with the contactor not OPEN offers TEST_OPEN (R115). -/
theorem abortEffects_commanded (hc : (s.sq f).contactor ≠ .opened) (hm : s.mode = .service)
    (hnode : (findNode s .breaker (some f)).isSome = true) (hroom : (s.port .fp).urgent.length < 24) :
    Commanded (abortEffects f reason uAvg ubAvg s) (.testContactor f false) := by
  have hoffered : Commanded (abortOffered f s) (.testContactor f false) := by
    dsimp only [abortOffered, offerSeq]
    simp only [bne_iff_ne.mpr hc, Bool.true_or, if_true, State.setSq_mode, hm, reduceCtorEq, if_false]
    exact offerField_commanded (by simp [hm]) hnode hroom
  rw [abortEffects_eq]
  exact hoffered.acts (UnitActs.refl.setSq.submit)

/-- A feeder with no latched test is not reached by the start of the latched ones (R132). -/
theorem startAllLatched_feeder (h : s.rect.latched.get f = false) :
    (startAllLatched s).rect.latched.get f = false ∧ (startAllLatched s).feeder f = s.feeder f := by
  refine forFeeders_induct
    (P := fun t => t.rect.latched.get f = false ∧ t.feeder f = s.feeder f) (fun g t ht => ?_) ⟨h, rfl⟩
  obtain ⟨hl, hfeeder⟩ := ht
  by_cases hg : f = g
  · subst hg
    simp [startLatched, hl, hfeeder]
  · have hs : FeederServed g t (startLatched g t) := FeederServed.refl.startLatched
    obtain ⟨hl', hf'⟩ := hs.unlatched f hg hl
    exact ⟨hl', hf'.trans hfeeder⟩

/-- The end of PROBE reaches no feeder without a latched test (R132, R133). -/
theorem leaveTesting_sq (h : s.rect.latched.get f = false) :
    (leaveTesting f s).rect.latched.get f = false ∧ (leaveTesting f s).sq f = s.sq f := by
  have hmove : ∀ new cause (t : State), t.rect.latched = s.rect.latched →
      (rectMove new cause t).rect.latched.get f = false := fun new cause t ht => by
    rw [rectMove_rect, (RectRec.entered_sets new cause t.rect).1, ht, h]
  unfold leaveTesting
  split
  · dsimp only
    split
    · unfold probeEnd enterRunning
      split
      · obtain ⟨hl, hf⟩ := startAllLatched_feeder (hmove .running .none (dropTester f s) rfl)
        exact ⟨hl, (congrArg FeederUnit.sq hf).trans (rectMove_sq ..)⟩
      · unfold enterRest
        split
        · exact ⟨hmove _ _ _ rfl, rectMove_sq ..⟩
        · exact ⟨by rw [park_rect]; exact h, park_sq ..⟩
    · exact ⟨h, rfl⟩
  · exact ⟨h, rfl⟩

/-- Up to the return of its feeder, an abort leaves the aborted record. -/
theorem abortTesting_sq (h : s.rect.latched.get f = false) :
    (abortTesting f reason uAvg ubAvg s).rect.latched.get f = false
      ∧ (abortTesting f reason uAvg ubAvg s).sq f = (s.sq f).aborted reason uAvg ubAvg := by
  obtain ⟨hl, hsq⟩ := leaveTesting_sq (s := abortEffects f reason uAvg ubAvg s) (f := f) (by simpa using h)
  exact ⟨hl, hsq.trans (abortEffects_sq ..)⟩

/-- The record that an aborted test leaves of its feeder, unless the next request is made at once (R115 to
R117): the result, a test record at rest, and the state by kind, shot-taken mark and origin. -/
def FeederRec.Returned (result : LastResult) (row : TestSettings) (r r' : FeederRec) : Prop :=
  r'.test.last = some result
    ∧ r'.test.step = none ∧ r'.test.pending = none ∧ r'.test.count = 0 ∧ r'.test.sumU = 0
    ∧ r'.test.sumUb = 0 ∧ (r.farClear = false → r'.farClear = false) ∧ r'.tripLine = false
    ∧ (r.test.kind = some .manual → r'.state = .opened ∧ r'.shotCount = r.shotCount)
    ∧ (r.test.kind = some .auto → r.shotTaken = true →
        r'.state = .deadTime ∧ r'.phase = some .timing ∧ r'.shotTaken = false
          ∧ r'.shotCount = r.shotCount - 1
          ∧ r'.dead = some (deadTime row (r.shotCount - 1 + 1) * 1000))
    ∧ (r.test.kind = some .auto → r.shotTaken = false → r.test.origin = some .cooling →
        r'.state = .deadTime ∧ r'.phase = some .cooling ∧ r'.dead = none
          ∧ r'.shotCount = r.shotCount)
    ∧ (r.test.kind = some .auto → r.shotTaken = false → r.test.origin = some .awaitingFarEnd →
        r'.state = .deadTime ∧ r'.phase = some .awaitingFarEnd
          ∧ r'.dead = some (row.tFollow * 1000) ∧ r'.shotCount = r.shotCount)

/-- The entry from TESTING to a dead-time phase. -/
theorem enterPhase_sq_of_testing (h : (s.sq f).state = .testing) (ph : Phase) (timer : Timer) :
    (enterPhase f ph timer s).sq f =
      { (s.sq f).entered s.mode .deadTime none with phase := some ph, dead := timer } := by
  rw [enterPhase_sq_eq, h]
  rfl

/-- An aborted test that consumed no shot returns to the phase of its origin (R116). -/
theorem enterPhase_returned {r : FeederRec} {row : TestSettings} {ph : Phase} {timer : Timer}
    (hsq : s.sq f = r.aborted reason uAvg ubAvg) (hstate : r.state = .testing)
    (hkind : r.test.kind ≠ some .manual) (hshot : r.shotTaken = false)
    (hcool : r.test.origin = some .cooling → ph = .cooling ∧ timer = none)
    (hwait : r.test.origin = some .awaitingFarEnd →
      ph = .awaitingFarEnd ∧ timer = some (row.tFollow * 1000)) :
    r.Returned (abortResult reason uAvg ubAvg) row ((enterPhase f ph timer s).sq f) := by
  rw [enterPhase_sq_of_testing (by rw [hsq]; exact hstate), hsq]
  refine ⟨rfl, rfl, rfl, rfl, rfl, rfl, id, by simp [tripLevel, FeederRec.entered, FeederRec.aborted],
    fun h => absurd h hkind, fun _ h => by simp [hshot] at h, fun _ _ ho => ?_, fun _ _ ho => ?_⟩
  · obtain ⟨rfl, rfl⟩ := hcool ho; exact ⟨rfl, rfl, rfl, rfl⟩
  · obtain ⟨rfl, rfl⟩ := hwait ho; exact ⟨rfl, rfl, rfl, rfl⟩

/-- An aborted automatic test returns to TIMING with its shot given back, or to the phase that made its
request (R116). -/
theorem returnAfterFlag_returned {r : FeederRec}
    (hsq : s.sq f = r.aborted reason uAvg ubAvg) (hstate : r.state = .testing)
    (hkind : r.test.kind ≠ some .manual) :
    r.Returned (abortResult reason uAvg ubAvg) (s.feeder f).row.test ((returnAfterFlag f s).sq f) := by
  have horigin : (s.sq f).test.origin = r.test.origin := by rw [hsq]; rfl
  unfold returnAfterFlag
  dsimp only
  by_cases hshot : r.shotTaken = true
  · have hshot' : (s.sq f).shotTaken = true := by rw [hsq]; exact hshot
    have htesting : ((giveShotBack f s).sq f).state = .testing := by
      rw [giveShotBack_sq_state, hsq]; exact hstate
    obtain ⟨hrow, -, -⟩ := settings_of_fixed (giveShotBack_fixed f s) f
    rw [if_pos hshot', enterTiming, enterPhase_sq_of_testing htesting, hrow, giveShotBack_sq,
      if_pos hshot', hsq]
    exact ⟨rfl, rfl, rfl, rfl, rfl, rfl, id, by simp [tripLevel, FeederRec.entered],
      fun h => absurd h hkind, fun _ _ => ⟨rfl, rfl, rfl, rfl, rfl⟩, fun _ h => by simp [hshot] at h,
      fun _ h => by simp [hshot] at h⟩
  · have hshot' : r.shotTaken = false := by simpa using hshot
    rw [if_neg (by rw [hsq]; exact hshot), horigin]
    split
    · next ho => exact enterPhase_returned hsq hstate hkind hshot' (fun _ => ⟨rfl, rfl⟩) (by simp [ho])
    · next ho => exact enterPhase_returned hsq hstate hkind hshot' (by simp [ho]) fun _ => ⟨rfl, rfl⟩
    · next hc hw =>
      exact enterPhase_returned hsq hstate hkind hshot' (fun h => (hc h).elim) fun h => (hw h).elim

theorem tieDown_congr {s t : State} (hfixed : t.fixed = s.fixed) (hties : t.ties = s.ties) :
    tieDown t f = tieDown s f := by
  obtain ⟨-, -, hsection⟩ := settings_of_fixed hfixed f
  simp only [tieDown, sectionTie, State.tie, hsection, hties]

/-- What the abort of a test leaves of its feeder (R115 to R117), when its wait for the far end is not ended
at once by a DOWN tie (R104). -/
theorem abortTest_returned (hstate : (s.sq f).state = .testing)
    (hlatched : s.rect.latched.get f = false)
    (hwait : ¬ ((s.sq f).test.kind ≠ some .manual ∧ (s.sq f).shotTaken = false
      ∧ (s.sq f).test.origin = some .awaitingFarEnd ∧ tieDown s f = true)) :
    (s.sq f).Returned (abortResult reason uAvg ubAvg) (s.feeder f).row.test
      ((abortTest f reason uAvg ubAvg s).sq f) := by
  obtain ⟨hl, hsq⟩ := abortTesting_sq (reason := reason) (uAvg := uAvg) (ubAvg := ubAvg) hlatched
  have hfixed : (abortTesting f reason uAvg ubAvg s).fixed = s.fixed := abortTesting_fixed ..
  obtain ⟨hrow, -, -⟩ := settings_of_fixed hfixed f
  have hdown : tieDown (enterFarEndWait f (abortTesting f reason uAvg ubAvg s)) f = tieDown s f :=
    tieDown_congr ((enterFarEndWait_fixed ..).trans hfixed)
      (FeederServed.ties (f := f) (FeederServed.refl.abortEffects.leaveTesting.enterPhase))
  unfold abortTest
  generalize abortTesting f reason uAvg ubAvg s = t at *
  have hkind : (t.sq f).test.kind = (s.sq f).test.kind := by rw [hsq]; rfl
  have htesting : (t.sq f).state = .testing := by rw [hsq]; exact hstate
  unfold abortReturn
  dsimp only
  rw [hkind]
  split
  · next hk =>
    obtain ⟨-, hleft⟩ := leaveTesting_sq hl
    rw [if_neg (by simp [htesting]), reportFeederState, submit_sq, enterState, enterCore_sq,
      if_pos (by simp [htesting]), hleft, hsq]
    exact ⟨rfl, rfl, rfl, rfl, rfl, rfl, fun _ => rfl, by simp [tripLevel], fun _ => ⟨rfl, rfl⟩,
      fun h => by simp [hk] at h, fun h => by simp [hk] at h, fun h => by simp [hk] at h⟩
  · next hk =>
    rw [← hrow]
    split
    · next hfar =>
      obtain ⟨hshot, horigin, -, -⟩ := hfar
      rw [hsq] at hshot horigin
      have hnot : ¬ tieDown (enterFarEndWait f t) f = true := fun hd =>
        hwait ⟨hk, hshot, horigin, hdown ▸ hd⟩
      rw [enterFarEnd, if_neg hnot]
      have horigin' : (s.sq f).test.origin = some .awaitingFarEnd := horigin
      exact enterPhase_returned hsq hstate hk hshot (by simp [horigin']) fun _ => ⟨rfl, rfl⟩
    · exact returnAfterFlag_returned hsq hstate hk

/-- The abort of a test of a feeder without a latched one, with room for its report and its TEST_OPEN (R115
to R117). -/
theorem abortTest_abortedTo (hstate : (s.sq f).state = .testing)
    (hlatched : s.rect.latched.get f = false) (hroom : s.reports.length < 64) :
    AbortedTo f reason uAvg ubAvg s (abortTest f reason uAvg ubAvg s) := by
  have hrest : UnitActs (abortEffects f reason uAvg ubAvg s) (abortTest f reason uAvg ubAvg s) :=
    UnitActs.refl.leaveTesting.abortReturn
  refine ⟨(abortEffects_reported hroom).mono hrest.reports, fun hc hm hnode hq => ?_,
    abortTest_returned hstate hlatched⟩
  exact (abortEffects_commanded hc hm hnode (by omega)).acts hrest

end Sys2Proof.Machine
end

section
/-! PROOF. Feeder samples: the judgement and the samples not accepted (R35 to R39), what an accepted one leaves
(R41 to R44, R53), frozen supervision (R45, R46) and the blind timer (R43, R94). -/

namespace Sys2Proof.Machine

set_option Elab.async false

/-! A sample from the field port -/

@[simp] theorem goodFrame_feeders (p : Port) (s : State) : (goodFrame p s).feeders = s.feeders := by
  dsimp only [goodFrame, reportPort]
  split
  · rw [submit_feeders]; rfl
  · rfl

@[simp] theorem goodFrame_feeder (p : Port) (s : State) (f : FeederId) :
    (goodFrame p s).feeder f = s.feeder f := by rw [State.feeder, goodFrame_feeders]; rfl

section

variable {f : FeederId} {bytes : List Byte} {fr : RxFrame} {s : State}

/-- A SAMPLE of a feeder's measuring unit reaches its intake (R24). -/
theorem exec_feederSample (harrives : Arrives .fp bytes fr s)
    (hrole : (s.nodeRow fr.src).role = .feederMu) (hbinding : (s.nodeRow fr.src).binding = some f)
    (hside : (s.nodeRow fr.src).side = .field) (hkind : fr.kind = .sample) :
    exec (.feederSampleReceived bytes) s = .next (feederSample f fr (goodFrame .fp s)) := by
  have hrow := nodeRow_of_fixed (goodFrame_fixed .fp s) fr.src
  refine congrArg Host.Outcome.next ((harrives.receive_eq s.time).trans ?_)
  simp [switchFrame, switchField, hrow, hrole, hside, hkind, switchSample, hbinding]

/-- A well-formed sample in sequence is recorded or accepted (R35). -/
theorem feederSample_of_taken {x : FeederSample} {g : Nat} (hm : s.mode ≠ .replay)
    (hx : readFeederSample fr.payload = some x)
    (hg : judgeGap (s.feeder f).intake.lastSeq fr.seq = some g) :
    feederSample f fr s = takeFeeder f fr.seq g x (some fr) s := by
  simp [feederSample, hm, hx, hg]

theorem readFeederSample_of_length {payload : List Byte} (h : payload.length ≠ 6) :
    readFeederSample payload = none := by
  unfold readFeederSample
  split
  · exact absurd rfl h
  · rfl

/-- A sample in REPLAY, malformed, duplicate or stale is rejected (R35, R36, R50). -/
theorem feederSample_of_discarded
    (h : s.mode = .replay ∨ fr.payload.length ≠ 6
      ∨ judgeGap (s.feeder f).intake.lastSeq fr.seq = none) :
    feederSample f fr s = reject .fp s := by
  unfold feederSample
  split
  · rfl
  next hm =>
    obtain h | h | h := h
    · exact absurd h hm
    · rw [readFeederSample_of_length h]
    · rw [h]; split <;> rfl

end

/-! The judgement -/

/-- A sample after another is judged by the difference of their numbers modulo 256 (R37). -/
theorem judgeGap_some (l q : Byte) :
    judgeGap (some l) q =
      if (q.toNat + 256 - l.toNat) % 256 = 0 then none
      else if 129 ≤ (q.toNat + 256 - l.toNat) % 256 then none
      else some ((q.toNat + 256 - l.toNat) % 256) := by
  have hgap : (q - l).toNat = (q.toNat + 256 - l.toNat) % 256 := by
    rw [BitVec.toNat_sub]
    have := l.isLt
    omega
  simp only [judgeGap, hgap, ite_or]
  rfl

/-- Settles O24: the judgement case by case; a sample under UNIT_FAULT is recorded; any other that is not
accepted is rejected before it reaches intake. -/
theorem feederSampleNotAccepted : Obligations.FeederSampleNotAccepted := by
  refine ⟨⟨fun _ => rfl, judgeGap_some, fun _ _ => ⟨rfl, rfl⟩⟩, ?_, ?_⟩
  · rintro f bytes fr x g s ⟨harrives, hrole, hbinding, hside, hm⟩ hkind hx hg hfault
    rw [exec_feederSample harrives hrole hbinding hside hkind,
      feederSample_of_taken (by rwa [mode_of_fixed (goodFrame_fixed .fp s)]) hx (by rwa [goodFrame_feeder])]
    simp only [takeFeeder, hfault, if_true, recordFault, State.setIntake, goodFrame_feeder, carryAfter]
  · intro f bytes fr s harrives hrole hbinding hside hkind h
    rw [exec_feederSample harrives hrole hbinding hside hkind, feederSample_of_discarded]
    rwa [mode_of_fixed (goodFrame_fixed .fp s), goodFrame_feeder]

/-! Frozen supervision -/

section

variable {f : FeederId} {x : FeederTaken} {s : State}

/-- A feeder unit as FROZEN leaves it, before its sequence unit is told (R45, R53). -/
def FeederUnit.frozenSet (u : FeederUnit) : FeederUnit :=
  { u with
    intake := { u.intake with frozenCount := 0, clearingCount := 0 }
    prot := u.prot.atRest
    sq := { u.sq with frozen := true } }

/-- Setting FROZEN leaves the unit so but for what the sequence unit does with the notice (R94). -/
theorem setFrozen_acts (f : FeederId) (i : Int) (s : State) :
    UnitActs (s.setFeeder f (s.feeder f).frozenSet) (setFrozen f i s) :=
  UnitActs.refl.submit.flagAction

/-- What setting FROZEN leaves of the feeder's intake, flags and protection. -/
theorem setFrozen_unit (f : FeederId) (i : Int) (s : State) :
    ((setFrozen f i s).feeder f).SameIntake (s.feeder f).frozenSet
      ∧ ((setFrozen f i s).feeder f).SameImage (s.feeder f).frozenSet := by
  have h := setFrozen_acts f i s
  have hi := (IntakeKept.refl.acts h) f
  have hm := h.imageKept f
  rw [State.setFeeder_feeder_same] at hi hm
  exact ⟨hi, hm⟩

theorem repeats_iff :
    repeats s f x = true ↔
      (s.feeder f).sq.state = .closed ∧ (s.rect.state = .running ∨ s.rect.state = .probe)
        ∧ x.resumption = false ∧ (s.feeder f).row.intake.iRippleMin ≤ x.i.natAbs ∧ x.i = x.previous := by
  simp [repeats, State.sq, and_assoc]

theorem frozenSample_of_clear (h : (s.feeder f).sq.frozen = false) :
    frozenSample f x s = detectFrozen f x s := by simp [frozenSample, State.sq, h]

theorem frozenSample_of_set (h : (s.feeder f).sq.frozen = true) :
    frozenSample f x s = clearFrozen f x s := by simp [frozenSample, State.sq, h]

end

/-- Settles O25: detection and clearing branch by branch; the sequence unit, told of FROZEN, reaches neither
the intake record nor the elements at rest. -/
theorem frozenSupervision : Obligations.FrozenSupervision := by
  intro f x s
  refine ⟨fun hf hc hn => ?_, fun hf hc hn => ?_, fun hf hc => ?_, fun hf hp => ?_, fun hf hp hq => ?_,
    fun hf hp hr hi hn => ?_, fun hf hp hr hi hn => ?_⟩
  · rw [frozenSample_of_clear hf, detectFrozen, if_pos (repeats_iff.mpr hc), if_neg (Nat.not_le.mpr hn)]
  · rw [frozenSample_of_clear hf, detectFrozen, if_pos (repeats_iff.mpr hc), if_pos hn]
    obtain ⟨hi, hm⟩ := setFrozen_unit f x.i s
    obtain ⟨hioc, hddl⟩ := hm.resting (s.feeder f).prot.atRest_resting
    exact ⟨hi.frozen, hi.intake, hioc, hddl, hm.theta⟩
  · rw [frozenSample_of_clear hf, detectFrozen, if_neg (mt repeats_iff.mp hc)]
  all_goals rw [frozenSample_of_set hf, clearFrozen]
  · simp only [hp]
  · simp only [hp, if_pos hq]
  · simp [hp, hr, hi, show ¬ 32 ≤ (s.feeder f).intake.clearingCount + 1 by omega]
  · simp [hp, hr, hi, hn]

/-! An accepted sample -/

section

variable {f : FeederId} {seq : Byte} {x : FeederTaken} {s t u : State}

/-- The blind watchdog, protection, frozen supervision and the sequence unit take an accepted sample (R41,
R43 to R46, R52). -/
def serveSample (f : FeederId) (seq : Byte) (x : FeederTaken) (s : State) : State :=
  sequenceSample f x (frozenSample f x (protectionSample f x (watchSample f seq s)))

/-- What happens at one feeder reaches the intake of no other. -/
def UnitServed (f : FeederId) (s t : State) : Prop := ∀ e, e ≠ f → (t.feeder e).SameIntake (s.feeder e)

theorem UnitServed.refl : UnitServed f s s := fun _ _ => .refl _

theorem UnitServed.trans (h : UnitServed f s t) (h' : UnitServed f t u) : UnitServed f s u :=
  fun e he => (h' e he).trans (h e he)

theorem IntakeKept.served (h : IntakeKept s t) : UnitServed f s t := fun e _ => h e

theorem UnitServed.setFeeder {v : FeederUnit} (h : UnitServed f s t) :
    UnitServed f s (t.setFeeder f v) :=
  h.trans fun e he => by rw [State.setFeeder_feeder_ne _ _ he]; exact .refl _

theorem UnitServed.setIntake {k : FeederIntake} (h : UnitServed f s t) :
    UnitServed f s (t.setIntake f k) := h.setFeeder

theorem UnitServed.setSq {r : FeederRec} (h : UnitServed f s t) : UnitServed f s (t.setSq f r) :=
  h.setFeeder

theorem UnitServed.submit {kind : ReportKind} {src : Source} {c : Option Cause} {v w : Option Int}
    (h : UnitServed f s t) : UnitServed f s (submit kind src c v w t) :=
  h.trans IntakeKept.refl.submit.served

theorem UnitServed.ite {cond : Prop} {dec : Decidable cond} (ht : UnitServed f s t)
    (hu : UnitServed f s u) : UnitServed f s (if cond then t else u) := by split <;> assumption

theorem watchSample_served (f : FeederId) (seq : Byte) (s : State) :
    UnitServed f s (watchSample f seq s) :=
  .ite .refl (.ite UnitServed.refl.setIntake.setSq.submit UnitServed.refl.setIntake)

/-- Outside OUT the blind timer restarts and BLIND ends (R43, R44). -/
theorem watchSample_unit (f : FeederId) (seq : Byte) (s : State) :
    (watchSample f seq s).feeder f =
      if (s.feeder f).sq.state = .out then s.feeder f
      else
        { s.feeder f with
          intake := { (s.feeder f).intake with
                      blindTimer := some ((s.feeder f).row.intake.tBlind * 1000) }
          sq := { (s.feeder f).sq with blind := false } } := by
  unfold watchSample
  dsimp only
  split
  · rfl
  split
  · simp [ms]
  · next hb =>
    have hb' : (s.feeder f).sq.blind = false := by simpa using hb
    rw [State.setIntake_feeder_same, ← hb']
    rfl

/-- What frozen supervision can do: move its counts, set FROZEN, or clear it (R45, R46). -/
theorem frozenSample_cases (f : FeederId) (x : FeederTaken) (s : State) :
    (∃ a b, frozenSample f x s =
        s.setIntake f { (s.feeder f).intake with frozenCount := a, clearingCount := b })
      ∨ ((s.feeder f).sq.frozen = false ∧ frozenSample f x s = setFrozen f x.i s)
      ∨ frozenSample f x s =
          submit .frozenClear (.feeder f) none none none
            (s.setFeeder f
              { s.feeder f with
                intake := { (s.feeder f).intake with clearingCount := 0 }
                sq := { (s.feeder f).sq with frozen := false } }) := by
  by_cases hf : (s.feeder f).sq.frozen = true
  · rw [frozenSample_of_set hf]
    unfold clearFrozen
    dsimp only
    split
    · exact .inl ⟨_, _, rfl⟩
    split
    · exact .inl ⟨_, _, rfl⟩
    split
    · exact .inr (.inr rfl)
    · exact .inl ⟨_, _, rfl⟩
  · have hf' : (s.feeder f).sq.frozen = false := by simpa using hf
    rw [frozenSample_of_clear hf']
    unfold detectFrozen
    dsimp only
    split
    · split
      · exact .inr (.inl ⟨hf', rfl⟩)
      · exact .inl ⟨_, _, rfl⟩
    · exact .inl ⟨_, _, rfl⟩

theorem frozenSample_served (f : FeederId) (x : FeederTaken) (s : State) :
    UnitServed f s (frozenSample f x s) := by
  obtain ⟨a, b, h⟩ | ⟨-, h⟩ | h := frozenSample_cases f x s
  all_goals rw [h]
  · exact UnitServed.refl.setIntake
  · have hset : UnitServed f s (s.setFeeder f (s.feeder f).frozenSet) := UnitServed.refl.setFeeder
    exact hset.trans (IntakeKept.refl.acts (setFrozen_acts f x.i s)).served
  · exact UnitServed.refl.setFeeder.submit

/-- Frozen supervision moves the two counts and the flag, and sets the flag with the elements at rest (R45,
R46, R53). -/
theorem frozenSample_unit (f : FeederId) (x : FeederTaken) (s : State) :
    let v := (frozenSample f x s).feeder f
    (∃ a b, v.intake = { (s.feeder f).intake with frozenCount := a, clearingCount := b })
      ∧ v.sq.blind = (s.feeder f).sq.blind
      ∧ ((s.feeder f).sq.frozen = false → v.sq.frozen = true → v.prot.Resting) := by
  obtain ⟨a, b, h⟩ | ⟨-, h⟩ | h := frozenSample_cases f x s
  all_goals rw [h]
  · rw [State.setIntake_feeder_same]
    exact ⟨⟨a, b, rfl⟩, rfl, fun h0 h1 => by simp [h0] at h1⟩
  · obtain ⟨hi, hm⟩ := setFrozen_unit f x.i s
    exact ⟨⟨0, 0, hi.intake⟩, hi.blind, fun _ _ => hm.resting (s.feeder f).prot.atRest_resting⟩
  · rw [submit_feeder, State.setFeeder_feeder_same]
    exact ⟨⟨_, 0, rfl⟩, rfl, fun _ h1 => by simp at h1⟩

theorem serveSample_served (f : FeederId) (seq : Byte) (x : FeederTaken) (s : State) :
    UnitServed f s (serveSample f seq x s) :=
  (((watchSample_served f seq s).trans IntakeKept.refl.protectionSample.served).trans
    (frozenSample_served f x _)).trans (sequenceSample_kept f x _).1.served

/-- The services of an accepted sample leave its intake record with the blind timer restarted outside OUT and
the counts of frozen supervision, and FROZEN newly set with the elements at rest (R43, R45, R53). -/
theorem serveSample_unit (f : FeederId) (seq : Byte) (x : FeederTaken) (s : State) :
    let u := s.feeder f
    let v := (serveSample f seq x s).feeder f
    (∃ a b, v.intake =
        { u.intake with
          blindTimer :=
            if u.sq.state = .out then u.intake.blindTimer else some (u.row.intake.tBlind * 1000)
          frozenCount := a, clearingCount := b })
      ∧ (u.sq.state ≠ .out → v.sq.blind = false)
      ∧ (u.sq.frozen = false → v.sq.frozen = true → v.prot.Resting) := by
  obtain ⟨hkept, himage⟩ := sequenceSample_kept f x
    (frozenSample f x (protectionSample f x (watchSample f seq s)))
  have hseq := hkept f
  obtain ⟨⟨a, b, hintake⟩, hblind, hrest⟩ :=
    frozenSample_unit f x (protectionSample f x (watchSample f seq s))
  have hprot : IntakeKept _ (protectionSample f x (watchSample f seq s)) :=
    IntakeKept.refl.protectionSample
  have hprot := hprot f
  have hwatch := watchSample_unit f seq s
  refine ⟨⟨a, b, ?_⟩, fun ho => ?_, fun h0 h1 => ?_⟩
  · rw [serveSample, hseq.intake, hintake, hprot.intake, hwatch]
    split <;> rfl
  · rw [serveSample, hseq.blind, hblind, hprot.blind, hwatch, if_neg ho]
  · rw [serveSample, hseq.frozen] at h1
    refine (himage f).resting (hrest ?_ h1)
    rw [hprot.frozen, hwatch]
    split <;> exact h0

/-- An intake record with an accepted sample as its newest (R37, R38, R39, R42). -/
def FeederIntake.accepted (seq : Byte) (x : FeederTaken) (k : FeederIntake) : FeederIntake :=
  { k with
    lastSeq := some seq
    resumption := false
    carry := 0
    lastAccepted := some (x.i, x.u)
    faultOnset := false
    ring :=
      pushRing k.ring
        { i := x.i, u := x.u, ub := x.ub, seq := seq, gap := if 1 < x.gap then some x.gap else none } }

theorem recordAccepted_eq (f : FeederId) (seq : Byte) (x : FeederTaken) (s : State) :
    recordAccepted f seq x s = s.setIntake f ((s.feeder f).intake.accepted seq x) := rfl

@[simp] theorem storePositions_feeders (f : FeederId) (k : SlotId) (positions : List (Option Point))
    (s : State) : (storePositions f k positions s).feeders = s.feeders := by
  unfold storePositions
  dsimp only
  split
  · rfl
  · rw [submit_feeders]; rfl

/-- A filling capture takes a sample beside the feeders (R169). -/
@[simp] theorem fillCapture_feeders (f : FeederId) (h : Nat) (p : Point) (s : State) :
    (fillCapture f h p s).feeders = s.feeders := by
  unfold fillCapture
  split
  · rfl
  · exact storePositions_feeders ..

/-- Of the feeders, a decimated copy reaches the decimation count of its own (R33). -/
theorem decimate_unit (f : FeederId) (fr : RxFrame) (s : State) :
    (∃ d, (decimate f fr s).feeder f = { s.feeder f with decim := d })
      ∧ ∀ e, e ≠ f → (decimate f fr s).feeder e = s.feeder e := by
  have hset : ∀ d, (∃ d', (s.setFeeder f { s.feeder f with decim := d }).feeder f
      = { s.feeder f with decim := d' })
      ∧ ∀ e, e ≠ f → (s.setFeeder f { s.feeder f with decim := d }).feeder e = s.feeder e := fun d =>
    ⟨⟨d, State.setFeeder_feeder_same ..⟩, fun e he => State.setFeeder_feeder_ne _ _ he⟩
  unfold decimate
  dsimp only
  split
  · exact ⟨⟨_, rfl⟩, fun _ _ => rfl⟩
  split
  · rw [offerForwarded_eq]; exact hset 0
  · exact hset _

/-- A feeder sample recorded and handed to the captures and the copies, before it is served. -/
def sampleRecorded (f : FeederId) (seq : Byte) (x : FeederTaken) (copy : Option RxFrame) (s : State) :
    State :=
  let recorded := fillCapture f x.gap ⟨x.i, x.u, x.ub⟩ (recordAccepted f seq x s)
  match copy with
  | some fr => decimate f fr recorded
  | none => recorded

theorem sampleRecorded_unit (f : FeederId) (seq : Byte) (x : FeederTaken) (copy : Option RxFrame)
    (s : State) :
    (∃ d, (sampleRecorded f seq x copy s).feeder f =
        { s.feeder f with intake := (s.feeder f).intake.accepted seq x, decim := d })
      ∧ ∀ e, e ≠ f → (sampleRecorded f seq x copy s).feeder e = s.feeder e := by
  have hfill := fillCapture_feeders f x.gap ⟨x.i, x.u, x.ub⟩ (recordAccepted f seq x s)
  have hfeeder : ∀ e, (fillCapture f x.gap ⟨x.i, x.u, x.ub⟩ (recordAccepted f seq x s)).feeder e
      = (recordAccepted f seq x s).feeder e := fun e => congrArg (fun v => PerFeeder.get v e) hfill
  have hsame := hfeeder f
  rw [recordAccepted_eq, State.setIntake_feeder_same] at hsame
  have hne : ∀ e, e ≠ f → _ := fun e he =>
    (hfeeder e).trans (State.setIntake_feeder_ne s ((s.feeder f).intake.accepted seq x) he)
  unfold sampleRecorded
  dsimp only
  split
  · obtain ⟨⟨d, hd⟩, hothers⟩ := decimate_unit f ‹_› (fillCapture f x.gap ⟨x.i, x.u, x.ub⟩
      (recordAccepted f seq x s))
    exact ⟨⟨d, by rw [hd, recordAccepted_eq, hsame]⟩, fun e he => (hothers e he).trans (hne e he)⟩
  · exact ⟨⟨_, hsame⟩, hne⟩

/-- What an accepted sample leaves of its feeder: the record of the sample, with the blind timer restarted
outside OUT and the counts of frozen supervision, the flags, and no other feeder's intake (R41 to R46, R53). -/
theorem acceptFeeder_unit (f : FeederId) (seq : Byte) (g : Nat) (y : FeederSample)
    (copy : Option RxFrame) (s : State) :
    let u := s.feeder f
    let v := (acceptFeeder f seq g y copy s).feeder f
    (∃ a b, v.intake =
        { u.intake.accepted seq (handOn s f g y) with
          blindTimer :=
            if u.sq.state = .out then u.intake.blindTimer else some (u.row.intake.tBlind * 1000)
          frozenCount := a, clearingCount := b })
      ∧ (u.sq.state ≠ .out → v.sq.blind = false)
      ∧ (u.sq.frozen = false → v.sq.frozen = true → v.prot.Resting)
      ∧ ∀ e, e ≠ f → ((acceptFeeder f seq g y copy s).feeder e).SameIntake (s.feeder e) := by
  have heq : acceptFeeder f seq g y copy s =
      serveSample f seq (handOn s f g y) (sampleRecorded f seq (handOn s f g y) copy s) := rfl
  obtain ⟨⟨d, hd⟩, hothers⟩ := sampleRecorded_unit f seq (handOn s f g y) copy s
  have hunit := serveSample_unit f seq (handOn s f g y) (sampleRecorded f seq (handOn s f g y) copy s)
  have hserved := serveSample_served f seq (handOn s f g y) (sampleRecorded f seq (handOn s f g y) copy s)
  rw [hd] at hunit
  rw [heq]
  obtain ⟨hintake, hblind, hrest⟩ := hunit
  exact ⟨hintake, hblind, hrest, fun e he => hothers e he ▸ hserved e he⟩

end

/-- Settles O23: the record of the sample outlasts its services, none of which reaches another feeder's
intake or the settings. -/
theorem feederSampleAccepted : Obligations.FeederSampleAccepted := by
  rintro f bytes fr x g s ⟨harrives, hrole, hbinding, hside, hm⟩ hkind hx hg hfault
  have hgood := goodFrame_fixed .fp s
  refine ⟨acceptFeeder f fr.seq g x (some fr) (goodFrame .fp s), ?_, ?_⟩
  · rw [exec_feederSample harrives hrole hbinding hside hkind,
      feederSample_of_taken (by rwa [mode_of_fixed hgood]) hx (by rwa [goodFrame_feeder]), takeFeeder,
      if_neg (by simp [hfault])]
  have hfixed : (acceptFeeder f fr.seq g x (some fr) (goodFrame .fp s)).fixed = s.fixed :=
    (acceptFeeder_fixed ..).trans hgood
  have hub : (goodFrame .fp s).rectIntake = s.rectIntake := rectIntake_of_fixed hgood
  obtain ⟨⟨a, b, hintake⟩, hblind, hrest, hothers⟩ :=
    acceptFeeder_unit f fr.seq g x (some fr) (goodFrame .fp s)
  simp only [goodFrame_feeder] at hintake hblind hrest hothers
  dsimp only
  rw [hintake]
  refine ⟨rfl, rfl, rfl, rfl, ?_, ?_, fun ho => ⟨if_neg ho, hblind ho⟩, hrest,
    fun e he => (hothers e he).intake, fun e => (settings_of_fixed hfixed e).1,
    rectIntake_of_fixed hfixed, nodes_of_fixed hfixed, requests_of_fixed hfixed, mode_of_fixed hfixed,
    time_of_fixed hfixed⟩
  · rfl
  · simp only [FeederIntake.accepted, handOn, pushRing, hub, goodFrame_feeder]
    rfl

/-! The blind timer -/

section

variable {f : FeederId} {s : State}

/-- A feeder unit as the expiry of its blind timer leaves it, before its sequence unit is told (R43, R53). -/
def FeederUnit.blindSet (u : FeederUnit) : FeederUnit :=
  { u with
    intake :=
      { u.intake with
        blindTimer := none, lastSeq := none, resumption := true, carry := 0
        frozenCount := 0, clearingCount := 0 }
    prot := u.prot.atRest
    sq := { u.sq with blind := true } }

/-- The expiry of a blind timer, reported and not yet told to the sequence unit (R43). -/
def blindReported (f : FeederId) (s : State) : State :=
  submit .blind (.feeder f) none (some (s.feeder f).row.intake.tBlind) none
    (s.setFeeder f (s.feeder f).blindSet)

theorem blindExpired_eq (h : (s.feeder f).intake.blindTimer ≠ none) :
    blindExpired f s = flagAction f true (blindReported f s) := if_neg h

@[simp] theorem blindReported_feeder (f : FeederId) (s : State) :
    (blindReported f s).feeder f = (s.feeder f).blindSet := by
  rw [blindReported, submit_feeder, State.setFeeder_feeder_same]

@[simp] theorem blindReported_sq (f : FeederId) (s : State) :
    (blindReported f s).sq f = { s.sq f with blind := true } := congrArg FeederUnit.sq (blindReported_feeder f s)

@[simp] theorem blindReported_mode (f : FeederId) (s : State) : (blindReported f s).mode = s.mode := by
  rw [blindReported, submit_mode]; rfl

@[simp] theorem blindReported_rect (f : FeederId) (s : State) : (blindReported f s).rect = s.rect := by
  rw [blindReported, submit_rect]; rfl

@[simp] theorem blindReported_ports (f : FeederId) (s : State) : (blindReported f s).ports = s.ports := by
  rw [blindReported, submit_ports]; rfl

theorem blindReported_fixed (f : FeederId) (s : State) : (blindReported f s).fixed = s.fixed := by
  rw [blindReported, submit_fixed]; exact State.setFeeder_fixed _ _ _ rfl rfl rfl

theorem blindReported_ties (f : FeederId) (s : State) : (blindReported f s).ties = s.ties := by
  rw [blindReported, submit_ties]; rfl

/-- Beside the feeder the report alone changes. -/
theorem blindReported_frame (f : FeederId) (s : State) :
    (blindReported f s).reports
        = (submit .blind (.feeder f) none (some (s.feeder f).row.intake.tBlind) none s).reports
      ∧ ((blindReported f s).putFeeder f s).putReports s = s := by
  refine ⟨(submit_congr (s := s.setFeeder f (s.feeder f).blindSet) (t := s) _ _ _ _ _ rfl rfl rfl rfl).1, ?_⟩
  unfold blindReported submit
  split <;> simp [State.putFeeder, State.putReports, State.setFeeder, State.feeder]

/-! Trips with no intertrip -/

/-- A capture trigger reaches the slots and the reports alone (R168, R169). -/
theorem trigger_beside (f : FeederId) (kind : TriggerKind) (s : State) :
    (trigger f kind s).feeders = s.feeders ∧ (trigger f kind s).rect = s.rect
      ∧ (trigger f kind s).ports = s.ports ∧ s.reports <+: (trigger f kind s).reports := by
  refine ⟨?_, ?_, ?_, UnitActs.refl.trigger.reports⟩
  all_goals
    unfold trigger
    split
    · rfl
    · rfl
    · simp

/-- A feeder not in TESTING changes its state without a word to the group (R107). -/
theorem enterState_of_not_testing {new : FeederState} {cause : Option LockoutCause}
    (h : (s.sq f).state ≠ .testing) : enterState f new cause s = enterCore f new cause s := by
  simp [enterState, h]

/-- A trip started and not yet reported (R83). -/
def tripEntered (f : FeederId) (req : TripRequest) (s : State) : State :=
  let s1 := offerSeq (.breaker f .trip) (enterCore f .tripping none s)
  s1.setSq f ((s1.sq f).tripped req (s.sq f).sotf.isSome (ms (s.feeder f).row.brk.tOpenMax))

theorem tripEntered_sq (f : FeederId) (req : TripRequest) (s : State) :
    (tripEntered f req s).sq f =
      ((s.sq f).entered s.mode .tripping none).tripped req (s.sq f).sotf.isSome
        ((s.feeder f).row.brk.tOpenMax * 1000) := by
  simp only [tripEntered, State.setSq_sq_same, offerSeq_sq, enterCore_sq, ms]

theorem offerSeq_feeder_ne {c : FieldCommand} {g : FeederId} (h : c.feeder? ≠ some g) (s : State) :
    (offerSeq c s).feeder g = s.feeder g := by
  unfold offerSeq
  split
  · rfl
  · exact offerField_feeder_ne h s

@[simp] theorem offerSeq_rect (c : FieldCommand) (s : State) : (offerSeq c s).rect = s.rect := by
  unfold offerSeq; split <;> simp

@[simp] theorem offerSeq_reports (c : FieldCommand) (s : State) : (offerSeq c s).reports = s.reports := by
  unfold offerSeq; split <;> simp

/-- The entry to TRIPPING reaches no other feeder, no state of the group and no report. -/
theorem tripEntered_beside (f : FeederId) (req : TripRequest) (s : State) :
    (∀ e, e ≠ f → (tripEntered f req s).feeder e = s.feeder e)
      ∧ (tripEntered f req s).rect.state = s.rect.state ∧ (tripEntered f req s).reports = s.reports := by
  have hother : ∀ e, e ≠ f → (FieldCommand.breaker f .trip).feeder? ≠ some e := fun e he h =>
    he (Option.some.inj h).symm
  refine ⟨fun e he => ?_, ?_, ?_⟩
  · rw [tripEntered, State.setSq_feeder_ne _ _ he, offerSeq_feeder_ne (hother e he),
      enterCore_feeder_ne _ _ _ he]
  · simp only [tripEntered, State.setSq_rect, offerSeq_rect, enterCore_rect]
    split <;> rfl
  · simp only [tripEntered, State.setSq_reports, offerSeq_reports, enterCore_reports]

/-- In SERVICE the entry to TRIPPING offers TRIP to the breaker unit (R83). -/
theorem tripEntered_commanded {req : TripRequest} (hm : s.mode = .service)
    (hnode : (findNode s .breaker (some f)).isSome = true) (hroom : (s.port .fp).urgent.length < 24) :
    Commanded (tripEntered f req s) (.breaker f .trip) := by
  have hfixed := enterCore_fixed f .tripping none s
  have hmode : (enterCore f .tripping none s).mode = .service := (mode_of_fixed hfixed).trans hm
  have hoffer : Commanded (offerSeq (.breaker f .trip) (enterCore f .tripping none s)) (.breaker f .trip) := by
    rw [offerSeq, if_neg (by simp [hmode])]
    refine offerField_commanded (by simp [hmode]) ?_ ?_
    · rw [commandNode, findNode_of_fixed hfixed]; exact hnode
    · rw [State.port, enterCore_ports]; exact hroom
  exact hoffer

/-- A trip whose cause asks for no intertrip is its entry, its report and its capture (R83). -/
theorem startTrip_eq {req : TripRequest} (hs : (s.sq f).state ≠ .testing)
    (hinter : req.primary.inter = none) :
    startTrip f req s =
      if (s.feeder f).row.brk.capture then
        trigger f .trip
          (submit .trip (.feeder f) (some req.primary.cause) req.i req.value2 (tripEntered f req s))
      else submit .trip (.feeder f) (some req.primary.cause) req.i req.value2 (tripEntered f req s) := by
  unfold startTrip
  rw [enterState_of_not_testing hs]
  simp only [hinter]
  rfl

/-- What such a trip leaves beside its entry: the report, and neither a feeder nor a port reached (R83). -/
theorem startTrip_beside {req : TripRequest} (hs : (s.sq f).state ≠ .testing)
    (hinter : req.primary.inter = none) :
    (startTrip f req s).feeders = (tripEntered f req s).feeders
      ∧ (startTrip f req s).rect = (tripEntered f req s).rect
      ∧ (startTrip f req s).ports = (tripEntered f req s).ports
      ∧ (s.reports.length < 64 →
          Reported (startTrip f req s) .trip (.feeder f) (some req.primary.cause) req.i req.value2) := by
  obtain ⟨-, -, hreports⟩ := tripEntered_beside f req s
  obtain ⟨hfeeders, hrect, hports, hprefix⟩ := trigger_beside f .trip
    (submit .trip (.feeder f) (some req.primary.cause) req.i req.value2 (tripEntered f req s))
  have hreported : s.reports.length < 64 → _ := fun h =>
    reported_submit .trip (.feeder f) (some req.primary.cause) req.i req.value2 (hreports ▸ h)
  rw [startTrip_eq hs hinter]
  split
  · exact ⟨hfeeders.trans (submit_feeders ..), hrect.trans (submit_rect ..),
      hports.trans (submit_ports ..), fun h => (hreported h).mono hprefix⟩
  · exact ⟨submit_feeders .., submit_rect .., submit_ports .., hreported⟩

/-- The feeder after such a trip. -/
theorem startTrip_sq {req : TripRequest} (hs : (s.sq f).state ≠ .testing)
    (hinter : req.primary.inter = none) :
    (startTrip f req s).sq f =
      ((s.sq f).entered s.mode .tripping none).tripped req (s.sq f).sotf.isSome
        ((s.feeder f).row.brk.tOpenMax * 1000) := by
  obtain ⟨hfeeders, -⟩ := startTrip_beside hs hinter
  rw [← tripEntered_sq, State.sq, State.feeder, hfeeders]
  rfl

/-! The notice of a flag -/

theorem singleTrip_inter (s : State) (f : FeederId) (blind : Bool) :
    (singleTrip s f (flagCause blind)).primary.inter = none := by cases blind <;> rfl

/-- The blind action TRIP on a feeder CLOSED (R94). -/
theorem flagAction_of_trip {blind : Bool} (hm : s.mode ≠ .shadow) (hs : (s.sq f).state = .closed)
    (ha : (s.feeder f).row.brk.blindAction = .trip) :
    flagAction f blind s = startTrip f (singleTrip s f (flagCause blind)) s := by
  simp [flagAction, hm, hs, ha, requestTrip]

theorem flagAction_of_alarm {blind : Bool} (hs : (s.sq f).state = .closed)
    (ha : (s.feeder f).row.brk.blindAction = .alarm) : flagAction f blind s = s := by
  simp [flagAction, hs, ha]

theorem flagAction_of_testing {blind : Bool} (hm : s.mode ≠ .shadow) (hs : (s.sq f).state = .testing)
    (ho : (s.sq f).openRequested = false) :
    flagAction f blind s = abortTest f (flagReason blind) none none s := by
  simp [flagAction, hm, hs, ho]

/-- In the states that R94 gives no action the notice has none. -/
theorem flagAction_of_other {blind : Bool} (hc : (s.sq f).state ≠ .closed)
    (ht : (s.sq f).state ≠ .testing) : flagAction f blind s = s := by
  unfold flagAction
  split
  · rfl
  · dsimp only
    split
    · next h => exact absurd h hc
    · next h => exact absurd h ht
    all_goals rfl

end

/-- The abort of a test whose feeder has just gone BLIND, seen from before the expiry. -/
theorem blindReported_abortedTo {f : FeederId} {s : State} (hs : (s.sq f).state = .testing)
    (hl : s.rect.latched.get f = false) (hroom : s.reports.length < 63) :
    AbortedTo f .blind none none s (abortTest f .blind none none (blindReported f s)) := by
  have hsq := blindReported_sq f s
  have hfixed := blindReported_fixed f s
  have hreports : (blindReported f s).reports.length < 64 := by
    rw [(blindReported_frame f s).1, (submit_of_room _ _ _ _ _ (by omega)).1]
    simp; omega
  obtain ⟨hreported, hcommanded, hreturned⟩ :=
    abortTest_abortedTo (f := f) (reason := .blind) (uAvg := none) (ubAvg := none)
      (s := blindReported f s) (by rw [hsq]; exact hs) (by simpa using hl) hreports
  rw [hsq, blindReported_mode, findNode_of_fixed hfixed, State.port, blindReported_ports] at hcommanded
  rw [hsq, tieDown_congr hfixed (blindReported_ties f s), blindReported_feeder] at hreturned
  exact ⟨hreported, hcommanded, hreturned⟩

/-- Settles O32: the expiry sets BLIND and reports it; the sequence unit's answer reaches neither the intake
record nor the elements at rest, and is a trip, an abort or nothing by the state of the feeder. -/
theorem blindTimerExpiry : Obligations.BlindTimerExpiry := by
  intro f s hr ht
  have hexec : exec (.blind f) s = .next (flagAction f true (blindReported f s)) := by
    rw [← blindExpired_eq ht]
    exact congrArg Host.Outcome.next (if_neg (by simp [hr]))
  have hacts : UnitActs (blindReported f s) (flagAction f true (blindReported f s)) := UnitActs.refl.flagAction
  have hunit := (IntakeKept.refl.acts hacts) f
  have himage := hacts.imageKept f
  rw [blindReported_feeder] at hunit himage
  obtain ⟨hioc, hddl⟩ := himage.resting (s.feeder f).prot.atRest_resting
  have hintake : ((flagAction f true (blindReported f s)).feeder f).intake = (s.feeder f).blindSet.intake :=
    hunit.intake
  have hsq := blindReported_sq f s
  have hstate : ((blindReported f s).sq f).state = (s.sq f).state := by rw [hsq]
  have hrow : ((blindReported f s).feeder f).row = (s.feeder f).row := by
    rw [blindReported_feeder]; rfl
  refine ⟨_, hexec, hunit.blind, congrArg (·.blindTimer) hintake, congrArg (·.lastSeq) hintake,
    congrArg (·.resumption) hintake, congrArg (·.carry) hintake, congrArg (·.frozenCount) hintake,
    congrArg (·.ring) hintake, hioc, hddl, himage.theta, fun hs hm ha => ?_, fun hs ha => ?_,
    fun hs ho hm hl hroom => ?_, fun hc hx => ?_⟩
  · have hs' : ((blindReported f s).sq f).state = .closed := hstate.trans hs
    rw [flagAction_of_trip (by simp [hm]) hs' (hrow ▸ ha), startTrip_sq (by rw [hs']; simp) (singleTrip_inter ..)]
    exact ⟨rfl, rfl, by simp [FeederRec.tripped, tripLevel, hm]⟩
  · rw [flagAction_of_alarm (hstate.trans hs) (hrow ▸ ha)]
    exact hstate.trans hs
  · rw [flagAction_of_testing (by simpa using hm) (hstate.trans hs) (by rw [hsq]; exact ho)]
    exact blindReported_abortedTo hs hl (by omega)
  · rw [flagAction_of_other (by rw [hstate]; exact hc) (by rw [hstate]; exact hx)]
    exact ⟨hstate, blindReported_frame f s⟩

end Sys2Proof.Machine
end

section
/-! PROOF. Rectifier samples, refuted: a report that a full queue loses (R135, R139, R164), and a sample count
above its range that an injected sample leaves as it is (R129, R185). -/

namespace Sys2Proof.Machine

set_option Elab.async false

/-! The RECT_FAULT report that finds no room -/

/-- A feeder in the automatic test of its first shot, its contactor OPEN. -/
def crowdedTester : FeederUnit :=
  { FeederUnit.cold with
    sq :=
      { FeederRec.fresh with
        state := .testing, shotCount := 1, shotTaken := true, breaker := .opened, contactor := .opened
        test :=
          { TestRec.fresh with kind := some .auto, origin := some .timing, step := some .liveCheck } } }

/-- A queued report of a key change. -/
def crowdedReport : QueuedReport where
  record :=
    { time := 0#48, timeValid := false, kind := .keyChange, source := .device, cause := none
      value1 := some 1, value2 := none, lostBefore := none }
  age := 0

/-- A group RUNNING that serves the tests of all eight feeders, one sample short of an overcurrent, with 49
reports queued. -/
def crowded : State :=
  { State.reset with
    inReset := false, mode := .service
    nodes := State.reset.nodes.set 5 { unusedRow with role := .rectMu }
    feeders := PerFeeder.const crowdedTester
    rectRow := { RectRow.zero with iRectTrip := 8000, cRect := 2 }
    rect :=
      { RectRec.cold .hold with state := .running, overcurrent := 1, testers := PerFeeder.const true }
    rectIntake := { RectIntake.fresh with lastSeq := some 40#8, resumption := false }
    reports := List.replicate 49 crowdedReport }

/-- A sample of 790 V, 8400 A and 40 degrees. -/
def surge : RectSample where
  ub := 790
  ir := 8400
  temp := 40
  ubOver := false
  irOver := false
  unitFault := false
  crossing := none

/-- The frame that carries it. -/
def surgeFrame : RxFrame where
  kind := .sample
  dest := 20#8
  src := 5#8
  seq := 41#8
  payload := [3#8, 22#8, 0x20#8, 0xD0#8, 40#8, 0#8, 0#8, 0#8, 0#8]

/-- The bytes of the frame. -/
def surgeBytes : List Byte := frameBytes .sample 20#8 5#8 41#8 surgeFrame.payload

theorem crowded_takes_surge : TakesRectSample surgeBytes surgeFrame surge 1 crowded :=
  ⟨⟨none, ⟨rfl, classify_frameBytes _ _ _ _ (by decide), by decide⟩, by decide +kernel⟩, rfl, by decide,
    by decide, rfl⟩

/-- Each aborted test gives two reports, and the queue is full before the group's own. -/
theorem crowded_loses_fault :
    (match exec (.rectSampleReceived 0#48 surgeBytes) crowded with
     | .next t => t.reports.all fun q => q.record.kind != .rectFault
     | _ => false) = true := by decide +kernel

/-- Refutes O26: R139's RECT_FAULT report follows the LINE_TEST and RECLOSE_PHASE reports of the tests that the
fault aborts. With 49 reports queued and eight testers the queue is full before it. -/
theorem not_rectSampleAndSilence : ¬ Obligations.RectSampleAndSilence := by
  rintro ⟨-, -, h, -⟩
  obtain ⟨t, ht, -, -, -, -, htrips, -⟩ :=
    h 0#48 surgeBytes surgeFrame surge 1 crowded crowded_takes_surge rfl (by decide) (.inl rfl)
  obtain ⟨-, -, -, -, -, q, hq, hkind, -⟩ := htrips (by decide) (by decide)
  have hlost := crowded_loses_fault
  rw [ht] at hlost
  simpa [hkind] using List.all_eq_true.mp hlost q hq

/-! A sample count above its range -/

/-- A station's request. -/
def stationTicket : Ticket where
  source := .fromStation
  requester := 1#8
  number := 10#8

/-- A sample of 790 V, 1000 A and 40 degrees. -/
def calm : RectSample := { surge with ir := 1000 }

/-- The payload that carries it. -/
def calmPayload : List Byte := [3#8, 22#8, 3#8, 232#8, 40#8, 0#8, 0#8, 0#8, 0#8]

/-- REPLAY with the group RUNNING and a count of samples that no run reaches. -/
def overcounted : State :=
  { State.reset with
    inReset := false, mode := .replay
    nodes := State.reset.nodes.set 5 { unusedRow with role := .rectMu }
    rectRow := { RectRow.zero with iRectTrip := 8000 }
    rect := { RectRec.cold .hold with state := .running, n := 70000 } }

theorem overcounted_quiet : QuietRect calm overcounted := by unfold QuietRect; decide

/-- The injected sample adds nothing to a count of at least 65535. -/
theorem overcounted_keeps_count :
    (match exec (.inject stationTicket 5 calmPayload) overcounted with
     | .next t => t.rect.n
     | _ => 0) = 70000 := by decide +kernel

/-- The statement's count after the same sample. -/
theorem overcounted_afterRectSample :
    (answer stationTicket .inject .done
      (afterRectSample overcounted.time 0#8 1 calm
        (takeRequest stationTicket (.inject 5 calmPayload) overcounted))).rect.n = 65535 := by
  decide +kernel

/-- Refutes O58: a sample leaves a count n of at least 65535 as it is, where the statement's effects bring it
down to 65535. The two differ from a state whose count is above 65535, which the statement does not shut out. -/
theorem not_sampleInjected : ¬ Obligations.SampleInjected := by
  intro h
  obtain ⟨-, -, -, hrect⟩ := h stationTicket 5 calmPayload overcounted rfl rfl
  obtain ⟨-, -, heffects⟩ := hrect calm rfl (by decide) (by decide +kernel) (by decide)
  have hcount := overcounted_keeps_count
  rw [heffects rfl overcounted_quiet] at hcount
  have h65535 := overcounted_afterRectSample.symm.trans hcount
  exact absurd h65535 (by decide)

end Sys2Proof.Machine
end

section
/-! PROOF. The commands that take a feeder into and out of service and end its lockout (R77 to R79, R82, R94). -/

namespace Sys2Proof.Machine

set_option Elab.async false

/-! The checks of a feeder command -/

section

variable {k : Ticket} {f : FeederId} {s : State}

/-- The source that the key names has the authority (R177). -/
theorem byKey_of_source (h : k.source = if s.key = .atRemote then .fromStation else .fromPanel) :
    byKey k s = (false, .refusedAuthority) := by
  unfold byKey
  rw [h]
  cases s.key <;> rfl

theorem notShadow_of_ne (h : s.mode ≠ .shadow) : notShadow s = (false, .refusedMode) := by
  simp [notShadow, h]

/-- A command of the source that the key names, outside SHADOW and in a state that allows it, is served when it
has left the request queue (R77, R176). -/
theorem exec_feederCommand {i : Instr} {req : Request} {ok : State → FeederId → Bool}
    {effect : FeederId → State → State} (hr : s.inReset = false)
    (hk : k.source = if s.key = .atRemote then .fromStation else .fromPanel) (hm : s.mode ≠ .shadow)
    (hok : ∀ q, ok { s with requests := q } f = true)
    (hexec : exec i s = taking k req (fun st => feederCommand k f.num
      (fun e => [byKey k st, notShadow st, (!ok st e, .refusedState)]) effect st) s := by rfl) :
    ∃ q, exec i s = .next (answer k .feederCmd .done (effect f { s with requests := q })) := by
  obtain ⟨q, hq⟩ := takeRequest_eq k req s
  have hkey : byKey k { s with requests := q } = (false, .refusedAuthority) := byKey_of_source hk
  have hmode : notShadow { s with requests := q } = (false, .refusedMode) := notShadow_of_ne hm
  refine ⟨q, ?_⟩
  rw [hexec, taking_eq hr, hq, feederCommand, FeederId.ofNum_num]
  exact congrArg Host.Outcome.next
    (checked_of_accepted (by simp [firstRefusal, hkey, hmode, hok]) (effect f) _)

end

/-! Changes of state outside the armed states -/

section

variable {f : FeederId} {new old : FeederState} {cause : Option LockoutCause} {s : State}

theorem disarmIfLeft_of_unarmed (h : armed s.mode old = false) : disarmIfLeft f old new s = s := by
  simp [disarmIfLeft, h]

/-- A feeder that was not armed changes in its record alone (R53, R69). -/
theorem enterCore_feeder_of_unarmed (h : armed s.mode (s.sq f).state = false) :
    (enterCore f new cause s).feeder f =
      { s.feeder f with sq := (s.sq f).entered s.mode new cause } := by
  unfold enterCore
  dsimp only
  rw [disarmIfLeft_of_unarmed, State.setSq_feeder_same]
  · split <;> rfl
  · split <;> exact h

@[simp] theorem enterCore_loss (f : FeederId) (new : FeederState) (cause : Option LockoutCause)
    (s : State) : (enterCore f new cause s).loss = s.loss := by
  unfold enterCore disarmIfLeft withdrawLatched
  dsimp only
  repeat' split
  all_goals rfl

theorem unarmed_of_resting {m : Mode} {st : FeederState}
    (h : st = .out ∨ st = .opened ∨ st = .lockout) : armed m st = false := by
  obtain rfl | rfl | rfl := h <;> cases m <;> rfl

/-- A feeder with no pending test changes its state without a word to the group (R100, R132). -/
theorem enterCore_rect_of_no_test (h : (s.sq f).pendingTest = false) :
    (enterCore f new cause s).rect = s.rect := by
  rw [enterCore_rect, if_neg (by simp [h])]

end

/-! Into service -/

section

variable {f : FeederId} {new : FeederState} {reclaim : Timer} {s : State}

/-- A feeder unit as IN_SERVICE prepares it (R43, R78). -/
def FeederUnit.readied (u : FeederUnit) (reclaim : Timer) : FeederUnit :=
  { u with
    intake := { u.intake with blindTimer := some (u.row.intake.tBlind * 1000) }
    sq := { u.sq.clearedForService with reclaim := reclaim } }

/-- A feeder taken into OPEN or CLOSED, its flags not yet looked at (R78). -/
def takenIntoService (f : FeederId) (new : FeederState) (reclaim : Timer) (s : State) : State :=
  reportFeederState f new .out
    (enterCore f new none (s.setFeeder f ((s.feeder f).readied reclaim)))

theorem serveInService_of_closed (hs : (s.sq f).state = .out) (hb : (s.sq f).breaker = .closed) :
    serveInService f s = closedFlags f (takenIntoService f .closed none s) := by
  have hready : ((s.setSq f (s.sq f).clearedForService).setIntake f
      { (s.feeder f).intake with blindTimer := some (ms (s.feeder f).row.intake.tBlind) }).setSq f
        { (s.sq f).clearedForService with reclaim := none, shotCount := 0 }
      = s.setFeeder f ((s.feeder f).readied none) := by
    simp [State.setSq, State.setIntake]
    rfl
  unfold serveInService
  dsimp only
  rw [startBlindTimer, State.setSq_feeder_same, if_pos (by simpa [FeederRec.clearedForService] using hb),
    enterClosedComplete, enterState_of_not_testing (by simp [FeederRec.clearedForService, hs])]
  simp only [State.setIntake_sq, State.setSq_sq_same]
  rw [hready]
  rfl

theorem serveInService_of_open (hs : (s.sq f).state = .out) (hb : (s.sq f).breaker ≠ .closed) :
    serveInService f s = takenIntoService f .opened (s.sq f).reclaim s := by
  have hready : (s.setSq f (s.sq f).clearedForService).setIntake f
      { (s.feeder f).intake with blindTimer := some (ms (s.feeder f).row.intake.tBlind) }
      = s.setFeeder f ((s.feeder f).readied (s.sq f).reclaim) := by
    simp [State.setSq, State.setIntake]
    rfl
  unfold serveInService
  dsimp only
  rw [startBlindTimer, State.setSq_feeder_same, if_neg (by simpa [FeederRec.clearedForService] using hb),
    enterState_of_not_testing (by simp [FeederRec.clearedForService, hs]), hready]
  rfl

/-- What a feeder OUT taken into service holds (R43, R78). -/
theorem takenIntoService_feeder (hs : (s.sq f).state = .out) :
    (takenIntoService f new reclaim s).feeder f =
      { (s.feeder f).readied reclaim with
        sq := ((s.feeder f).readied reclaim).sq.entered s.mode new none } := by
  have hout : (((s.feeder f).readied reclaim).sq).state = .out := hs
  rw [takenIntoService, reportFeederState, submit_feeder, enterCore_feeder_of_unarmed
    (unarmed_of_resting (.inl (by rwa [State.setFeeder_sq_same])))]
  simp only [State.setFeeder_feeder_same, State.setFeeder_sq_same, State.setFeeder_mode]

/-- A report adds at most one record to the queue. -/
theorem submit_adds_one (kind : ReportKind) (src : Source) (c : Option Cause) (v w : Option Int)
    (s : State) : (submit kind src c v w s).reports.length ≤ s.reports.length + 1 := by
  by_cases h : s.reports.length < 64
  · simp [(submit_of_room kind src c v w h).1]
  · rw [(submit_of_full kind src c v w (Nat.not_lt.mp h)).1]
    exact Nat.le_succ _

/-- Beside its unit a feeder taken into service changes the reports alone. -/
theorem takenIntoService_beside (f : FeederId) (new : FeederState) (reclaim : Timer) (s : State) :
    let t := takenIntoService f new reclaim s
    (∀ e, e ≠ f → t.feeder e = s.feeder e) ∧ t.rect = s.rect ∧ t.ports = s.ports ∧ t.fixed = s.fixed
      ∧ t.reports.length ≤ s.reports.length + 1 := by
  dsimp only [takenIntoService, reportFeederState]
  refine ⟨fun e he => ?_, ?_, ?_, ?_, ?_⟩
  · rw [submit_feeder, enterCore_feeder_ne _ _ _ he, State.setFeeder_feeder_ne _ _ he]
  · rw [submit_rect, enterCore_rect_of_no_test (by rw [State.setFeeder_sq_same]; rfl)]
    rfl
  · rw [submit_ports, enterCore_ports]; rfl
  · rw [submit_fixed, enterCore_fixed]; exact State.setFeeder_fixed _ _ _ rfl rfl rfl
  · refine (submit_adds_one ..).trans ?_
    rw [enterCore_reports]; rfl

/-- Under ALARM, or with neither flag set, a feeder that enters CLOSED stays (R94). -/
theorem closedFlags_of_quiet (hs : (s.sq f).state = .closed)
    (h : (s.sq f).blind = true ∨ (s.sq f).frozen = true → (s.feeder f).row.brk.blindAction = .alarm) :
    closedFlags f s = s := by
  have hflag : ∀ b, (s.sq f).blind = true ∨ (s.sq f).frozen = true → flagAction f b s = s :=
    fun b hb => flagAction_of_alarm hs (h hb)
  have hblind : (if (s.sq f).blind = true then flagAction f true s else s) = s := by
    split
    · exact hflag true (.inl ‹_›)
    · rfl
  unfold closedFlags
  dsimp only
  rw [hblind]
  split
  · exact hflag false (.inr ‹_›)
  · rfl

/-- Under TRIP a flag set trips a feeder that enters CLOSED, BLIND before FROZEN (R94; log entry 49). -/
theorem closedFlags_of_trip (hm : s.mode ≠ .shadow) (hs : (s.sq f).state = .closed)
    (ha : (s.feeder f).row.brk.blindAction = .trip)
    (hflags : (s.sq f).blind = true ∨ (s.sq f).frozen = true) :
    closedFlags f s = startTrip f (singleTrip s f (flagCause (s.sq f).blind)) s := by
  unfold closedFlags
  dsimp only
  cases hb : (s.sq f).blind with
  | true =>
    have htripping : ((startTrip f (singleTrip s f (flagCause true)) s).sq f).state = .tripping := by
      rw [startTrip_sq (by simp [hs]) (singleTrip_inter ..)]; rfl
    rw [if_pos rfl, flagAction_of_trip hm hs ha, flagAction_of_other (by simp [htripping]) (by simp [htripping])]
    exact ite_self _
  | false =>
    have hf : (s.sq f).frozen = true := by simpa [hb] using hflags
    rw [if_neg Bool.false_ne_true, if_pos hf, flagAction_of_trip hm hs ha]

end

section

variable {f : FeederId} {s : State}

theorem inServiceOk_iff (f : FeederId) (s : State) :
    let u := s.feeder f
    inServiceOk s f = true ↔
      u.sq.state = .out ∧ u.valid = true ∧ findNode s .feederMu (some f) ≠ none
        ∧ findNode s .breaker (some f) ≠ none
        ∧ (u.sq.breaker = .opened ∨ (u.sq.breaker = .closed ∧ s.mode ≠ .config)) := by
  cases hb : (s.feeder f).sq.breaker <;>
    simp [inServiceOk, hb, Option.isSome_iff_ne_none, and_assoc]

/-- What IN_SERVICE leaves of a feeder beside its state, and of the rest (R43, R78). -/
def IntoService (f : FeederId) (s t : State) : Prop :=
  (t.sq f).shotCount = 0 ∧ (t.sq f).blind = (s.sq f).blind ∧ (t.sq f).frozen = (s.sq f).frozen
    ∧ (t.feeder f).intake =
        { (s.feeder f).intake with blindTimer := some ((s.feeder f).row.intake.tBlind * 1000) }
    ∧ (∀ e, e ≠ f → t.feeder e = s.feeder e) ∧ t.rect.state = s.rect.state

theorem takenIntoService_intoService {new : FeederState} {reclaim : Timer}
    (hs : (s.sq f).state = .out) : IntoService f s (takenIntoService f new reclaim s) := by
  have hunit := takenIntoService_feeder (new := new) (reclaim := reclaim) hs
  obtain ⟨hothers, hrect, -⟩ := takenIntoService_beside f new reclaim s
  refine ⟨?_, ?_, ?_, ?_, hothers, congrArg RectRec.state hrect⟩
  · rw [State.sq, hunit]; rfl
  · rw [State.sq, hunit]; rfl
  · rw [State.sq, hunit]; rfl
  · rw [hunit]; rfl

theorem IntoService.startTrip {req : TripRequest} {t : State} (h : IntoService f s t)
    (hs : (t.sq f).state ≠ .testing) (hinter : req.primary.inter = none) :
    IntoService f s (startTrip f req t) := by
  obtain ⟨hshot, hblind, hfrozen, hintake, hothers, hstate⟩ := h
  obtain ⟨hfeeders, hrect, -⟩ := startTrip_beside hs hinter
  obtain ⟨hbeside, hgroup, -⟩ := tripEntered_beside f req t
  have hsq := startTrip_sq hs hinter
  have hkept : IntakeKept t (Machine.startTrip f req t) := IntakeKept.refl.acts UnitActs.refl.startTrip
  refine ⟨?_, ?_, ?_, (hkept f).intake.trans hintake, fun e he => ?_, ?_⟩
  · rw [hsq]; exact hshot
  · rw [hsq]; exact hblind
  · rw [hsq]; exact hfrozen
  · exact (congrArg (fun v => PerFeeder.get v e) hfeeders).trans ((hbeside e he).trans (hothers e he))
  · rw [hrect, hgroup, hstate]

/-- IN_SERVICE trips the feeder at once: breaker CLOSED and a flag set under blind action TRIP (R94). -/
def TripsInService (f : FeederId) (s : State) : Prop :=
  (s.sq f).breaker = .closed ∧ ((s.sq f).blind = true ∨ (s.sq f).frozen = true)
    ∧ (s.feeder f).row.brk.blindAction = .trip

/-- A feeder taken into service that no flag trips is in the state of its breaker (R78, R94). -/
theorem serveInService_quiet (hs : (s.sq f).state = .out) (h : ¬ TripsInService f s) :
    serveInService f s =
      takenIntoService f (if (s.sq f).breaker = .closed then .closed else .opened)
        (if (s.sq f).breaker = .closed then none else (s.sq f).reclaim) s := by
  by_cases hb : (s.sq f).breaker = .closed
  · rw [if_pos hb, if_pos hb, serveInService_of_closed hs hb]
    have hunit := takenIntoService_feeder (new := .closed) (reclaim := none) hs
    refine closedFlags_of_quiet (by rw [State.sq, hunit]; rfl) fun hflags => ?_
    rw [State.sq, hunit] at hflags
    rw [hunit]
    cases ha : (s.feeder f).row.brk.blindAction with
    | alarm => exact ha
    | trip => exact absurd ⟨hb, hflags, ha⟩ h
  · rw [if_neg hb, if_neg hb, serveInService_of_open hs hb]

/-- One that a flag trips is tripped from CLOSED (R94). -/
theorem serveInService_trips (hs : (s.sq f).state = .out) (hm : s.mode ≠ .shadow)
    (h : TripsInService f s) :
    serveInService f s =
      startTrip f (singleTrip s f (flagCause (s.sq f).blind)) (takenIntoService f .closed none s) := by
  obtain ⟨hb, hflags, ha⟩ := h
  have hunit := takenIntoService_feeder (new := .closed) (reclaim := none) hs
  obtain ⟨-, -, -, hfixed, -⟩ := takenIntoService_beside f .closed none s
  have hblind : ((takenIntoService f .closed none s).sq f).blind = (s.sq f).blind := by
    rw [State.sq, hunit]; rfl
  have hi : lastCurrent (takenIntoService f .closed none s) f = lastCurrent s f := by
    rw [lastCurrent, hunit]; rfl
  rw [serveInService_of_closed hs hb, closedFlags_of_trip, hblind, singleTrip, hi]
  · rfl
  · rwa [mode_of_fixed hfixed]
  · rw [State.sq, hunit]; rfl
  · rw [hunit]; exact ha
  · rw [State.sq, hunit]; exact hflags

theorem takenIntoService_not_testing (hs : (s.sq f).state = .out) :
    ((takenIntoService f .closed none s).sq f).state ≠ .testing := by
  rw [State.sq, takenIntoService_feeder hs]
  simp

/-- A trip from CLOSED on entry into service: its record, its report and its command (R83, R94). -/
theorem startTrip_intoService {blind : Bool} (hs : (s.sq f).state = .out) :
    let t := startTrip f (singleTrip s f (flagCause blind)) (takenIntoService f .closed none s)
    (t.sq f).state = .tripping ∧ (t.sq f).tripLine = decide (s.mode ≠ .replay)
      ∧ (t.sq f).primary = some (flagCause blind) ∧ (t.sq f).sotfMark = (s.sq f).sotf.isSome
      ∧ (t.sq f).openTimer = some ((s.feeder f).row.brk.tOpenMax * 1000)
      ∧ (s.reports.length < 60 →
          Reported t .trip (.feeder f) (some (flagCause blind).cause)
            ((s.feeder f).intake.lastAccepted.map Prod.fst) none)
      ∧ (s.mode = .service → (findNode s .breaker (some f)).isSome = true →
          (s.port .fp).urgent.length < 20 → Commanded t (.breaker f .trip)) := by
  have hunit := takenIntoService_feeder (new := .closed) (reclaim := none) hs
  obtain ⟨-, -, hports, hfixed, hlength⟩ := takenIntoService_beside f .closed none s
  have hclosed := takenIntoService_not_testing hs
  have hinter := singleTrip_inter s f blind
  have hsq := startTrip_sq hclosed hinter
  have hmode := mode_of_fixed hfixed
  obtain ⟨-, -, htripports, hreported⟩ := startTrip_beside hclosed hinter
  have hrow : ((takenIntoService f .closed none s).feeder f).row = (s.feeder f).row := by
    rw [hunit]; rfl
  dsimp only
  rw [hsq]
  refine ⟨rfl, ?_, rfl, ?_, ?_, fun hroom => ?_, fun hservice hnode hroom => ?_⟩
  · have hline : tripLevel s.mode .tripping none = decide (s.mode ≠ .replay) := by cases s.mode <;> rfl
    simp only [FeederRec.tripped, FeederRec.entered_tripLine, hmode, hline]
  · rw [State.sq, hunit]; rfl
  · rw [hrow]; rfl
  · have h := hreported (by omega)
    cases blind <;> exact h
  · have h := tripEntered_commanded (req := singleTrip s f (flagCause blind)) (hmode.trans hservice)
      (by rwa [findNode_of_fixed hfixed]) (by rw [State.port, hports]; exact Nat.lt_of_lt_of_le hroom (by omega))
    rw [Commanded, State.port, htripports]
    exact h

/-! Out of service -/

/-- The early end of a capture reaches no feeder (R170). -/
@[simp] theorem endCapture_feeders (f : FeederId) (s : State) : (endCapture f s).feeders = s.feeders := by
  unfold endCapture
  split
  · rfl
  · exact storePositions_feeders ..

/-- A feeder that leaves OPEN or LOCKOUT for OUT (R42, R43, R79). -/
theorem enterOut_feeder (hs : (s.sq f).state = .opened ∨ (s.sq f).state = .lockout) :
    (enterOut f s).feeder f =
        { s.feeder f with
          sq := (s.sq f).enteredOut
          intake := { (s.feeder f).intake with blindTimer := none, ring := [] } }
      ∧ ∀ e, e ≠ f → (enterOut f s).feeder e = s.feeder e := by
  have htesting : (s.sq f).state ≠ .testing := by obtain h | h := hs <;> simp [h]
  have hunarmed : ∀ m, armed m (s.sq f).state = false := fun m => unarmed_of_resting (.inr hs)
  have hget : ∀ (t : State) (e : FeederId), (endCapture f t).feeder e = t.feeder e := fun t e =>
    congrArg (fun v => PerFeeder.get v e) (endCapture_feeders f t)
  have hwithdrawn : ∀ e, (if (s.sq f).pendingTest = true then withdrawLatched f s else s).feeder e
      = s.feeder e := fun e => by split <;> rfl
  unfold enterOut
  dsimp only
  rw [if_neg htesting, disarmIfLeft_of_unarmed (hunarmed _)]
  generalize (if (s.sq f).pendingTest = true then withdrawLatched f s else s) = t at hwithdrawn
  refine ⟨?_, fun e he => ?_⟩
  · rw [hget, State.setIntake_feeder_same, State.setSq_feeder_same, State.sq, hwithdrawn]; rfl
  · rw [hget, State.setIntake_feeder_ne _ _ he, State.setSq_feeder_ne _ _ he, hwithdrawn]

theorem serveOutOfService_feeder (f : FeederId) (s : State) (e : FeederId) :
    (serveOutOfService f s).feeder e = (enterOut f s).feeder e := submit_feeder ..

/-! The end of a lockout -/

/-- A feeder unit as RESET_LOCKOUT clears it, before it enters OPEN (R46, R82). -/
def FeederUnit.resetLockout (u : FeederUnit) : FeederUnit :=
  { u with
    intake := { u.intake with clearingCount := 0 }
    sq := { u.sq with frozen := false, shotCount := 0, sotfMark := false, shotTaken := false } }

theorem serveResetLockout_eq (hs : (s.sq f).state = .lockout) :
    serveResetLockout f s =
      reportFeederState f .opened .lockout
        (enterCore f .opened none (s.setFeeder f (s.feeder f).resetLockout)) := by
  have hlockout : (s.feeder f).resetLockout.sq.state = .lockout := hs
  exact congrArg (reportFeederState f .opened .lockout)
    (enterState_of_not_testing (by
      rw [State.setFeeder_sq_same]
      exact fun h => absurd (hlockout.symm.trans h) (by simp)))

/-- A feeder reset from LOCKOUT (R46, R82). -/
theorem serveResetLockout_feeder (hs : (s.sq f).state = .lockout) :
    (serveResetLockout f s).feeder f =
        { (s.feeder f).resetLockout with
          sq := (s.feeder f).resetLockout.sq.entered s.mode .opened none }
      ∧ ∀ e, e ≠ f → (serveResetLockout f s).feeder e = s.feeder e := by
  have hlockout : (s.feeder f).resetLockout.sq.state = .lockout := hs
  rw [serveResetLockout_eq hs]
  refine ⟨?_, fun e he => ?_⟩
  · rw [reportFeederState, submit_feeder, enterCore_feeder_of_unarmed
      (unarmed_of_resting (.inr (.inr (by rwa [State.setFeeder_sq_same]))))]
    simp only [State.setFeeder_feeder_same, State.setFeeder_sq_same, State.setFeeder_mode]
  · rw [reportFeederState, submit_feeder, enterCore_feeder_ne _ _ _ he, State.setFeeder_feeder_ne _ _ he]

theorem serveResetLockout_reports (hs : (s.sq f).state = .lockout) :
    (serveResetLockout f s).reports =
      (submit .feederState (.feeder f) none (some 2) (some 9) s).reports := by
  have hfixed := enterCore_fixed f .opened none (s.setFeeder f (s.feeder f).resetLockout)
  have hsubmit := submit_congr .feederState (.feeder f) none (some 2) (some 9)
    (enterCore_reports f .opened none (s.setFeeder f (s.feeder f).resetLockout)) (enterCore_loss ..)
    (time_of_fixed hfixed) (timeValid_of_fixed hfixed)
  rw [serveResetLockout_eq hs]
  exact hsubmit.1.trans
    (submit_congr (s := s.setFeeder f (s.feeder f).resetLockout) (t := s) _ _ _ _ _ rfl rfl rfl rfl).1

end

theorem tripLevel_of_breaker (m : Mode) (b : BreakerPos) :
    tripLevel m (if b = .closed then .closed else .opened) none = false := by
  split <;> simp [tripLevel]

/-- Settles O51: each command passes its checks and is served, the queue aside, on the state as it is. -/
theorem feederServiceCommands : Obligations.FeederServiceCommands := by
  refine ⟨fun k f s hr hk hm hok => ?_, fun k f s hr hk hm hs => ?_, fun k f s hr hk hm hs hb => ?_,
    inServiceOk_iff⟩
  · obtain ⟨q, hexec⟩ := exec_feederCommand (i := .inService k f.num) (req := .inService f.num)
      (ok := inServiceOk) (effect := serveInService) hr hk hm fun _ => hok
    obtain ⟨hs, -⟩ := (inServiceOk_iff f s).mp hok
    refine ⟨_, hexec, ?_⟩
    by_cases htrips : TripsInService f s
    · rw [serveInService_trips (s := { s with requests := q }) hs hm htrips]
      exact ⟨fun h => absurd htrips h, fun _ => startTrip_intoService (s := { s with requests := q }) hs,
        (takenIntoService_intoService (s := { s with requests := q }) hs).startTrip
          (takenIntoService_not_testing hs) (singleTrip_inter ..)⟩
    · rw [serveInService_quiet (s := { s with requests := q }) hs htrips]
      refine ⟨fun _ => ?_, fun h => absurd h htrips,
        takenIntoService_intoService (s := { s with requests := q }) hs⟩
      rw [State.sq, takenIntoService_feeder (s := { s with requests := q }) hs]
      exact ⟨rfl, tripLevel_of_breaker .., fun hb => if_pos hb⟩
  · have hok : outOfServiceOk (s.sq f) = true := by simpa [outOfServiceOk] using hs
    obtain ⟨q, hexec⟩ := exec_feederCommand (i := .outOfService k f.num) (req := .outOfService f.num)
      (ok := fun s f => outOfServiceOk (s.sq f)) (effect := serveOutOfService) hr hk hm fun _ => hok
    obtain ⟨hunit, hothers⟩ := enterOut_feeder (s := { s with requests := q }) (hs.imp id And.left)
    refine ⟨_, hexec, ?_⟩
    dsimp only
    simp only [State.sq, serveOutOfService_feeder]
    rw [hunit]
    exact ⟨rfl, rfl, rfl, hothers⟩
  · have hok : resetLockoutOk (s.sq f) = true := by simp [resetLockoutOk, hs, hb]
    obtain ⟨q, hexec⟩ := exec_feederCommand (i := .resetLockout k f.num) (req := .resetLockout f.num)
      (ok := fun s f => resetLockoutOk (s.sq f)) (effect := serveResetLockout) hr hk hm fun _ => hok
    obtain ⟨hunit, hothers⟩ := serveResetLockout_feeder (s := { s with requests := q }) hs
    have hreports := (serveResetLockout_reports (s := { s with requests := q }) hs).trans
      (submit_congr (s := { s with requests := q }) (t := s) _ _ _ _ _ rfl rfl rfl rfl).1
    refine ⟨_, hexec, ?_⟩
    dsimp only
    rw [State.sq, hunit]
    exact ⟨rfl, by simp [tripLevel], rfl, rfl, rfl, rfl, rfl, rfl, rfl, rfl, rfl, hreports, hothers⟩

end Sys2Proof.Machine
end

section
/-! PROOF. SET_TIME (R125, R188), PORT_RECOVER (R9) and the requests that cannot be served (R77, R175). -/

namespace Sys2Proof.Machine

set_option Elab.async false

section

variable {k : Ticket} {req : Request} {s : State}

/-! Station time -/

/-- A new station time is set and valid, and intake is marked when it differs from the old one (R48, R188). -/
theorem setTime_sets (t : Stamp) (s : State) :
    (setTime t s).time = t ∧ (setTime t s).timeValid = true
      ∧ (setTime t s).rectIntake.timeSet = if t = s.time then s.rectIntake.timeSet else true := by
  unfold setTime
  split
  · next h => exact ⟨h.symm, rfl, rfl⟩
  · exact ⟨rfl, rfl, rfl⟩

/-- P keeps its place against station time (R125, R188). -/
theorem setTime_reference {p : Stamp} (t : Stamp) (h : s.rect.p = some p) :
    ∃ q, (setTime t s).rect.p = some q ∧ q - t = p - s.time := by
  unfold setTime
  split
  · next ht => exact ⟨p, h, by rw [ht]⟩
  · refine ⟨p + (t - s.time), congrArg (Option.map fun p => p + (t - s.time)) h, ?_⟩
    bv_omega

/-- Nothing else of the device is reached. -/
theorem setTime_putBack (t : Stamp) (s : State) :
    { setTime t s with
      time := s.time
      timeValid := s.timeValid
      rectIntake := { (setTime t s).rectIntake with timeSet := s.rectIntake.timeSet }
      rect := { (setTime t s).rect with p := s.rect.p } } = s := by
  unfold setTime
  split <;> rfl

theorem ofNat_eq_time_iff {n : Nat} (h : n < 2 ^ 48) (t : Stamp) : BitVec.ofNat 48 n = t ↔ n = t.toNat := by
  rw [← BitVec.toNat_inj, BitVec.toNat_ofNat, Nat.mod_eq_of_lt h]

theorem requestTime_of_range {n : Nat} (hk : k.source = .fromStation) (h : n < 2 ^ 48) :
    requestTime k n s = answer k .setTime .done (setTime (BitVec.ofNat 48 n) s) :=
  checked_of_accepted (by simpa [firstRefusal, stationOnly_fst hk] using h) _ _

theorem requestTime_of_large {n : Nat} (hk : k.source = .fromStation) (h : 2 ^ 48 ≤ n) :
    requestTime k n s = answer k .setTime .badValue s :=
  checked_of_refused (by simpa [firstRefusal, stationOnly_fst hk] using h) _ _

/-! The recovery of a port -/

variable {p : Port}

theorem requestRecover_of_held (hk : k.source = .fromStation)
    (h : (s.port p).state = .lost ∧ (s.port p).recoveryCount = 128) :
    requestRecover k (some p) s = answer k .portRecover .done (recoverPort p s) :=
  checked_of_accepted (by simp [firstRefusal, stationOnly_fst hk, h.1, h.2]) _ _

theorem requestRecover_of_not_held (hk : k.source = .fromStation)
    (h : ¬ ((s.port p).state = .lost ∧ (s.port p).recoveryCount = 128)) :
    requestRecover k (some p) s = answer k .portRecover .refusedState s :=
  checked_of_refused (by simpa [firstRefusal, stationOnly_fst hk] using h) _ _

/-- A recovery touches its port and the reports. -/
theorem recoverPort_beside (p : Port) (s : State) :
    (recoverPort p s).reports = (submit .portState (.port p) none (some 1) (some 3) s).reports
      ∧ ((recoverPort p s).putPort p s).putReports s = s := by
  have hreports := recoverPort_setPort_reports p (s.port p) s
  have hback := recoverPort_setPort_putBack p (s.port p) s
  rw [State.setPort_self] at hreports hback
  exact ⟨hreports, hback⟩

/-! Requests that cannot be served -/

/-- The status of a request that names an unknown action of the group (R77, R179; log entry 37). -/
theorem requestBad_rectAction :
    requestBad k .unknownRectAction s =
      answer k .rectCmd
        (if k.source ≠ (if s.key = .atRemote then .fromStation else .fromPanel) then .refusedAuthority
         else if s.mode = .shadow then .refusedMode
         else .badValue) s := by
  refine checked_of_refused ?_ id s
  by_cases hk : k.source = if s.key = .atRemote then .fromStation else .fromPanel
  · by_cases hm : s.mode = .shadow <;> simp [firstRefusal, byKey_of_source hk, notShadow, hk, hm]
  · have hbyKey : byKey k s = (true, .refusedAuthority) := by
      unfold byKey
      revert hk
      cases s.key <;> cases k.source <;> simp
    simp [firstRefusal, hbyKey, hk]

end

/-- Settles O55: each request is checked and served, or answered alone, on the state as its taking leaves it. -/
theorem timePortAndBadRequests : Obligations.TimePortAndBadRequests := by
  refine ⟨fun k n s hr hk => ?_, fun k p s hr hk => ?_, fun k why s hr => ?_,
    fun type n => ⟨rfl, rfl, rfl, rfl, rfl, rfl⟩⟩
  · obtain ⟨q, hq⟩ := takeRequest_eq k (.setTime n) s
    have hexec : exec (.setTime k n) s = .next (requestTime k n (takeRequest k (.setTime n) s)) :=
      taking_eq hr ..
    rw [hexec, hq]
    refine ⟨fun hn => ⟨_, congrArg Host.Outcome.next (requestTime_of_range hk hn), ?_⟩,
      fun hn => congrArg Host.Outcome.next (requestTime_of_large hk hn)⟩
    obtain ⟨htime, hvalid, hset⟩ := setTime_sets (BitVec.ofNat 48 n) { s with requests := q }
    refine ⟨?_, hvalid, ?_, fun p hp => ?_, setTime_putBack _ { s with requests := q }⟩
    · rw [htime, BitVec.toNat_ofNat, Nat.mod_eq_of_lt hn]
    · rw [hset]
      simp only [ofNat_eq_time_iff hn]
    · rw [htime]
      exact setTime_reference (s := { s with requests := q }) _ hp
  · obtain ⟨q, hq⟩ := takeRequest_eq k (.portRecover (some p)) s
    have hexec : exec (.portRecover k (some p)) s =
        .next (requestRecover k (some p) (takeRequest k (.portRecover (some p)) s)) := taking_eq hr ..
    dsimp only
    rw [hexec, hq]
    refine ⟨fun h => ⟨_, congrArg Host.Outcome.next (requestRecover_of_held hk h), recoverPort_port .., ?_⟩,
      fun h => congrArg Host.Outcome.next (requestRecover_of_not_held hk h)⟩
    obtain ⟨hreports, hback⟩ := recoverPort_beside p { s with requests := q }
    exact ⟨hreports.trans
      (submit_congr (s := { s with requests := q }) (t := s) _ _ _ _ _ rfl rfl rfl rfl).1, hback⟩
  · obtain ⟨q, hq⟩ := takeRequest_eq k (.bad why) s
    have hexec : exec (.badRequest k why) s = .next (requestBad k why (takeRequest k (.bad why) s)) :=
      taking_eq hr ..
    dsimp only
    rw [hexec, hq]
    cases why with
    | unknownRectAction => exact congrArg Host.Outcome.next requestBad_rectAction
    | _ => rfl

end Sys2Proof.Machine
end

section
/-! PROOF. The protection elements of a feeder: the overcurrent count and the rate-of-rise episode (R55 to R61,
R69), and the thermal image with its alarm (R63 to R65). -/

namespace Sys2Proof.Machine

set_option Elab.async false

/-! The overcurrent count -/

section

variable {row : ProtSettings} {x : FeederTaken} {count : Nat} {hold : Bool}

theorem breaksRun_iff : breaksRun x = true ↔ 4 < x.gap ∨ x.resumption = true := by simp [breaksRun]

/-- The count from which an armed sample counts on: 0 after a broken run (R55). -/
def iocStart (x : FeederTaken) (count : Nat) : Nat := if 4 < x.gap ∨ x.resumption = true then 0 else count

theorem iocStart_le {c : Nat} (h : count ≤ c) : iocStart x count ≤ c := by
  unfold iocStart; split <;> omega

/-- A count within its top stops there. -/
theorem satInc_of_le {top n : Nat} (h : n ≤ top) : satInc top n = min top (n + 1) := by
  unfold satInc; split <;> omega

theorem iocCount_of_small (h : x.i.natAbs < row.iIoc) : iocCount row x count = 0 := by
  simp [iocCount, Nat.not_le.mpr h]

theorem iocCount_of_large (hon : row.iocOn = true) (h : row.iIoc ≤ x.i.natAbs) :
    iocCount row x count = satInc row.c (iocStart x count) := by
  simp [iocCount, hon, h, breaksRun_iff, iocStart]

theorem iocFires_iff (hon : row.iocOn = true) (h : row.iIoc ≤ x.i.natAbs) :
    iocFires row x count hold = true ↔ hold = false ∧ row.c ≤ satInc row.c (iocStart x count) := by
  simp [iocFires, hon, h, iocCount_of_large]

/-! The rate-of-rise episode -/

variable {e : Ddl}

theorem ddlStep_of_break (h : 4 < x.gap ∨ x.resumption = true) :
    ddlStep row x hold e = (Ddl.rest, .quiet) := if_pos (.inr (breaksRun_iff.mpr h))

/-- The episode as an unbroken sample starts it or advances it (R58, R59). -/
def Ddl.moved (row : ProtSettings) (x : FeederTaken) (e : Ddl) : Ddl :=
  if e.phase = .idle then { phase := .rising, iStart := x.previous, d := x.gap, q := 0 }
  else { e with d := e.d + x.gap, q := if slope x < row.sEnd then e.q + 1 else 0 }

/-- An unbroken sample that neither continues an episode nor rises fast enough to start one (R58). -/
theorem ddlStep_of_flat (hon : row.ddlOn = true) (hg : x.gap ≤ 4) (hr : x.resumption = false)
    (hi : e.phase = .idle) (hs : slope x < row.sStart) : ddlStep row x hold e = (e, .quiet) := by
  have hb : breaksRun x = false := by simp [breaksRun, hr]; omega
  simp [ddlStep, hon, hb, hi, Int.not_le.mpr hs]

/-- Any other unbroken sample is tested on the episode that it has moved (R58 to R61). -/
theorem ddlStep_of_moved (hon : row.ddlOn = true) (hg : x.gap ≤ 4) (hr : x.resumption = false)
    (h : e.phase = .rising ∨ (row.sStart : Int) ≤ slope x) :
    ddlStep row x hold e = ddlTest row x hold (e.moved row x) := by
  have hb : breaksRun x = false := by simp [breaksRun, hr]; omega
  unfold ddlStep Ddl.moved
  rw [if_neg (by simp [hon, hb])]
  cases hp : e.phase with
  | idle => simp [h.resolve_left (by simp [hp])]
  | rising => simp

end

/-- Settles O27: the count by the branches of its definition; the episode, moved by the sample, by the three
outcomes of its tests. -/
theorem protectionElements : Obligations.ProtectionElements := by
  refine ⟨fun row x count hold hon hcount hc => ⟨fun h => ?_, fun h => ?_⟩, ?_⟩
  · exact ⟨iocCount_of_small h, by simp [iocFires, Nat.not_le.mpr h]⟩
  · have hinc := satInc_of_le (iocStart_le (x := x) hcount)
    refine ⟨(iocCount_of_large hon h).trans hinc, (iocFires_iff hon h).trans ?_⟩
    rw [hinc, Nat.le_min, and_iff_right le_rfl]
    rfl
  · intro row x hold e hon
    refine ⟨ddlStep_of_break, fun hg hr => ⟨fun hi hs => ?_, fun hmove => ?_⟩⟩
    · exact ddlStep_of_flat hon hg hr hi hs
    rw [ddlStep_of_moved hon hg hr hmove]
    refine ⟨fun h1 h2 h3 => if_pos ⟨h1, h2, h3⟩, fun h => ?_, fun h hd => ?_⟩
    · exact (if_neg fun ht => absurd ht.2.2 (Nat.not_le.mpr h)).trans (if_pos h)
    · exact (if_neg fun ht => h ⟨ht.1, ht.2.1⟩).trans (if_neg (Nat.not_lt.mpr hd))

/-! The thermal image -/

/-- The step toward a target that is not reached is at least 1 and does not pass it (R63). -/
theorem thermalStep_of_pos (k : Nat) {d : Int} (h : 0 < d) : 0 < thermalStep k d ∧ thermalStep k d ≤ d := by
  have hle : d.tdiv (2 ^ k) ≤ d := Int.tdiv_le_self _ h.le
  have hnonneg : 0 ≤ d.tdiv (2 ^ k) := Int.tdiv_nonneg h.le (by positivity)
  simp only [thermalStep, if_pos h]
  split <;> omega

theorem thermalStep_neg (k : Nat) (d : Int) : thermalStep k (-d) = -thermalStep k d := by
  simp only [thermalStep, Int.neg_tdiv, neg_eq_zero]
  split_ifs <;> omega

theorem thermalStep_zero (k : Nat) : thermalStep k 0 = 0 := by simp [thermalStep]

theorem thermalStep_of_neg (k : Nat) {d : Int} (h : d < 0) : thermalStep k d < 0 ∧ d ≤ thermalStep k d := by
  have hpos := thermalStep_of_pos k (d := -d) (by omega)
  rw [thermalStep_neg] at hpos
  omega

/-- What the step of the image comes to: it lies strictly on the way to the target, or there is no way to go. -/
theorem thermalStep_toward (k : Nat) (d : Int) :
    (0 < d ∧ 0 < thermalStep k d ∧ thermalStep k d ≤ d)
      ∨ (d = 0 ∧ thermalStep k d = 0)
      ∨ (d < 0 ∧ thermalStep k d < 0 ∧ d ≤ thermalStep k d) := by
  obtain h | rfl | h := lt_trichotomy d 0
  · exact .inr (.inr ⟨h, thermalStep_of_neg k h⟩)
  · exact .inr (.inl ⟨rfl, thermalStep_zero k⟩)
  · exact .inl ⟨h, thermalStep_of_pos k h⟩

theorem thermalTarget_le {i : Int} (h : i.natAbs ≤ 32768) : thermalTarget i ≤ 4194304 := by
  have hscaled : i.natAbs / 16 ≤ 2048 := by omega
  exact Nat.mul_le_mul hscaled hscaled

/-- The update adds the step, which takes no image below 0 (R63). -/
theorem thermalNext_eq (k : Nat) (i : Int) (theta : Nat) :
    (thermalNext k i theta : Int) = theta + thermalStep k ((thermalTarget i : Int) - theta) := by
  have := thermalStep_toward k ((thermalTarget i : Int) - theta)
  unfold thermalNext
  omega

/-- The image never passes its target, and is still only there (R63). -/
theorem thermalNext_toward (k : Nat) (i : Int) (theta : Nat) :
    (theta ≤ thermalTarget i → theta ≤ thermalNext k i theta ∧ thermalNext k i theta ≤ thermalTarget i)
      ∧ (thermalTarget i ≤ theta → thermalTarget i ≤ thermalNext k i theta ∧ thermalNext k i theta ≤ theta)
      ∧ (thermalNext k i theta = theta ↔ theta = thermalTarget i) := by
  have := thermalStep_toward k ((thermalTarget i : Int) - theta)
  have := thermalNext_eq k i theta
  omega

/-- The image stays within its bound (R63). -/
theorem thermalNext_le (k : Nat) {i : Int} {theta : Nat} (hi : i.natAbs ≤ 32768) (h : theta ≤ 4194304) :
    thermalNext k i theta ≤ 4194304 := by
  obtain ⟨hup, hdown, -⟩ := thermalNext_toward k i theta
  have := thermalTarget_le hi
  omega

section

variable {f : FeederId} {i : Int} {s : State}

theorem thermalSample_of_invalid (h : (s.feeder f).valid = false) : thermalSample f i s = s := by
  simp [thermalSample, h]

/-- The protection record of a feeder whose image and alarm an accepted sample has updated (R63 to R65). -/
def FeederUnit.warmed (u : FeederUnit) (i : Int) : Protection :=
  let theta := thermalNext u.row.prot.k i u.prot.theta
  { u.prot with
    theta := theta
    alarm :=
      if u.prot.alarm then decide (thetaOf u.row.prot.iReclose ≤ theta)
      else decide (thetaOf u.row.prot.iAlarm ≤ theta) }

/-- On an accepted sample the protection record takes its update, and a change of the alarm is reported (R63 to
R65). -/
theorem thermalSample_of_valid (h : (s.feeder f).valid = true) :
    thermalSample f i s =
      if ((s.feeder f).warmed i).alarm = (s.feeder f).prot.alarm then
        s.setProt f ((s.feeder f).warmed i)
      else
        submit (if (s.feeder f).prot.alarm then .thermalClear else .thermalAlarm) (.feeder f) none
          (some ((s.feeder f).warmed i).theta) none (s.setProt f ((s.feeder f).warmed i)) := by
  unfold thermalSample
  simp only [h, if_true, FeederUnit.warmed]
  obtain ha | ha := Bool.eq_false_or_eq_true (s.feeder f).prot.alarm
  · by_cases ht : thetaOf (s.feeder f).row.prot.iReclose
        ≤ thermalNext (s.feeder f).row.prot.k i (s.feeder f).prot.theta
    · simp [ha, ht, Nat.not_lt.mpr ht]
    · simp [ha, ht, Nat.lt_of_not_le ht]
  · by_cases ht : thetaOf (s.feeder f).row.prot.iAlarm
        ≤ thermalNext (s.feeder f).row.prot.k i (s.feeder f).prot.theta
    · simp [ha, ht]
    · simp [ha, ht]

theorem thermalSample_feeder_of_valid (h : (s.feeder f).valid = true) :
    (thermalSample f i s).feeder f = { s.feeder f with prot := (s.feeder f).warmed i } := by
  rw [thermalSample_of_valid h]
  split
  · exact State.setFeeder_feeder_same ..
  · rw [submit_feeder]; exact State.setFeeder_feeder_same ..

/-- Beside the record of the feeder the reports alone change (R64). -/
theorem thermalSample_frame_of_valid (h : (s.feeder f).valid = true) :
    (thermalSample f i s).reports =
        (if ((s.feeder f).warmed i).alarm = (s.feeder f).prot.alarm then s
         else
          submit (if (s.feeder f).prot.alarm then .thermalClear else .thermalAlarm) (.feeder f) none
            (some ((s.feeder f).warmed i).theta) none s).reports
      ∧ ((thermalSample f i s).putFeeder f s).putReports s = s := by
  have hset : ((s.setProt f ((s.feeder f).warmed i)).putFeeder f s).putReports s = s := by
    simp [State.putFeeder, State.putReports, State.setProt, State.setFeeder, State.feeder]
  rw [thermalSample_of_valid h]
  split
  · exact ⟨rfl, hset⟩
  · refine ⟨(submit_congr (s := s.setProt f _) (t := s) _ _ _ _ _ rfl rfl rfl rfl).1, ?_⟩
    unfold submit
    split <;> exact hset

end

/-- Settles O28: the step of the image lies on the way to its target; the update of a valid row writes the record
and reports a change of the alarm. -/
theorem thermalImage : Obligations.ThermalImage := by
  refine ⟨fun k i theta hi htheta => ?_, fun f i s => ⟨thermalSample_of_invalid, fun hv => ?_⟩⟩
  · obtain ⟨hup, hdown, hstill⟩ := thermalNext_toward k i theta
    exact ⟨thermalNext_eq k i theta, hup, hdown, hstill, thermalNext_le k hi htheta⟩
  · obtain ⟨hreports, hframe⟩ := thermalSample_frame_of_valid hv (i := i)
    dsimp only
    rw [thermalSample_feeder_of_valid hv]
    exact ⟨rfl, rfl, hreports, hframe⟩

end Sys2Proof.Machine
end

section
/-! PROOF. The rest of what the sequence units, the group and the ties do at a confirmation, an expiry, a crossing,
a STATUS or a TIE message, as chains of the same elementary actions. -/

namespace Sys2Proof.Machine

set_option Elab.async false

namespace UnitActs

variable {s t : State} {f : FeederId} {k : Tie} {c : FieldCommand}

theorem setTie {r : TieRec} (h : UnitActs s t) : UnitActs s (t.setTie k r) := h.act (.setTie ..)

theorem offerTie {m : TieMsg} (h : UnitActs s t) : UnitActs s (offerTie k m t) := h.act (.offerTie ..)

theorem setEntry {e : Option Entry} (h : UnitActs s t) :
    UnitActs s (t.setFeeder f { t.feeder f with entry := e }) := h.act (.setEntry ..)

/-! Tests that end, and faults of the group -/

theorem abortForGood {reason : AbortReason} (h : UnitActs s t) : UnitActs s (abortForGood f reason t) :=
  h.abortTesting.giveShotBack

theorem manualRequest (h : UnitActs s t) : UnitActs s (manualRequest f t) := by
  unfold Machine.manualRequest
  split
  · exact h.startTest
  · exact h.startTest
  · exact h.probeFromHold.startTest
  all_goals exact h.setSq.abortTest

theorem contactorFailure {offer : Bool} (h : UnitActs s t) : UnitActs s (contactorFailure f offer t) := by
  unfold Machine.contactorFailure
  exact (h.recordResult.thenIf refl.offerSeq).lockout

theorem supplyLost (h : UnitActs s t) : UnitActs s (supplyLost t) :=
  h.setRect.forFeeders fun _ _ => refl.thenIf refl.abortTest

theorem holdLosing {cause : RectCause} (h : UnitActs s t) : UnitActs s (holdLosing cause t) :=
  h.rectMove.supplyLost

theorem parkLosing {cause : RectCause} (h : UnitActs s t) : UnitActs s (parkLosing cause t) :=
  h.park.supplyLost

theorem rectFault {cause : FaultCause} (h : UnitActs s t) : UnitActs s (rectFault cause t) :=
  ite h.setRect.submit h.setRect.offerRect.setRect.offerBlocked.supplyLost.submit

theorem faultOrWouldTrip {cause : FaultCause} (h : UnitActs s t) :
    UnitActs s (faultOrWouldTrip cause t) := ite h.submit h.rectFault

/-! After a trip -/

theorem closedFlags (h : UnitActs s t) : UnitActs s (closedFlags f t) :=
  (h.thenIf refl.flagAction).thenIf refl.flagAction

theorem afterTrip (h : UnitActs s t) : UnitActs s (afterTrip f t) :=
  ite h.lockout <| ite h.lockout <| ite h.lockout <| ite h.lockout <| ite h.setSq.enterPhase <|
    ite h.setSq.enterFarEnd <| ite h.setSq.enterPhase h.lockout

theorem breakerFailure (h : UnitActs s t) : UnitActs s (breakerFailure f t) :=
  (h.lockout.thenIf refl.offerSeq).rectFault.intertripRequest.submit

theorem estopFeeder (h : UnitActs s t) : UnitActs s (estopFeeder f t) := by
  unfold Machine.estopFeeder
  dsimp only
  cases (t.sq f).state with
  | closed | closing | opening | tripping => exact h.requestTrip
  | deadTime => exact h.lockout
  | testing => exact ite h.lockout h.abortForGood.lockout
  | out | opened | lockout => exact h

theorem serveEstop (h : UnitActs s t) : UnitActs s (serveEstop t) :=
  ite h (h.forFeeders fun _ _ => refl.estopFeeder).rectFault

/-! The breaker unit -/

theorem enterClosedComplete (h : UnitActs s t) : UnitActs s (enterClosedComplete f t) := h.setSq.enterState

theorem confirmOpen (h : UnitActs s t) : UnitActs s (confirmOpen f t) := by
  unfold Machine.confirmOpen
  dsimp only
  cases (t.sq f).state with
  | tripping => exact h.setSq.submit.afterTrip
  | opening => exact h.setSq.enterState.submit
  | closed =>
    cases t.mode with
    | service | replay => exact h.setSq.submit.afterTrip
    | shadow => exact h.enterState.submit
    | config => exact h
  | lockout => exact h.thenIf refl.submit
  | out | opened | testing | closing | deadTime => exact h

theorem uncommandedTrip (h : UnitActs s t) : UnitActs s (uncommandedTrip f t) := by
  unfold Machine.uncommandedTrip
  exact (h.thenIf refl.abortForGood).startTrip

theorem confirmClosed (h : UnitActs s t) : UnitActs s (confirmClosed f t) := by
  unfold Machine.confirmClosed
  dsimp only
  cases (t.sq f).state with
  | closing => exact h.setSq.enterState.submit.sendSection.closedFlags
  | out => exact h.submit
  | opened =>
    cases t.mode with
    | service | replay => exact h.enterClosedComplete.submit.closedFlags
    | config => exact h.uncommandedTrip
    | shadow => exact h.enterClosedComplete.submit
  | deadTime | testing =>
    cases t.mode with
    | service | replay => exact h.uncommandedTrip
    | config | shadow => exact h
  | lockout => exact ite h.submit h.uncommandedTrip
  | closed | opening | tripping => exact h

theorem servePending (h : UnitActs s t) : UnitActs s (servePending f t) := by
  unfold Machine.servePending
  dsimp only
  split
  · exact h.setSq.serveResult
  · exact h

theorem testContactor {closed : Bool} (h : UnitActs s t) : UnitActs s (testContactor f closed t) := by
  unfold Machine.testContactor
  dsimp only
  split
  · exact ite h h.setSq
  · exact h.thenIf refl.contactorFailure
  · exact ite h.setSq h
  · exact h.thenUnless refl.contactorFailure
  · exact h.thenUnless refl.contactorFailure
  · exact h.thenUnless refl.servePending
  · exact h

theorem confirmContactor {closed : Bool} (h : UnitActs s t) : UnitActs s (confirmContactor f closed t) :=
  ite (ite (h.thenUnless refl.setSq.enterState.submit) h.testContactor) (ite h.offerSeq.submit h)

theorem breakerStatus {x : BreakerStatus} (h : UnitActs s t) : UnitActs s (breakerStatus f x t) := by
  have hbreaker : ∀ {a}, UnitActs a (breakerChanged f x.breaker a) := by
    intro a
    cases x.breaker with
    | opened => exact refl.confirmOpen
    | closed => exact refl.confirmClosed
    | travelling | disagree | unknown => exact refl
  have hcontactor : ∀ {a}, UnitActs a (contactorChanged f x.contactor a) := by
    intro a
    cases x.contactor with
    | opened | closed => exact refl.confirmContactor
    | disagree | unknown => exact refl
  exact (h.setSq.thenUnless hbreaker).thenUnless hcontactor

/-! The timers of a feeder -/

theorem openExpired (h : UnitActs s t) : UnitActs s (openExpired f t) :=
  ite h (ite h.setSq.breakerFailure h.setSq)

theorem contactorTimeout (h : UnitActs s t) : UnitActs s (contactorTimeout f t) := by
  unfold Machine.contactorTimeout
  refine ite h.lockout ?_
  split
  · exact h.contactorFailure
  · exact h.contactorFailure
  · exact h.contactorFailure
  all_goals exact h

theorem closeExpired (h : UnitActs s t) : UnitActs s (closeExpired f t) := by
  unfold Machine.closeExpired
  refine ite h ?_
  split
  · exact h.setSq.lockout.offerSeq
  · exact h.setSq.contactorTimeout
  all_goals exact h.setSq

theorem reclaimExpired (h : UnitActs s t) : UnitActs s (reclaimExpired f t) :=
  ite h (ite h.setSq.submit h.setSq)

theorem deadTimeExpired (h : UnitActs s t) : UnitActs s (deadTimeExpired f t) :=
  ite h (ite h.setSq.enterFarEnd h.setSq.testRequest)

theorem followExpired (h : UnitActs s t) : UnitActs s (followExpired f t) :=
  ite h h.setSq.testRequest.submit

/-! Crossings and samples of the group -/

theorem regulate (h : UnitActs s t) : UnitActs s (regulate t) := ite h.setRect (h.setRect.thenIf refl.submit)

theorem wakeTest (h : UnitActs s t) : UnitActs s (wakeTest t) :=
  h.thenIf (refl.setRect.thenIf refl.enterRunning)

theorem trackCrossing {q : Stamp} {e : Int} (h : UnitActs s t) : UnitActs s (trackCrossing q e t) :=
  (ite h.setRect.wakeTest h.setRect.regulate).offerRect.thenIf refl.enterRunning

theorem runningCrossing {tm : Stamp} (h : UnitActs s t) : UnitActs s (runningCrossing tm t) := by
  unfold Machine.runningCrossing
  split
  · exact ite h.submit.setRect.offerRect.setRect h.trackCrossing
  · exact h.setRect.offerRect.setRect

theorem takeCrossing {tm : Stamp} (h : UnitActs s t) : UnitActs s (takeCrossing tm t) := by
  unfold Machine.takeCrossing
  cases t.rect.state with
  | parked | faulted => exact h
  | starting => exact h.thenIf refl.setRect.setRect.rectMove.offerRect.startAllLatched
  | running | hold | probe => exact h.runningCrossing

theorem watchExpired (h : UnitActs s t) : UnitActs s (watchExpired t) :=
  ite h (h.setRect.thenIf (ite refl.setRect.submit refl.parkLosing))

theorem testOvercurrent {x : RectTaken} (h : UnitActs s t) : UnitActs s (testOvercurrent x t) :=
  ite (ite h.setRect.faultOrWouldTrip h.setRect) h

theorem stackOnset (h : UnitActs s t) : UnitActs s (stackOnset t) := by
  unfold Machine.stackOnset
  split
  · exact h
  · exact h.faultOrWouldTrip
  · exact h
  · exact h
  · refine ite h.submit ?_
    split
    · exact h.holdLosing.setRect
    · unfold stackEndsProbe
      cases t.rect.probeTarget with
      | hold => exact h.holdLosing
      | parked => exact h.parkLosing
    · exact h.park
    all_goals exact h

theorem testStack {temp : Int} (h : UnitActs s t) : UnitActs s (testStack temp t) := by
  have hwarn : UnitActs s (testStackWarning temp t) := ite h.setRect.submit (ite h.setRect.submit h)
  exact ite (ite hwarn.setRect.stackOnset
    (ite (ite hwarn.setRect.setRect (ite hwarn.setRect.setRect hwarn.setRect)) hwarn)) h

theorem rectSample {x : RectTaken} (h : UnitActs s t) : UnitActs s (rectSample x t) := by
  have hjudged : UnitActs s (Machine.testStack x.temp (Machine.testOvercurrent x (accumulate x t))) :=
    UnitActs.testStack (UnitActs.testOvercurrent (h.thenIf refl.setRect))
  unfold Machine.rectSample
  dsimp only
  split
  · exact hjudged.takeCrossing
  · exact hjudged

/-! The firing unit, the AC breaker and the commands of the group -/

theorem firingStatus {x : FiringState} (h : UnitActs s t) : UnitActs s (firingStatus x t) :=
  h.setRect.thenIf refl.faultOrWouldTrip

theorem mirrorRunning (h : UnitActs s t) : UnitActs s (mirrorRunning t) := ite h h.rectMove

theorem mirrorParked (h : UnitActs s t) : UnitActs s (mirrorParked t) :=
  ite h (h.act (.takeFree ..)).rectMove

theorem acUncommandedClose (h : UnitActs s t) : UnitActs s (acUncommandedClose t) :=
  (h.offerRect.thenIf refl.setRect).submit

theorem acMirrored {pos : BreakerPos} (h : UnitActs s t) : UnitActs s (acMirrored pos t) := by
  cases pos with
  | opened => exact ite h h.mirrorParked
  | closed => exact ite h.acUncommandedClose h.mirrorRunning
  | travelling | disagree | unknown => exact h

theorem acClosed (h : UnitActs s t) : UnitActs s (acClosed t) := by
  unfold Machine.acClosed
  cases t.rect.state with
  | starting => exact ite h h.setRect
  | running | hold | probe => exact h
  | parked | faulted => exact h.acUncommandedClose

theorem acOpened (h : UnitActs s t) : UnitActs s (acOpened t) := by
  unfold Machine.acOpened
  cases t.rect.state with
  | starting => exact h.thenIf refl.rectFault
  | running | hold | probe => exact h.rectFault
  | parked => exact h.setRect
  | faulted => exact h

theorem acStatus {pos : BreakerPos} (h : UnitActs s t) : UnitActs s (acStatus pos t) := by
  refine ite h.setRect (ite h.setRect.acMirrored ?_)
  cases pos with
  | opened => exact h.setRect.acOpened
  | closed => exact h.setRect.acClosed
  | travelling | disagree | unknown => exact h.setRect

theorem acTimerExpired (h : UnitActs s t) : UnitActs s (acTimerExpired t) := by
  refine ite h (ite h.setRect ?_)
  split
  · exact ite h.setRect.park h.setRect.rectFault
  · exact ite h.setRect h.setRect.rectFault
  all_goals exact h.setRect

theorem serveRun (h : UnitActs s t) : UnitActs s (serveRun t) := by
  unfold Machine.serveRun
  cases t.rect.state with
  | parked => exact h.enterStarting
  | starting | running | faulted => exact h
  | hold | probe => exact h.setRect

theorem serveRest (h : UnitActs s t) : UnitActs s (serveRest t) := by
  unfold Machine.serveRest
  dsimp only
  split
  · exact ite h.setRect.rectMove.setRect h.setRect.enterRest
  · exact h.setRect
  · exact h.setRect
  · exact h.park
  all_goals exact h

theorem serveReset (h : UnitActs s t) : UnitActs s (serveReset t) := h.setRect.rectMove

/-! Ties -/

theorem farEndDown (h : UnitActs s t) : UnitActs s (farEndDown f t) := h.setSq.testRequest.submit

theorem failEntryOn (h : UnitActs s t) : UnitActs s (failEntryOn k f t) := by
  unfold Machine.failEntryOn
  split
  · exact h.thenIf refl.intertripFail
  · exact h

theorem tieGoesDown {why : Int} (h : UnitActs s t) : UnitActs s (tieGoesDown k why t) :=
  (h.setTie.submit.thenUnless (refl.forFeeders fun _ _ => refl.failEntryOn)).forFeeders
    fun _ _ => refl.thenIf refl.farEndDown

theorem tieLost (h : UnitActs s t) : UnitActs s (tieLost k t) := ite h.tieGoesDown h.setTie

theorem tieSilenceExpiry (h : UnitActs s t) : UnitActs s (tieSilenceExpiry k t) :=
  ite h (ite h.tieGoesDown h.setTie)

theorem beatGapExpiry (h : UnitActs s t) : UnitActs s (beatGapExpiry k t) := ite h h.setTie

theorem beatSendExpiry (h : UnitActs s t) : UnitActs s (beatSendExpiry k t) := ite h.setTie h.setTie.offerTie

theorem countBeat (h : UnitActs s t) : UnitActs s (countBeat k t) := ite h (ite h.setTie.submit h.setTie)

theorem recordFarMode {m : Mode} (h : UnitActs s t) : UnitActs s (recordFarMode k m t) :=
  ite h (ite h.setTie h.setTie.submit)

theorem repeatExpiry (h : UnitActs s t) : UnitActs s (repeatExpiry f t) := by
  refine ite h ?_
  dsimp only
  split
  · exact h
  · exact ite h.setEntry.offerTie h.intertripFail

theorem entryAcked {e : Entry} {result : AckResult} (h : UnitActs s t) :
    UnitActs s (entryAcked f e result t) := h.setEntry.submit

theorem replayEntryExpiry (h : UnitActs s t) : UnitActs s (replayEntryExpiry f t) := by
  refine ite ?_ h
  split
  · exact h.entryAcked
  · exact h

theorem receiveAck {sec tag : Byte} {result : AckResult} (h : UnitActs s t) :
    UnitActs s (receiveAck k sec tag result t) := by
  unfold Machine.receiveAck
  split
  · split
    · cases result with
      | tripped | alreadyOpen | outOfService => exact h.entryAcked
      | unknownSection | notInServiceMode => exact h.intertripFail
    · exact h
  · exact h

theorem interAction (h : UnitActs s t) : UnitActs s (interAction f t) := by
  unfold Machine.interAction
  dsimp only
  cases (t.sq f).state with
  | closed | closing | opening | tripping => exact h.requestTrip
  | testing => exact ite h h.abortTest
  | deadTime =>
    unfold interDeadTime
    dsimp only
    split <;> exact h.setSq
  | opened | lockout | out => exact h

theorem followerClear (h : UnitActs s t) : UnitActs s (followerClear f t) := by
  unfold Machine.followerClear
  dsimp only
  split
  · exact h.setSq
  · exact h.setSq.testRequest
  all_goals exact h

theorem receiveSection {hold : Bool} {sec : Byte} (h : UnitActs s t) :
    UnitActs s (receiveSection k hold sec t) := by
  unfold Machine.receiveSection
  dsimp only
  split
  · exact h.submit
  · exact ite (ite h.submit.lockout h.submit.followerClear) h.submit

/-! Changes of mode -/

theorem enterShadow (h : UnitActs s t) : UnitActs s (enterShadow t) := by
  have hfeeders : UnitActs s (Machine.forFeeders mirrorOnEntry t) :=
    h.forFeeders fun _ _ => refl.thenIf refl.enterClosedComplete.submit
  unfold Machine.enterShadow mirrorGroupOnEntry
  refine ite hfeeders ?_
  dsimp only
  split
  · exact hfeeders.setRect.mirrorRunning
  all_goals exact hfeeders.setRect.mirrorParked

theorem shadowToService (h : UnitActs s t) : UnitActs s (shadowToService t) := by
  have hgroup : UnitActs s (groupBecomesReal t) := h.thenIf refl.enterStarting.beginCrossingWait
  exact hgroup.forFeeders fun _ _ => refl.thenIf refl.setSq.closedFlags

theorem shadowToConfig (h : UnitActs s t) : UnitActs s (shadowToConfig t) := h.thenIf refl.rectMove

end UnitActs

end Sys2Proof.Machine
end

section
/-! PROOF. Every step keeps every thermal image within its bound (R63). The elementary actions of the units leave
the images; beside them only the image's own update, the entry to and exit from REPLAY and the resets write one. -/

namespace Sys2Proof.Machine

set_option Elab.async false

/-! Samples as they are read -/

theorem int16_natAbs_le (hi lo : Byte) : (int16 hi lo).natAbs ≤ 32768 := by
  have hmin := BitVec.le_toInt (hi ++ lo)
  have hmax := BitVec.toInt_lt (x := hi ++ lo)
  unfold int16
  omega

theorem readFeederSample_natAbs_le {payload : List Byte} {x : FeederSample}
    (h : readFeederSample payload = some x) : x.i.natAbs ≤ 32768 := by
  unfold readFeederSample at h
  split at h
  · cases h; exact int16_natAbs_le _ _
  · cases h

/-- Saturation keeps a current within 16 bits (R40). -/
theorem handOn_natAbs_le {x : FeederSample} (h : x.i.natAbs ≤ 32768) (s : State) (f : FeederId) (g : Nat) :
    (handOn s f g x).i.natAbs ≤ 32768 := by
  simp only [handOn, saturate]
  split_ifs <;> omega

namespace ThetaBounded

variable {s t : State} {f : FeederId} {k : Tie} {p : Port}

/-! Updates of the state -/

/-- The bound speaks of the feeders alone. -/
theorem of_feeders (h : ThetaBounded s) (hf : t.feeders = s.feeders) : ThetaBounded t := fun e => by
  rw [State.feeder, hf]; exact h e

theorem acts (h : ThetaBounded s) (ha : UnitActs s t) : ThetaBounded t := fun e =>
  (ha.imageKept e).theta ▸ h e

/-- A new unit for a feeder, its image within the bound. -/
theorem setWarmed {u : FeederUnit} (h : ThetaBounded s) (hu : u.prot.theta ≤ 4194304) :
    ThetaBounded (s.setFeeder f u) := fun e => by
  by_cases he : e = f
  · subst he; rwa [State.setFeeder_feeder_same]
  · rw [State.setFeeder_feeder_ne _ _ he]; exact h e

/-- A new unit for a feeder, its image as it was. -/
theorem setFeeder {u : FeederUnit} (h : ThetaBounded s)
    (hu : u.prot.theta = (s.feeder f).prot.theta := by rfl) : ThetaBounded (s.setFeeder f u) :=
  h.setWarmed (hu ▸ h f)

theorem setSq {r : FeederRec} (h : ThetaBounded s) : ThetaBounded (s.setSq f r) := h.setFeeder

theorem setIntake {r : FeederIntake} (h : ThetaBounded s) : ThetaBounded (s.setIntake f r) := h.setFeeder

theorem setProt {r : Protection} (h : ThetaBounded s)
    (hr : r.theta = (s.feeder f).prot.theta := by rfl) : ThetaBounded (s.setProt f r) := h.setFeeder hr

theorem setPort {r : PortRec} (h : ThetaBounded s) : ThetaBounded (s.setPort p r) := h

theorem setRectIntake {r : RectIntake} (h : ThetaBounded s) : ThetaBounded (s.setRectIntake r) := h

/-- Every feeder unit replaced by one whose image is within the bound where the old one was. -/
theorem map {g : FeederUnit → FeederUnit} (h : ThetaBounded s)
    (hg : ∀ u : FeederUnit, u.prot.theta ≤ 4194304 → (g u).prot.theta ≤ 4194304) :
    ThetaBounded { s with feeders := s.feeders.map g } := fun e => by
  rw [State.feeder, PerFeeder.get_map]; exact hg _ (h e)

theorem ite {cond : Prop} {dec : Decidable cond} (ht : ThetaBounded s) (hu : ThetaBounded t) :
    ThetaBounded (if cond then s else t) := by split <;> assumption

/-- A service made under a condition. -/
theorem thenIf {cond : Prop} {dec : Decidable cond} (h : ThetaBounded s)
    (h' : ThetaBounded s → ThetaBounded t) : ThetaBounded (if cond then t else s) := ite (h' h) h

theorem submit {kind : ReportKind} {src : Source} {x : Option Cause} {v w : Option Int}
    (h : ThetaBounded s) : ThetaBounded (submit kind src x v w s) := h.acts (.submit .refl)

theorem offerForwarded {frame : Frame} (h : ThetaBounded s) : ThetaBounded (offerForwarded p frame s) := by
  rw [offerForwarded_eq]; exact h

/-! Protection -/

theorem thermalSample {i : Int} (hi : i.natAbs ≤ 32768) (h : ThetaBounded s) :
    ThetaBounded (thermalSample f i s) := by
  cases hv : (s.feeder f).valid with
  | false => rwa [thermalSample_of_invalid hv]
  | true =>
    have hset : ThetaBounded (s.setProt f ((s.feeder f).warmed i)) := h.setWarmed (thermalNext_le _ hi (h f))
    rw [thermalSample_of_valid hv]
    exact ite hset hset.submit

theorem reportSlowRise {e : DdlEvent} (h : ThetaBounded s) : ThetaBounded (reportSlowRise f e s) := by
  cases e with
  | quiet | fires => exact h
  | slowRise => exact h.submit

theorem protectionSample {x : FeederTaken} (hi : x.i.natAbs ≤ 32768) (h : ThetaBounded s) :
    ThetaBounded (protectionSample f x s) := by
  refine ite ?_ (h.thermalSample hi)
  unfold armedSample
  dsimp only
  split
  · exact (h.setProt.reportSlowRise.thermalSample hi).acts (.raiseTrip .refl)
  · exact (h.setProt.reportSlowRise.thermalSample hi).thenIf fun ha => ha.setProt

/-! Samples -/

theorem watchSample {q : Byte} (h : ThetaBounded s) : ThetaBounded (watchSample f q s) :=
  ite h (ite h.setIntake.setSq.submit h.setIntake)

theorem frozenSample {x : FeederTaken} (h : ThetaBounded s) : ThetaBounded (frozenSample f x s) := by
  obtain ⟨a, b, he⟩ | ⟨-, he⟩ | he := frozenSample_cases f x s
  all_goals rw [he]
  · exact h.setIntake
  · exact h.setFeeder.acts (setFrozen_acts f x.i s)
  · exact h.setFeeder.submit

theorem sequenceSample {x : FeederTaken} (h : ThetaBounded s) : ThetaBounded (sequenceSample f x s) :=
  fun e => ((sequenceSample_kept f x s).2 e).theta ▸ h e

theorem sampleRecorded {q : Byte} {x : FeederTaken} {copy : Option RxFrame} (h : ThetaBounded s) :
    ThetaBounded (sampleRecorded f q x copy s) := fun e => by
  obtain ⟨⟨d, hd⟩, hothers⟩ := sampleRecorded_unit f q x copy s
  by_cases he : e = f
  · subst he; rw [hd]; exact h e
  · rw [hothers e he]; exact h e

theorem takeFeeder {q : Byte} {g : Nat} {x : FeederSample} {copy : Option RxFrame}
    (hi : x.i.natAbs ≤ 32768) (h : ThetaBounded s) : ThetaBounded (takeFeeder f q g x copy s) := by
  have hserved : ThetaBounded (serveSample f q (handOn s f g x)
      (Machine.sampleRecorded f q (handOn s f g x) copy s)) :=
    ((h.sampleRecorded.watchSample.protectionSample (handOn_natAbs_le hi s f g)).frozenSample).sequenceSample
  exact ite (ite h.setIntake h.setIntake.submit) hserved

theorem feederSample {fr : RxFrame} (h : ThetaBounded s) : ThetaBounded (feederSample f fr s) := by
  refine ite h ?_
  split
  · exact h
  next hx =>
    split
    · exact h
    · exact h.takeFeeder (readFeederSample_natAbs_le hx)

theorem takeRect {stamp : Stamp} {q : Byte} {g : Nat} {x : RectSample} (h : ThetaBounded s) :
    ThetaBounded (takeRect stamp q g x s) := by
  exact ite (ite h.setRectIntake h.setRectIntake.submit) (h.setRectIntake.acts (.rectSample .refl))

theorem rectFieldSample {stamp : Stamp} {fr : RxFrame} (h : ThetaBounded s) :
    ThetaBounded (rectFieldSample stamp fr s) := by
  refine ite h ?_
  split
  · exact h
  · split
    · exact h
    · exact h.takeRect

theorem blindExpired (h : ThetaBounded s) : ThetaBounded (blindExpired f s) :=
  ite h (h.setFeeder.submit.acts (.flagAction .refl))

/-! Ties -/

theorem receiveTripReq {sec tag : Byte} {cause : InterCause} (h : ThetaBounded s) :
    ThetaBounded (receiveTripReq k sec cause tag s) := by
  have hanswer : ∀ {a} result, ThetaBounded a → ThetaBounded (answerTripReq k sec cause tag result a) :=
    fun _ ha => ha.acts UnitActs.refl.submit.offerTie
  refine ite (hanswer _ h) ?_
  split
  · exact hanswer _ h
  · split
    · exact h.acts UnitActs.refl.offerTie
    · exact hanswer _ (h.acts (.interAction .refl)).setFeeder

theorem serveTieMsg {m : TieMsg} (h : ThetaBounded s) : ThetaBounded (serveTieMsg k m s) := by
  cases m with
  | beat => exact h.acts (UnitActs.recordFarMode (UnitActs.countBeat .refl))
  | tripReq => exact h.receiveTripReq
  | tripAck => exact h.acts (.receiveAck .refl)
  | sectionClear | sectionHold => exact h.acts (.receiveSection .refl)

theorem tieFrame {payload : List Byte} (h : ThetaBounded s) : ThetaBounded (tieFrame k payload s) := by
  have hrestart : ThetaBounded (restartSilence k s) := h.thenIf id
  unfold Machine.tieFrame
  dsimp only
  split
  · exact hrestart.serveTieMsg
  · exact hrestart

/-! Reception -/

theorem errorFrame {e : RxError} (h : ThetaBounded s) : ThetaBounded (errorFrame p e s) := by
  unfold Machine.errorFrame
  dsimp only
  split
  · exact ite h.setPort.setPort.submit h.setPort
  · refine ite ?_ h.setPort
    unfold portEntersLost
    dsimp only
    split
    · exact h.setPort.setPort.submit.acts (.tieLost .refl)
    · exact h.setPort.setPort.submit
  · exact h

theorem recoverPort (h : ThetaBounded s) : ThetaBounded (recoverPort p s) :=
  h.setPort.submit.setPort

theorem goodFrame (h : ThetaBounded s) : ThetaBounded (goodFrame p s) := h.of_feeders (goodFrame_feeders p s)

theorem manageFrame {source : ReqSource} {fr : RxFrame} (h : ThetaBounded s) :
    ThetaBounded (manageFrame source fr s) := ite h h

theorem handStatus {α : Type} {x : Option α} {serve : α → State → State}
    (hs : ∀ v, UnitActs s (serve v s)) (h : ThetaBounded s) : ThetaBounded (handStatus x serve s) := by
  cases x with
  | none => exact h
  | some v => exact h.acts (hs v)

theorem switchStatus {row : NodeRow} {fr : RxFrame} (h : ThetaBounded s) :
    ThetaBounded (switchStatus row fr s) := by
  have hconsumed : ThetaBounded (consumeStatus row fr.payload s) := by
    unfold consumeStatus
    split
    · exact h.handStatus fun _ => .breakerStatus .refl
    · exact h.handStatus fun _ => .acStatus .refl
    · exact h.handStatus fun _ => .firingStatus .refl
    · exact h
  exact ite ((ite h hconsumed).thenIf fun ha => ha.offerForwarded) (ite h.offerForwarded h)

theorem switchField {stamp : Stamp} {fr : RxFrame} (h : ThetaBounded s) :
    ThetaBounded (switchField stamp fr s) := by
  refine ite h ?_
  split
  · unfold switchSample
    split
    · exact h.feederSample
    · exact h.rectFieldSample
    · exact h
  · exact h.switchStatus
  · exact ite h.manageFrame h
  · exact ite h.offerForwarded h
  · exact ite h.offerForwarded h
  all_goals exact h

theorem switchStation {fr : RxFrame} (h : ThetaBounded s) : ThetaBounded (switchStation fr s) := by
  refine ite h ?_
  split
  · exact ite h.manageFrame (ite h.offerForwarded h)
  · exact ite h (ite h.offerForwarded h)
  all_goals exact h

theorem receive {stamp : Stamp} {bytes : List Byte} (h : ThetaBounded s) :
    ThetaBounded (receive p stamp bytes s) := by
  refine ite h ?_
  split
  · exact h.errorFrame
  · refine ite (h.setPort.thenIf fun ha => ha.recoverPort) ?_
    have hgood : ThetaBounded (Machine.goodFrame p s) := h.goodFrame
    cases p with
    | fp => exact hgood.switchField
    | sp => exact hgood.switchStation
    | ta | tb => exact ite hgood.tieFrame hgood

/-! Changes of mode and resets -/

theorem enterOut (h : ThetaBounded s) : ThetaBounded (enterOut f s) := by
  unfold Machine.enterOut
  dsimp only
  refine ((setSq ?_).thenIf fun ha => ha.setProt).setIntake.of_feeders (endCapture_feeders ..)
  exact (h.thenIf fun ha => ha.acts (.leaveTesting .refl)).thenIf fun ha => ha.acts (.withdrawLatched .refl)

theorem transitionEffects {old new : Mode} (h : ThetaBounded s) :
    ThetaBounded (transitionEffects old new s) := by
  have hagain : ∀ {a}, ThetaBounded a → ThetaBounded (if a.estop then serveEstop a else a) := fun ha =>
    ha.thenIf fun hb => hb.acts (.serveEstop .refl)
  have hexit : ThetaBounded (exitReplay s) := by
    have hout : ThetaBounded (forFeeders Machine.enterOut { s with rect := s.rect.exitReplay }) :=
      forFeeders_induct (fun _ _ ha => ha.enterOut) (s := { s with rect := s.rect.exitReplay }) h
    exact (hout.map (g := FeederUnit.exitReplay) fun _ _ => Nat.zero_le _).of_feeders rfl
  unfold Machine.transitionEffects
  dsimp only
  split
  · exact h.acts (.enterShadow .refl)
  · exact (h.map (g := FeederUnit.enterReplay) fun _ _ => Nat.zero_le _).of_feeders rfl
  · exact hagain (h.acts (.shadowToService .refl))
  · exact hagain (h.acts (.shadowToConfig .refl))
  · exact hagain hexit
  all_goals exact h

theorem changeMode {new : Mode} (h : ThetaBounded s) : ThetaBounded (changeMode new s) := by
  have hreported := submit (kind := .modeChange) (src := .device) (x := none) (v := some (modeCode new))
    (w := some (modeCode s.mode)) (s := { s with mode := new }) h
  exact (hreported.map (g := FeederUnit.modeChanged) fun _ hu => hu).transitionEffects

theorem warmRestart (h : ThetaBounded s) : ThetaBounded (warmRestart s) :=
  submit ((h.map (g := FeederUnit.warm) fun _ _ => Nat.zero_le _).of_feeders rfl)

theorem simComplete {d : SimDeviceId} (h : ThetaBounded s) : ThetaBounded (simComplete d s) := by
  cases d with
  | breaker | contactor =>
    unfold Machine.simComplete
    dsimp only
    split
    · exact h.setFeeder.acts (.breakerStatus .refl)
    · exact h
  | acBreaker =>
    have hbusy : ∀ {d}, ThetaBounded { s with simAc := d } := h
    unfold Machine.simComplete
    dsimp only
    split
    · exact hbusy.acts (.acStatus .refl)
    · exact h

/-! Requests -/

theorem takeRequest {x : Ticket} {r : Request} (h : ThetaBounded s) : ThetaBounded (takeRequest x r s) := by
  unfold Machine.takeRequest
  split
  · exact ite h h
  · exact h

theorem checked {x : Ticket} {type : RequestType} {checks : List (Bool × Status)}
    {effect : State → State} (h : ThetaBounded s) (he : ThetaBounded (effect s)) :
    ThetaBounded (checked x type checks effect s) := by
  unfold Machine.checked
  split
  · exact h
  · exact he

/-- A reply in parts reaches no feeder (R181). -/
theorem answerBody {x : Ticket} {type : RequestType} {body : ReplyBody} (h : ThetaBounded s) :
    ThetaBounded (answerBody x type body s) := List.foldlRecOn _ _ h fun _ ha _ _ => ha

theorem serveReadSingle {x : Ticket} {row : Nat} {body : ReplyBody} (h : ThetaBounded s) :
    ThetaBounded (serveReadSingle x row body s) := ite h.answerBody h

theorem writeNode {row : Nat} {new : NodeRow} (h : ThetaBounded s) : ThetaBounded (writeNode row new s) := by
  refine thenIf (thenIf (thenIf ?_ fun ha => ha) fun ha => ha) fun ha => ha
  exact List.foldlRecOn _ _ h fun a (ha : ThetaBounded a) _ _ => ite ha.setFeeder ha.setFeeder

theorem feederCommand {x : Ticket} {n : Nat} {checks : FeederId → List (Bool × Status)}
    {effect : FeederId → State → State} (h : ThetaBounded s) (he : ∀ e, ThetaBounded (effect e s)) :
    ThetaBounded (feederCommand x n checks effect s) := by
  unfold Machine.feederCommand
  split
  · exact h.checked (he _)
  · exact h

theorem serveInService (h : ThetaBounded s) : ThetaBounded (serveInService f s) := by
  have hstart : ThetaBounded (startBlindTimer f (s.setSq f (s.sq f).clearedForService)) := h.setSq.setIntake
  exact ite (hstart.acts (UnitActs.enterClosedComplete .refl).submit.closedFlags)
    (hstart.acts (UnitActs.enterState .refl).submit)

theorem serveOpen (h : ThetaBounded s) : ThetaBounded (serveOpen f s) := by
  have hopened : UnitActs s (Machine.abortForGood f .opened s) := .abortForGood .refl
  refine ite (h.acts (.thenIf .refl (.act .refl (.offer (by simp) _)))) ?_
  dsimp only
  split
  · exact h.acts (UnitActs.refl.offerSeq.enterState.setSq.submit)
  · exact h.acts (UnitActs.refl.offerSeq.enterState.setSq.submit)
  · exact h.acts (UnitActs.refl.setSq.enterState.submit)
  · exact ite h (ite (h.acts hopened.setSq.enterState.submit) (h.acts hopened.setSq.startCloseTimer))
  all_goals exact h

theorem requestMode {x : Ticket} {m : Option Mode} (h : ThetaBounded s) :
    ThetaBounded (requestMode x m s) := by
  cases m with
  | none => exact h.checked h
  | some new => exact ite (h.checked h) (h.checked h.changeMode)

theorem answerTrigger {x : Ticket} {y : Triggered} (h : ThetaBounded s) :
    ThetaBounded (answerTrigger x y s) := by
  cases y with
  | took | absorbed | lost => exact h

theorem requestCapture {x : Ticket} {n : Nat} (h : ThetaBounded s) :
    ThetaBounded (requestCapture x n s) := by
  unfold Machine.requestCapture
  split
  · exact h
  · exact h
  · have htrigger : ∀ e, ThetaBounded (trigger e .manual s) := fun _ => h.acts (.trigger .refl)
    exact (htrigger _).answerTrigger

theorem requestCaptureRead {x : Ticket} {slot seg : Nat} (h : ThetaBounded s) :
    ThetaBounded (requestCaptureRead x slot seg s) := by
  unfold Machine.requestCaptureRead
  split
  · exact h
  · exact h
  · dsimp only
    split
    · exact h
    · exact h
    · exact List.foldlRecOn _ _ h fun _ ha _ _ => ha

/-- Whatever an INJECT payload stands for, taking it keeps the bound (R50, R185). -/
theorem injection {node : Nat} {payload : List Byte} (h : ThetaBounded s) :
    ThetaBounded ((injection s node payload).getD id s) := by
  unfold Machine.injection
  split
  · exact h
  dsimp only
  split
  · cases hx : readFeederSample payload with
    | none => exact h
    | some x => exact h.takeFeeder (readFeederSample_natAbs_le hx)
  · cases readRectSample payload with
    | none => exact h
    | some x => exact h.takeRect
  · exact h

/-! Reports and time -/

theorem buildReport (h : ThetaBounded s) : ThetaBounded (buildReport s) := by
  refine thenIf h fun _ => ?_
  exact setPort (setPort (ite h (ite h h)))

theorem tick (h : ThetaBounded s) : ThetaBounded (tick s) :=
  (h.map (g := FeederUnit.tick) fun _ hu => hu).of_feeders rfl

end ThetaBounded

end Sys2Proof.Machine
end

section
/-! PROOF. Every command keeps every thermal image within its bound, and so does every step (R63). -/

namespace Sys2Proof.Machine

set_option Elab.async false

namespace ThetaBounded

variable {s t : State} {f : FeederId} {p : Port} {x : Ticket} {n row : Nat}

/-! Reads -/

theorem serveReadNode (h : ThetaBounded s) : ThetaBounded (serveReadNode x row s) := ite h.answerBody h

theorem serveReadFeederRow (h : ThetaBounded s) : ThetaBounded (serveReadFeederRow x row s) := by
  unfold Machine.serveReadFeederRow
  split
  · exact h.answerBody
  · exact h

theorem serveReadSection (h : ThetaBounded s) : ThetaBounded (serveReadSection x row s) := by
  unfold Machine.serveReadSection
  split
  · exact h.answerBody
  · exact h

theorem serveReadPortRow (h : ThetaBounded s) : ThetaBounded (serveReadPortRow x row s) := by
  unfold Machine.serveReadPortRow
  split
  · exact h.answerBody
  · exact h

theorem serveReadFeeder (h : ThetaBounded s) : ThetaBounded (serveReadFeeder x n s) := by
  unfold Machine.serveReadFeeder
  split
  · exact h.answerBody
  · exact h

theorem serveReadPort {q : Option Port} (h : ThetaBounded s) : ThetaBounded (serveReadPort x q s) := by
  cases q with
  | none => exact h
  | some _ => exact h.answerBody

theorem serveReadTie {q : Option Tie} (h : ThetaBounded s) : ThetaBounded (serveReadTie x q s) := by
  cases q with
  | none => exact h
  | some _ => exact h.answerBody

theorem serveReadRectRow (h : ThetaBounded s) : ThetaBounded (serveReadRectRow x row s) := h.serveReadSingle

theorem serveReadReport (h : ThetaBounded s) : ThetaBounded (serveReadReport x row s) := h.serveReadSingle

theorem serveReadRect (h : ThetaBounded s) : ThetaBounded (serveReadRect x s) := h.answerBody

theorem serveReadDevice (h : ThetaBounded s) : ThetaBounded (serveReadDevice x s) := h.answerBody

/-! Writes -/

theorem writePort {v : Recovery} (h : ThetaBounded s) : ThetaBounded (writePort p v s) :=
  h.setPort.thenIf fun ha => ha.recoverPort

theorem serveWriteNode {w : RowWrite NodeRow} (h : ThetaBounded s) :
    ThetaBounded (serveWriteNode x row w s) := h.checked h.writeNode

theorem serveWriteRect {w : RowWrite RectRow} (h : ThetaBounded s) :
    ThetaBounded (serveWriteRect x row w s) := h.checked h

theorem serveWriteReport {w : RowWrite ReportRow} (h : ThetaBounded s) :
    ThetaBounded (serveWriteReport x row w s) := h.checked h

theorem serveWriteFeeder {w : RowWrite FeederRow} (h : ThetaBounded s) :
    ThetaBounded (serveWriteFeeder x row w s) := by
  unfold Machine.serveWriteFeeder
  split
  · exact h.checked h.setFeeder
  · exact h.checked h

theorem serveWriteSection {w : RowWrite SectionRow} (h : ThetaBounded s) :
    ThetaBounded (serveWriteSection x row w s) := by
  unfold Machine.serveWriteSection
  split
  · exact h.checked h.setFeeder
  · exact h.checked h

theorem serveWritePort {w : RowWrite Recovery} (h : ThetaBounded s) :
    ThetaBounded (serveWritePort x row w s) := by
  unfold Machine.serveWritePort
  split
  · exact h.checked h.writePort
  · exact h.checked h

/-! Commands -/

theorem serveOutOfService (h : ThetaBounded s) : ThetaBounded (serveOutOfService f s) := h.enterOut.submit

theorem serveResetLockout (h : ThetaBounded s) : ThetaBounded (serveResetLockout f s) :=
  h.setFeeder.acts (UnitActs.enterState .refl).submit

theorem setTime {v : Stamp} (h : ThetaBounded s) : ThetaBounded (setTime v s) := ite h h

theorem requestRecover {q : Option Port} (h : ThetaBounded s) : ThetaBounded (requestRecover x q s) := by
  cases q with
  | none => exact h.checked h
  | some _ => exact h.checked h.recoverPort

theorem requestCaptureRelease {slot : Nat} (h : ThetaBounded s) :
    ThetaBounded (requestCaptureRelease x slot s) := by
  unfold Machine.requestCaptureRelease
  split
  · exact h.checked h
  · exact h.checked h

theorem requestBad {why : BadRequest} (h : ThetaBounded s) : ThetaBounded (requestBad x why s) := by
  cases why with
  | unknownRectAction => exact h.checked h
  | malformed | unknownReadTable | unknownWriteTable | unknownRecord | unknownFeederAction => exact h

theorem requestInService (h : ThetaBounded s) : ThetaBounded (requestInService x n s) :=
  h.feederCommand fun _ => h.serveInService

theorem requestOutOfService (h : ThetaBounded s) : ThetaBounded (requestOutOfService x n s) :=
  h.feederCommand fun _ => h.serveOutOfService

theorem requestClose (h : ThetaBounded s) : ThetaBounded (requestClose x n s) :=
  h.feederCommand fun _ => h.acts (.manualRequest .refl)

theorem requestOpen (h : ThetaBounded s) : ThetaBounded (requestOpen x n s) :=
  h.feederCommand fun _ => h.serveOpen

theorem requestResetLockout (h : ThetaBounded s) : ThetaBounded (requestResetLockout x n s) :=
  h.feederCommand fun _ => h.serveResetLockout

theorem requestRun (h : ThetaBounded s) : ThetaBounded (requestRun x s) :=
  h.checked (h.acts (.serveRun .refl))

theorem requestRest (h : ThetaBounded s) : ThetaBounded (requestRest x s) :=
  h.checked (h.acts (.serveRest .refl))

theorem requestReset (h : ThetaBounded s) : ThetaBounded (requestReset x s) :=
  h.checked (h.acts (.serveReset .refl))

theorem requestTime (h : ThetaBounded s) : ThetaBounded (requestTime x n s) := h.checked h.setTime

theorem requestInject {payload : List Byte} (h : ThetaBounded s) :
    ThetaBounded (requestInject x n payload s) := h.checked h.injection

theorem requestRestart (h : ThetaBounded s) : ThetaBounded (requestRestart x s) := h.checked h.warmRestart

/-! Ports, lines and resets -/

theorem transmitDone (h : ThetaBounded s) : ThetaBounded (transmitDone p s) := h.thenIf fun ha => ha

theorem silenceExpired (h : ThetaBounded s) : ThetaBounded (silenceExpired s) := ite h h.setRectIntake

theorem coldReset (s : State) : ThetaBounded (coldReset s) := fun f => by
  cases f <;> exact Nat.zero_le _

theorem releaseReset {rest : RestState} {node : BitVec 6} (h : ThetaBounded s) :
    ThetaBounded (releaseReset rest node s) :=
  h.thenIf fun _ => submit h

theorem settleKey {pos : KeyPos} (h : ThetaBounded s) : ThetaBounded (settleKey pos s) := ite h h

theorem changeKey {pos : KeyPos} (h : ThetaBounded s) : ThetaBounded (changeKey pos s) :=
  ite (ite h (submit h)) h.settleKey

theorem assertEstop (h : ThetaBounded s) : ThetaBounded (assertEstop s) :=
  ite h (acts (s := { s with estop := true }) h (.serveEstop .refl)).submit

theorem releaseEstop (h : ThetaBounded s) : ThetaBounded (releaseEstop s) :=
  h.thenIf fun _ => submit h

theorem reachBatchTimeout (h : ThetaBounded s) : ThetaBounded (reachBatchTimeout s) := by
  unfold Machine.reachBatchTimeout
  split <;> exact h

/-! Every command, and every step -/

theorem of_outOfReset {g : State → State} (h : ThetaBounded s) (hg : ThetaBounded s → ThetaBounded (g s))
    (hn : outOfReset g s = .next t) : ThetaBounded t := by
  cases hn
  exact ite h (hg h)

/-- An expiry or an operation of the units, which leaves the images. -/
theorem of_acting {g : State → State} (h : ThetaBounded s) (hg : UnitActs s (g s))
    (hn : outOfReset g s = .next t) : ThetaBounded t := of_outOfReset h (fun ha => ha.acts hg) hn

theorem of_taking {r : Request} {serve : State → State} (h : ThetaBounded s)
    (hserve : ∀ {a}, ThetaBounded a → ThetaBounded (serve a)) (hn : taking x r serve s = .next t) :
    ThetaBounded t :=
  of_outOfReset (g := fun a => serve (Machine.takeRequest x r a)) h (fun ha => hserve ha.takeRequest) hn

/-- A received frame, whatever row it comes from (log entry 1). -/
theorem of_receive {stamp : Stamp} {bytes : List Byte} (h : ThetaBounded s)
    (hn : Host.Outcome.next (Machine.receive p stamp bytes s) =
      (.next t : Host.Outcome State Fault Refusal)) : ThetaBounded t := by
  cases hn
  exact h.receive

theorem exec {i : Instr} (h : ThetaBounded s) (hn : exec i s = .next t) : ThetaBounded t := by
  cases i with
  | errorFrameReceived p bytes => exact h.of_receive hn
  | lostPortGoodFrame p bytes => exact h.of_receive hn
  | frameRejected p bytes => exact h.of_receive hn
  | forwardUp bytes => exact h.of_receive hn
  | forwardDown bytes => exact h.of_receive hn
  | manageReceived p bytes => exact h.of_receive hn
  | feederSampleReceived bytes => exact h.of_receive hn
  | rectSampleReceived stamp bytes => exact h.of_receive hn
  | breakerStatusReceived bytes => exact h.of_receive hn
  | acBreakerStatusReceived bytes => exact h.of_receive hn
  | firingStatusReceived bytes => exact h.of_receive hn
  | beatReceived k bytes => exact h.of_receive hn
  | tieFrameMalformed k bytes => exact h.of_receive hn
  | tripReqReceived k bytes => exact h.of_receive hn
  | tripAckReceived k bytes => exact h.of_receive hn
  | sectionClearReceived k bytes => exact h.of_receive hn
  | sectionHoldReceived k bytes => exact h.of_receive hn
  | transmitEnd p => exact h.of_outOfReset transmitDone hn
  | blind f => exact h.of_outOfReset blindExpired hn
  | rectSilenceExpired => exact h.of_outOfReset silenceExpired hn
  | openTimerExpired f => exact h.of_acting (.openExpired .refl) hn
  | closeTimerExpired f => exact h.of_acting (.closeExpired .refl) hn
  | sotfTimerExpired f => exact h.of_outOfReset setSq hn
  | reclaimExpired f => exact h.of_acting (.reclaimExpired .refl) hn
  | deadTimeExpired f => exact h.of_acting (.deadTimeExpired .refl) hn
  | actingMaster f => exact h.of_acting (.followExpired .refl) hn
  | acTimerExpired => exact h.of_acting (.acTimerExpired .refl) hn
  | crossingWatchExpired => exact h.of_acting (.watchExpired .refl) hn
  | beatSend k => exact h.of_acting (.beatSendExpiry .refl) hn
  | beatGapExpired k => exact h.of_acting (.beatGapExpiry .refl) hn
  | tieSilenceExpired k => exact h.of_acting (.tieSilenceExpiry .refl) hn
  | repeatTimerExpired f => exact h.of_acting (.repeatExpiry .refl) hn
  | replayIntertripTimeout f => exact h.of_acting (.replayEntryExpiry .refl) hn
  | repeatWindowExpired f => exact h.of_outOfReset setFeeder hn
  | reportBuild => exact h.of_outOfReset buildReport hn
  | batchTimeout => exact h.of_outOfReset reachBatchTimeout hn
  | simOperationComplete d => exact h.of_outOfReset simComplete hn
  | readRowNode x row => exact h.of_taking serveReadNode hn
  | readRowFeeder x row => exact h.of_taking serveReadFeederRow hn
  | readRowRect x row => exact h.of_taking serveReadRectRow hn
  | readRowSection x row => exact h.of_taking serveReadSection hn
  | readRowPort x row => exact h.of_taking serveReadPortRow hn
  | readRowReport x row => exact h.of_taking serveReadReport hn
  | readRecordFeeder x n => exact h.of_taking serveReadFeeder hn
  | readRecordRect x => exact h.of_taking serveReadRect hn
  | readRecordPort x q => exact h.of_taking serveReadPort hn
  | readRecordTie x q => exact h.of_taking serveReadTie hn
  | readRecordDevice x => exact h.of_taking serveReadDevice hn
  | writeRowNode x row w => exact h.of_taking serveWriteNode hn
  | writeRowFeeder x row w => exact h.of_taking serveWriteFeeder hn
  | writeRowRect x row w => exact h.of_taking serveWriteRect hn
  | writeRowSection x row w => exact h.of_taking serveWriteSection hn
  | writeRowPort x row w => exact h.of_taking serveWritePort hn
  | writeRowReport x row w => exact h.of_taking serveWriteReport hn
  | inService x n => exact h.of_taking requestInService hn
  | outOfService x n => exact h.of_taking requestOutOfService hn
  | closeFeeder x n => exact h.of_taking requestClose hn
  | openFeeder x n => exact h.of_taking requestOpen hn
  | resetLockout x n => exact h.of_taking requestResetLockout hn
  | rectRun x => exact h.of_taking requestRun hn
  | rectRest x => exact h.of_taking requestRest hn
  | rectReset x => exact h.of_taking requestReset hn
  | setMode x m => exact h.of_taking requestMode hn
  | setTime x n => exact h.of_taking requestTime hn
  | captureStart x n => exact h.of_taking requestCapture hn
  | captureRead x slot seg => exact h.of_taking requestCaptureRead hn
  | captureRelease x slot => exact h.of_taking requestCaptureRelease hn
  | inject x node payload => exact h.of_taking requestInject hn
  | portRecover x q => exact h.of_taking requestRecover hn
  | restart x => exact h.of_taking requestRestart hn
  | badRequest x why => exact h.of_taking requestBad hn
  | keyChange pos => exact h.of_outOfReset changeKey hn
  | estopAsserted => exact h.of_outOfReset assertEstop hn
  | estopReleased => exact h.of_outOfReset releaseEstop hn
  | coldReset => cases hn; exact coldReset s
  | resetRelease rest node => cases hn; exact h.releaseReset
  | keyFirstSettling pos => exact h.of_outOfReset settleKey hn

theorem step (h : ThetaBounded s) (hn : step s = .next t) : ThetaBounded t := by
  unfold Machine.step at hn
  split at hn
  next c rest _ => exact exec (s := { s with pending := rest }) h hn
  next =>
    unfold idle at hn
    split at hn
    · cases hn; exact h
    split at hn
    · exact h.exec hn
    · cases hn; exact h.tick

end ThetaBounded

/-- Settles O7: every service that writes an image keeps it within the bound, the others leave it. -/
theorem stepKeepsThetaBounded : Obligations.StepKeepsThetaBounded := fun _ _ => ThetaBounded.step

end Sys2Proof.Machine
end

section
/-! PROOF. The elements that fire on a sample, refuted: an IOC count above C that a sample under the trip hold
leaves as it is (R55, R69). -/

namespace Sys2Proof.Machine

set_option Elab.async false

/-- IOC alone, at 1000 A and three samples; the blind action is ALARM. -/
def overheldRow : FeederRow :=
  { FeederRow.zero with
    prot := { FeederRow.zero.prot with iocOn := true, iIoc := 1000, c := 3 }
    brk := { FeederRow.zero.brk with blindAction := .alarm } }

/-- A CLOSED feeder under the trip hold with an IOC count of 5, which no run reaches. -/
def overheldUnit : FeederUnit :=
  { FeederUnit.cold with
    row := overheldRow
    sq := { FeederRec.fresh with state := .closed }
    intake := { FeederIntake.fresh with lastSeq := some 40#8, resumption := false }
    prot := { Protection.fresh with iocCount := 5, hold := true } }

/-- SERVICE with that feeder as F1, its measuring unit at node 5. -/
def overheld : State :=
  { State.reset with
    inReset := false, mode := .service
    nodes := State.reset.nodes.set 5 { unusedRow with role := .feederMu, binding := some .f1 }
    feeders := State.reset.feeders.set .f1 overheldUnit }

/-- A sample of 2000 A and 790 V. -/
def faultSample : FeederSample where
  i := 2000
  u := 790
  iOver := false
  uOver := false
  unitFault := false

/-- The frame that carries it, the next in sequence. -/
def faultFrame : RxFrame where
  kind := .sample
  dest := 20#8
  src := 5#8
  seq := 41#8
  payload := [7#8, 208#8, 3#8, 22#8, 0#8, 0#8]

/-- The bytes of the frame. -/
def faultBytes : List Byte := frameBytes .sample 20#8 5#8 41#8 faultFrame.payload

theorem overheld_takes_fault : TakesSample .f1 faultBytes faultFrame faultSample 1 overheld :=
  ⟨⟨⟨rfl, classify_frameBytes _ _ _ _ (by decide), by decide⟩, by decide +kernel⟩, rfl, by decide,
    by decide, rfl⟩

/-- The sample adds nothing to a count above C, and finds no frozen current. -/
theorem overheld_keeps_count :
    (match exec (.feederSampleReceived faultBytes) overheld with
     | .next t => ((t.sq .f1).frozen, (t.feeder .f1).prot.iocCount)
     | _ => (true, 0)) = (false, 5) := by decide +kernel

/-- Refutes O29: under the trip hold a qualifying sample leaves an IOC count above C as it is, where the
statement's count comes down to C. The two differ from a state whose count is above C, which the statement
does not shut out. -/
theorem not_overcurrentTrips : ¬ Obligations.OvercurrentTrips := by
  rintro ⟨-, -, hheld⟩
  obtain ⟨t, ht, -, -, -, -, -, -, hcount, -⟩ :=
    hheld .f1 faultBytes faultFrame faultSample 1 overheld overheld_takes_fault rfl
      (.inl ⟨rfl, .inl rfl⟩) rfl
  have hkept := overheld_keeps_count
  rw [ht] at hkept
  obtain ⟨hfrozen, hfive⟩ := Prod.mk.inj hkept
  have hthree : (t.feeder .f1).prot.iocCount = 3 := (hcount hfrozen).1
  exact absurd (hfive.symm.trans hthree) (by decide)

end Sys2Proof.Machine
end

section
/-! PROOF. The two laws of the feeder records, a trip line's (R76) and the states' (R73, R92, R97, R100, R106),
kept by what the sequence units do: one pass over the operations for both. -/

namespace Sys2Proof.Machine

set_option Elab.async false

/-! The laws of one record -/

/-- The modes in which line tests, dead times and closings run (R73). -/
def ModeLive (m : Mode) : Prop := m = .service ∨ m = .replay

/-- What a record may be in CONFIG and SHADOW (R73, R92, R97). -/
def FeederRec.Calm (m : Mode) (r : FeederRec) : Prop :=
  r.state = .out ∨ r.state = .opened ∨ r.state = .lockout
    ∨ (r.state = .tripping ∧ r.primary = some .uncommandedClose) ∨ (r.state = .closed ∧ m = .shadow)

/-- A feeder may enter a state in a mode, its trip causes aside (R73, R97). -/
def Enters (m : Mode) (new : FeederState) : Prop :=
  ModeLive m ∨ new = .opened ∨ new = .lockout ∨ (new = .closed ∧ m = .shadow)

/-- The laws of one record. `line` and `states` say which of the two laws is meant: each is kept without the
other, and one pass serves both. -/
structure FeederRec.Lawful (line states : Prop) (m : Mode) (latched : Bool) (r : FeederRec) : Prop where
  line : line → r.tripLine = tripLevel m r.state r.lockoutCause
  calm : states → ModeLive m ∨ r.Calm m
  phase : states → r.phase ≠ none → r.state = .deadTime
  latched : states → latched = true → r.pendingTest = true ∧ r.state = .deadTime

/-- The part of a record that the laws speak of. -/
def FeederRec.core (r : FeederRec) :=
  (r.state, r.phase, r.primary, r.lockoutCause, r.tripLine, r.pendingTest)

/-- The laws of every record in a mode. -/
structure SeqLaws (line states : Prop) (m : Mode) (s : State) : Prop where
  mode : s.mode = m
  recs : ∀ f, (s.sq f).Lawful line states m (s.rect.latched.get f)

variable {line states : Prop} {m : Mode} {l l' : Bool}

namespace FeederRec.Lawful

variable {r r' : FeederRec} {new : FeederState} {cause : Option LockoutCause}

/-- The laws of a record depend on its core alone, and a latched test that goes costs nothing. -/
theorem of_core (h : r.Lawful line states m l) (hc : r'.core = r.core)
    (hl : l' = true → l = true := by exact id) : r'.Lawful line states m l' := by
  simp only [FeederRec.core, Prod.mk.injEq] at hc
  obtain ⟨hstate, hphase, hprimary, hcause, hline, htest⟩ := hc
  refine ⟨fun ha => ?_, fun hb => ?_, fun hb => ?_, fun hb hlatched => ?_⟩
  · rw [hstate, hcause, hline]; exact h.line ha
  · unfold FeederRec.Calm; rw [hstate, hprimary]; exact h.calm hb
  · rw [hstate, hphase]; exact h.phase hb
  · rw [hstate, htest]; exact h.latched hb (hl hlatched)

/-- In SERVICE and REPLAY the primary cause is free. -/
theorem of_live (h : r.Lawful line states m l) (hm : states → ModeLive m)
    (hc : ({ r' with primary := r.primary } : FeederRec).core = r.core) : r'.Lawful line states m l where
  line ha := (h.of_core hc).line ha
  calm hb := .inl (hm hb)
  phase hb := (h.of_core hc).phase hb
  latched hb := (h.of_core hc).latched hb

/-- An entered record is lawful where the mode lets it in, a latched test being withdrawn (R76, R100). -/
theorem entered (h : r.Lawful line states m l) (hn : states → Enters m new)
    (hl : l' = true → l = true ∧ (r.pendingTest = false ∨ new = .deadTime)) :
    (r.entered m new cause).Lawful line states m l' where
  line _ := by cases new <;> rfl
  calm hb := by
    unfold FeederRec.Calm
    obtain hm | rfl | rfl | ⟨rfl, rfl⟩ := hn hb <;> simp [*]
  phase _ hp := by
    by_contra hne
    exact hp (by simp [FeederRec.entered, show (new == FeederState.deadTime) = false by simpa using hne])
  latched hb hlatched := by
    obtain ⟨hold, hgone⟩ := hl hlatched
    obtain ⟨htest, -⟩ := h.latched hb hold
    obtain hnone | rfl := hgone
    · simp [hnone] at htest
    · exact ⟨htest, rfl⟩

/-- A record that enters OUT is lawful in every mode. -/
theorem enteredOut (hl : states → l = false) : r.enteredOut.Lawful line states m l where
  line _ := by simp [tripLevel, FeederRec.enteredOut, FeederRec.fresh]
  calm _ := .inr (.inl rfl)
  phase _ hp := absurd rfl hp
  latched hb hlatched := by simp [hl hb] at hlatched

end FeederRec.Lawful

theorem tripLineLaw_iff (s : State) :
    TripLineLaw s ↔ ∀ f, (s.sq f).tripLine = tripLevel s.mode (s.sq f).state (s.sq f).lockoutCause := by
  refine forall_congr' fun f => ?_
  rw [← tripLevel_eq_true]
  exact Bool.eq_iff_iff.symm

theorem modeLive_or_calm_iff (m : Mode) (r : FeederRec) :
    ModeLive m ∨ r.Calm m ↔ (m = .config ∨ m = .shadow → r.Calm m) := by
  cases m <;> simp [ModeLive]

/-- The trip line's law, as a law of every record. -/
theorem seqLaws_of_line {s : State} : TripLineLaw s ↔ SeqLaws True False s.mode s := by
  rw [tripLineLaw_iff]
  exact ⟨fun h => ⟨rfl, fun f => ⟨fun _ => h f, False.elim, False.elim, False.elim⟩⟩,
    fun h f => (h.recs f).line trivial⟩

/-- The law of the states, as a law of every record. -/
theorem seqLaws_of_states {s : State} : ModeStatesLaw s ↔ SeqLaws False True s.mode s := by
  constructor
  · intro h
    refine ⟨rfl, fun f => ?_⟩
    obtain ⟨hcalm, hphase, hlatched⟩ := h f
    exact ⟨False.elim, fun _ => (modeLive_or_calm_iff _ _).mpr hcalm, fun _ => hphase, fun _ => hlatched⟩
  · intro h f
    exact ⟨(modeLive_or_calm_iff _ _).mp ((h.recs f).calm trivial), (h.recs f).phase trivial,
      (h.recs f).latched trivial⟩

namespace SeqLaws

variable {s t : State} {f : FeederId} {k : Tie} {p : Port} {c : FieldCommand}

/-! Updates of the state -/

/-- A feeder in a state that CONFIG and SHADOW do not know shows the mode. -/
theorem live (h : SeqLaws line states m s) (hs : ¬ (s.sq f).Calm m) : states → ModeLive m :=
  fun hb => ((h.recs f).calm hb).resolve_right hs

/-- One record changes. -/
theorem of_one (h : SeqLaws line states m s) (hm : t.mode = s.mode)
    (hl : ∀ e, t.rect.latched.get e = true → s.rect.latched.get e = true)
    (ho : ∀ e, e ≠ f → (t.sq e).core = (s.sq e).core)
    (hf : (t.sq f).Lawful line states m (t.rect.latched.get f)) : SeqLaws line states m t where
  mode := hm.trans h.mode
  recs e := by
    by_cases he : e = f
    · subst he; exact hf
    · exact (h.recs e).of_core (ho e he) (hl e)

/-- A change that reaches no record's core, no mode, and adds no latched test. -/
theorem beside (h : SeqLaws line states m s) (hm : t.mode = s.mode)
    (hl : ∀ e, t.rect.latched.get e = true → s.rect.latched.get e = true)
    (hs : ∀ e, (t.sq e).core = (s.sq e).core) : SeqLaws line states m t where
  mode := hm.trans h.mode
  recs e := (h.recs e).of_core (hs e) (hl e)

/-- A change that reaches neither the feeders nor the mode nor the latched tests. -/
theorem quiet (h : SeqLaws line states m s) (hf : t.feeders = s.feeders := by rfl)
    (hm : t.mode = s.mode := by rfl) (hl : t.rect.latched = s.rect.latched := by rfl) :
    SeqLaws line states m t :=
  h.beside hm (fun _ he => hl ▸ he) fun e => by rw [State.sq, State.feeder, hf]; rfl

theorem setFeeder {u : FeederUnit} (h : SeqLaws line states m s)
    (hu : u.sq.core = (s.sq f).core := by rfl) : SeqLaws line states m (s.setFeeder f u) :=
  h.of_one rfl (fun _ => id) (fun e he => by rw [State.sq, State.setFeeder_feeder_ne _ _ he]; rfl)
    (by rw [State.setFeeder_sq_same]; exact (h.recs f).of_core hu)

theorem setSq {r : FeederRec} (h : SeqLaws line states m s) (hr : r.core = (s.sq f).core := by rfl) :
    SeqLaws line states m (s.setSq f r) := h.setFeeder hr

/-- A record replaced by one that is lawful. -/
theorem setLawful {r : FeederRec} (h : SeqLaws line states m s)
    (hr : r.Lawful line states m (s.rect.latched.get f)) : SeqLaws line states m (s.setSq f r) :=
  h.of_one rfl (fun _ => id) (fun e he => by rw [State.sq, State.setSq_feeder_ne _ _ he]; rfl)
    (by rwa [State.setSq_sq_same])

theorem setIntake {r : FeederIntake} (h : SeqLaws line states m s) :
    SeqLaws line states m (s.setIntake f r) := h.setFeeder

theorem setProt {r : Protection} (h : SeqLaws line states m s) : SeqLaws line states m (s.setProt f r) :=
  h.setFeeder

theorem setRect {r : RectRec} (h : SeqLaws line states m s) (hl : r.latched = s.rect.latched := by rfl) :
    SeqLaws line states m (s.setRect r) := h.quiet rfl rfl hl

theorem setTie {r : TieRec} (h : SeqLaws line states m s) : SeqLaws line states m (s.setTie k r) := h.quiet

theorem setPort {r : PortRec} (h : SeqLaws line states m s) : SeqLaws line states m (s.setPort p r) := h.quiet

theorem ite {cond : Prop} {dec : Decidable cond} (ht : cond → SeqLaws line states m s)
    (hu : ¬ cond → SeqLaws line states m t) : SeqLaws line states m (if cond then s else t) := by
  split
  · exact ht ‹_›
  · exact hu ‹_›

/-- A service made under a condition. -/
theorem thenIf {cond : Prop} {dec : Decidable cond} (h : SeqLaws line states m s)
    (h' : SeqLaws line states m s → SeqLaws line states m t) :
    SeqLaws line states m (if cond then t else s) := ite (fun _ => h' h) fun _ => h

theorem forFeeders {g : FeederId → State → State} (h : SeqLaws line states m s)
    (hg : ∀ e {a}, SeqLaws line states m a → SeqLaws line states m (g e a)) :
    SeqLaws line states m (forFeeders g s) := forFeeders_induct (fun e _ ha => hg e ha) h

/-! The shared operations -/

theorem submit {kind : ReportKind} {src : Source} {x : Option Cause} {v w : Option Int}
    (h : SeqLaws line states m s) : SeqLaws line states m (submit kind src x v w s) :=
  h.quiet (submit_feeders ..) (submit_mode ..) (by rw [submit_rect])

theorem offerField (h : SeqLaws line states m s) : SeqLaws line states m (offerField c s) :=
  h.beside (offerField_mode ..) (fun _ he => by rwa [offerField_rect] at he) fun _ => by rw [offerField_sq]

theorem offerSeq (h : SeqLaws line states m s) : SeqLaws line states m (offerSeq c s) :=
  ite (fun _ => h) fun _ => h.offerField

theorem offerRect {force : Bool} (h : SeqLaws line states m s) :
    SeqLaws line states m (offerRect force c s) := ite (fun _ => h) fun _ => h.offerField

theorem offerTie {x : TieMsg} (h : SeqLaws line states m s) : SeqLaws line states m (offerTie k x s) := by
  rw [offerTie_eq]; exact h.setPort

theorem trigger {kind : TriggerKind} (h : SeqLaws line states m s) :
    SeqLaws line states m (trigger f kind s) := by
  unfold Machine.trigger
  split
  · exact h
  · exact h.quiet
  · exact h.submit

theorem withdrawLatched (h : SeqLaws line states m s) : SeqLaws line states m (withdrawLatched f s) := by
  refine h.beside rfl (fun e he => ?_) fun _ => rfl
  by_cases hf : e = f
  · subst hf; simp [Machine.withdrawLatched] at he
  · rwa [Machine.withdrawLatched, State.setRect_rect, PerFeeder.get_set_ne _ _ hf] at he

theorem addTester (h : SeqLaws line states m s) : SeqLaws line states m (addTester f s) := h.setRect

theorem dropTester (h : SeqLaws line states m s) : SeqLaws line states m (dropTester f s) := h.setRect

/-! Changes of state -/

/-- After a change of state a latched test is one that stood before, its feeder having no pending one or
being in DEAD_TIME (R100). -/
theorem enterCore_latched {new : FeederState} {cause : Option LockoutCause} {e : FeederId}
    (he : (enterCore f new cause s).rect.latched.get e = true) :
    s.rect.latched.get e = true ∧ (e = f → (s.sq f).pendingTest = false ∨ new = .deadTime) := by
  rw [enterCore_rect] at he
  split at he
  · by_cases hf : e = f
    · subst hf; simp at he
    · rw [PerFeeder.get_set_ne _ _ hf] at he
      exact ⟨he, fun h => absurd h hf⟩
  · next hn => exact ⟨he, fun _ => by simpa [or_iff_not_imp_left] using hn⟩

theorem enterCore {new : FeederState} {cause : Option LockoutCause} (h : SeqLaws line states m s)
    (hn : states → Enters m new) : SeqLaws line states m (enterCore f new cause s) := by
  refine h.of_one (f := f) (mode_of_fixed (enterCore_fixed ..)) (fun e he => (enterCore_latched he).1)
    (fun e he => by rw [State.sq, enterCore_feeder_ne _ _ _ he]; rfl) ?_
  rw [enterCore_sq, h.mode]
  exact (h.recs f).entered hn fun he => (enterCore_latched he).imp id fun hf => hf rfl

/-- The entry to a phase of DEAD_TIME (R100). -/
theorem enterPhase {ph : Phase} {timer : Timer} (h : SeqLaws line states m s) (hm : states → ModeLive m) :
    SeqLaws line states m (enterPhase f ph timer s) := by
  have hset : ∀ {a : State}, SeqLaws line states m a → (a.sq f).state = .deadTime →
      SeqLaws line states m (a.setSq f
        { a.sq f with phase := some ph, dead := timer, test := (a.sq f).test.ended }) := fun ha hs =>
    ha.setLawful ⟨(ha.recs f).line, fun hb => .inl (hm hb), fun _ _ => hs, (ha.recs f).latched⟩
  unfold Machine.enterPhase
  dsimp only
  by_cases hd : (s.sq f).state = .deadTime
  · simp only [if_pos hd]
    exact ite (fun _ => hset h hd) fun _ => (hset h hd).submit
  · simp only [if_neg hd]
    have hcore := h.enterCore (f := f) (new := .deadTime) (cause := none) fun hb => .inl (hm hb)
    have hdead : ((Machine.enterCore f .deadTime none s).sq f).state = .deadTime := by
      rw [enterCore_sq]; rfl
    exact ite (fun _ => hset hcore hdead) fun _ => (hset hcore hdead).submit

theorem startCloseTimer (h : SeqLaws line states m s) : SeqLaws line states m (startCloseTimer f s) := h.setSq

theorem recordResult {x : LastResult} (h : SeqLaws line states m s) :
    SeqLaws line states m (recordResult f x s) := h.setSq.submit

/-! The group -/

theorem offerBlocked {force : Bool} (h : SeqLaws line states m s) :
    SeqLaws line states m (offerBlocked force s) :=
  (h.quiet (t := { s with freeCount := s.freeCount + 1 })).offerRect

theorem rectMove {new : RectState} {cause : RectCause} (h : SeqLaws line states m s) :
    SeqLaws line states m (rectMove new cause s) := (h.setRect.thenIf fun ha => ha.offerBlocked).submit

theorem park {cause : RectCause} (h : SeqLaws line states m s) : SeqLaws line states m (park cause s) :=
  h.rectMove.offerRect.setRect

theorem enterRest {target : RestState} {cause : RectCause} (h : SeqLaws line states m s) :
    SeqLaws line states m (enterRest target cause s) := by
  cases target
  · exact h.rectMove
  · exact h.park

theorem beginCrossingWait (h : SeqLaws line states m s) : SeqLaws line states m (beginCrossingWait s) :=
  h.setRect

theorem enterStarting (h : SeqLaws line states m s) : SeqLaws line states m (enterStarting s) :=
  (setRect (rectMove (offerRect h.setRect))).thenIf fun ha => ha.beginCrossingWait

/-! Line tests and dead time -/

theorem abortEffects {reason : AbortReason} {uAvg ubAvg : Option Nat} (h : SeqLaws line states m s) :
    SeqLaws line states m (abortEffects f reason uAvg ubAvg s) :=
  (h.setSq.thenIf fun ha => ha.offerSeq).recordResult

theorem giveShotBack (h : SeqLaws line states m s) : SeqLaws line states m (giveShotBack f s) :=
  h.thenIf fun ha => ha.setSq

theorem returnAfterFlag (h : SeqLaws line states m s) (hm : states → ModeLive m) :
    SeqLaws line states m (returnAfterFlag f s) := by
  unfold Machine.returnAfterFlag
  dsimp only
  split
  · exact h.giveShotBack.enterPhase hm
  split
  · exact h.enterPhase hm
  · exact h.enterPhase hm
  · exact h.enterPhase hm

theorem enterTesting {kind : TestKind} {origin : Option TestOrigin} (h : SeqLaws line states m s)
    (hm : states → ModeLive m) : SeqLaws line states m (enterTesting f kind origin s) :=
  (h.enterCore fun hb => .inl (hm hb)).setSq.submit

theorem beginContactorCheck (h : SeqLaws line states m s) :
    SeqLaws line states m (beginContactorCheck f s) :=
  ite (fun _ => h.setSq) fun _ => h.offerSeq.startCloseTimer

/-- A feeder in DEAD_TIME, TESTING, CLOSING or OPENING shows SERVICE or REPLAY (R73). -/
theorem live_of_state (h : SeqLaws line states m s)
    (hs : (s.sq f).state = .deadTime ∨ (s.sq f).state = .testing ∨ (s.sq f).state = .closing
      ∨ (s.sq f).state = .opening) : states → ModeLive m := by
  refine h.live (f := f) ?_
  unfold FeederRec.Calm
  obtain hs | hs | hs | hs := hs <;> simp [hs]

/-- A latched test starts from DEAD_TIME, so in SERVICE or REPLAY (R132). -/
theorem startLatched (h : SeqLaws line states m s) : SeqLaws line states m (startLatched f s) := by
  refine ite (fun hl => ?_) fun _ => h
  have hm : states → ModeLive m := fun hb => h.live_of_state (.inl ((h.recs f).latched hb hl).2) hb
  have hset : SeqLaws line states m
      ((Machine.addTester f (Machine.withdrawLatched f s)).setSq f { s.sq f with pendingTest := false }) :=
    h.withdrawLatched.addTester.setLawful
      ⟨(h.recs f).line, (h.recs f).calm, (h.recs f).phase, fun _ hl => by
        simp [Machine.addTester, Machine.withdrawLatched] at hl⟩
  exact ite (fun _ => (hset.enterTesting hm).abortEffects.dropTester.returnAfterFlag hm) fun _ =>
    (hset.enterTesting hm).beginContactorCheck

theorem startAllLatched (h : SeqLaws line states m s) : SeqLaws line states m (startAllLatched s) :=
  h.forFeeders fun _ _ ha => ha.startLatched

theorem enterRunning (h : SeqLaws line states m s) : SeqLaws line states m (enterRunning s) :=
  h.rectMove.startAllLatched

theorem probeEnd (h : SeqLaws line states m s) : SeqLaws line states m (probeEnd s) :=
  ite (fun _ => h.enterRunning) fun _ => h.enterRest

theorem leaveTesting (h : SeqLaws line states m s) : SeqLaws line states m (leaveTesting f s) :=
  h.thenIf fun ha => ha.dropTester.thenIf fun hb => hb.probeEnd

theorem enterState {new : FeederState} {cause : Option LockoutCause} (h : SeqLaws line states m s)
    (hn : states → Enters m new) : SeqLaws line states m (enterState f new cause s) :=
  (h.thenIf fun ha => ha.leaveTesting).enterCore hn

theorem enterOpened (h : SeqLaws line states m s) :
    SeqLaws line states m (Machine.enterState f .opened none s) :=
  h.enterState fun _ => .inr (.inl rfl)

theorem storePositions {i : SlotId} {ps : List (Option Point)} (h : SeqLaws line states m s) :
    SeqLaws line states m (storePositions f i ps s) :=
  ite (fun _ => h.quiet) fun _ => submit h.quiet

theorem endCapture (h : SeqLaws line states m s) : SeqLaws line states m (endCapture f s) := by
  unfold Machine.endCapture
  split
  · exact h
  · exact h.storePositions

theorem disarmIfLeft {old new : FeederState} (h : SeqLaws line states m s) :
    SeqLaws line states m (disarmIfLeft f old new s) := h.thenIf fun ha => ha.setProt

theorem enterOut (h : SeqLaws line states m s) : SeqLaws line states m (enterOut f s) := by
  have hleft : SeqLaws line states m (if (s.sq f).state = .testing then Machine.leaveTesting f s else s) :=
    h.thenIf fun ha => ha.leaveTesting
  unfold Machine.enterOut
  dsimp only
  generalize (if (s.sq f).state = .testing then Machine.leaveTesting f s else s) = a at hleft
  refine ((SeqLaws.setLawful ?_ (.enteredOut fun hb => ?_)).disarmIfLeft).setIntake.endCapture
  · exact hleft.thenIf fun ha => ha.withdrawLatched
  · split
    · simp [Machine.withdrawLatched]
    · next hp =>
      refine Bool.eq_false_iff.mpr fun hl => hp ((hleft.recs f).latched hb hl).1

theorem sendSection {hold : Bool} (h : SeqLaws line states m s) :
    SeqLaws line states m (sendSection f hold s) := by
  unfold Machine.sendSection
  split
  · exact h
  · exact ite (fun _ => h) fun _ => h.offerTie

theorem lockout {cause : LockoutCause} {offered : Bool} (h : SeqLaws line states m s) :
    SeqLaws line states m (lockout f cause offered s) :=
  (((h.thenIf fun ha => ha.offerSeq).enterState fun _ => .inr (.inr (.inl rfl))).setSq.submit).thenIf
    fun ha => ha.sendSection

/-! Test requests -/

/-- A test is latched for a feeder in DEAD_TIME whose pending-test flag is set (R106). -/
theorem latchTest (h : SeqLaws line states m s)
    (hs : states → (s.sq f).pendingTest = true ∧ (s.sq f).state = .deadTime) :
    SeqLaws line states m (latchTest f s) := by
  have hset : SeqLaws line states m (s.setRect { s.rect with latched := s.rect.latched.set f true }) := by
    refine ⟨h.mode, fun e => ?_⟩
    by_cases he : e = f
    · subst he
      exact ⟨(h.recs e).line, (h.recs e).calm, (h.recs e).phase, fun hb _ => hs hb⟩
    · exact (h.recs e).of_core rfl fun hl => by
        rwa [State.setRect_rect, PerFeeder.get_set_ne _ _ he] at hl
  exact ite (fun _ => h) fun _ => hset.thenIf fun ha => ha.enterStarting

theorem probeFromHold (h : SeqLaws line states m s) : SeqLaws line states m (probeFromHold s) :=
  h.rectMove.setRect

theorem startTest {kind : TestKind} {origin : Option TestOrigin} (h : SeqLaws line states m s)
    (hm : states → ModeLive m) : SeqLaws line states m (startTest f kind origin s) :=
  (h.addTester.enterTesting hm).beginContactorCheck

theorem abortUnstarted {reason : AbortReason} {origin : TestOrigin} (h : SeqLaws line states m s)
    (hm : states → ModeLive m) : SeqLaws line states m (abortUnstarted f reason origin s) :=
  h.setSq.abortEffects.returnAfterFlag hm

theorem coolFirst {origin : TestOrigin} (h : SeqLaws line states m s) (hm : states → ModeLive m) :
    SeqLaws line states m (coolFirst f origin s) := (h.enterPhase hm).setSq

theorem awaitSupply {origin : TestOrigin} (h : SeqLaws line states m s) (hm : states → ModeLive m) :
    SeqLaws line states m (awaitSupply f origin s) := by
  have hphase := h.enterPhase (f := f) (ph := .awaitingSupply) (timer := none) hm
  obtain ⟨hdead, -⟩ := enterPhase_sq f .awaitingSupply none s
  refine latchTest (hphase.setLawful ⟨(hphase.recs f).line, fun hb => .inl (hm hb), (hphase.recs f).phase,
    fun _ _ => ⟨rfl, hdead⟩⟩) fun _ => ?_
  rw [State.setSq_sq_same]
  exact ⟨rfl, hdead⟩

theorem testRequest {origin : TestOrigin} (h : SeqLaws line states m s) (hm : states → ModeLive m) :
    SeqLaws line states m (testRequest f origin s) := by
  unfold Machine.testRequest
  refine ite (fun _ => h.abortUnstarted hm) fun _ => ite (fun _ => h.abortUnstarted hm) fun _ =>
    ite (fun _ => h.coolFirst hm) fun _ => ?_
  cases s.rect.state with
  | running | probe => exact h.startTest hm
  | hold => exact h.probeFromHold.startTest hm
  | parked | starting | faulted => exact h.awaitSupply hm

theorem farEndDown (h : SeqLaws line states m s) (hm : states → ModeLive m) :
    SeqLaws line states m (farEndDown f s) := (h.setSq.testRequest hm).submit

theorem enterFarEnd (h : SeqLaws line states m s) (hm : states → ModeLive m) :
    SeqLaws line states m (enterFarEnd f s) := (h.enterPhase hm).thenIf fun ha => ha.farEndDown hm

theorem abortReturn {reason : AbortReason} (h : SeqLaws line states m s) (hm : states → ModeLive m) :
    SeqLaws line states m (abortReturn f reason s) := by
  unfold Machine.abortReturn
  dsimp only
  split
  · exact ite (fun _ => h.setSq) fun _ => h.enterOpened.submit
  · exact ite (fun _ => h.enterFarEnd hm) fun _ => h.returnAfterFlag hm

theorem abortTesting {reason : AbortReason} {uAvg ubAvg : Option Nat} (h : SeqLaws line states m s) :
    SeqLaws line states m (abortTesting f reason uAvg ubAvg s) := h.abortEffects.leaveTesting

theorem abortForGood {reason : AbortReason} (h : SeqLaws line states m s) :
    SeqLaws line states m (abortForGood f reason s) := h.abortTesting.giveShotBack

theorem abortTest {reason : AbortReason} {uAvg ubAvg : Option Nat} (h : SeqLaws line states m s)
    (hm : states → ModeLive m) : SeqLaws line states m (abortTest f reason uAvg ubAvg s) :=
  h.abortTesting.abortReturn hm

theorem manualRequest (h : SeqLaws line states m s) (hm : states → ModeLive m) :
    SeqLaws line states m (manualRequest f s) := by
  unfold Machine.manualRequest
  cases s.rect.state with
  | running | probe => exact h.startTest hm
  | hold => exact h.probeFromHold.startTest hm
  | parked | starting | faulted => exact h.setSq.abortTest hm

theorem enterClosing (h : SeqLaws line states m s) (hm : states → ModeLive m) :
    SeqLaws line states m (enterClosing f s) :=
  (h.enterState fun hb => .inl (hm hb)).submit.offerSeq.setSq

theorem serveShort (h : SeqLaws line states m s) (hm : states → ModeLive m) :
    SeqLaws line states m (serveShort f s) :=
  ite (fun _ => h.setSq.leaveTesting.enterPhase hm) fun _ => h.setSq.lockout

theorem serveResult {x : LastResult} (h : SeqLaws line states m s) (hm : states → ModeLive m) :
    SeqLaws line states m (serveResult f x s) :=
  ite (fun _ => ite (fun _ => h.recordResult.enterOpened.submit) fun _ => h.recordResult.serveShort hm)
    fun _ => h.recordResult.enterClosing hm

theorem contactorFailure {offer : Bool} (h : SeqLaws line states m s) :
    SeqLaws line states m (contactorFailure f offer s) := by
  unfold Machine.contactorFailure
  exact (h.recordResult.thenIf fun ha => ha.offerSeq).lockout

/-- Only a feeder in TESTING hears that its supply is lost (R134). -/
theorem supplyLost (h : SeqLaws line states m s) : SeqLaws line states m (supplyLost s) :=
  (h.setRect (r := { s.rect with testers := PerFeeder.const false })).forFeeders fun _ _ ha =>
    ite (fun hc => ha.abortTest (ha.live_of_state (.inr (.inl hc.2.1)))) fun _ => ha

theorem holdLosing {cause : RectCause} (h : SeqLaws line states m s) :
    SeqLaws line states m (holdLosing cause s) := h.rectMove.supplyLost

theorem parkLosing {cause : RectCause} (h : SeqLaws line states m s) :
    SeqLaws line states m (parkLosing cause s) := h.park.supplyLost

theorem rectFault {cause : FaultCause} (h : SeqLaws line states m s) :
    SeqLaws line states m (rectFault cause s) :=
  ite (fun _ => h.setRect.submit) fun _ =>
    (supplyLost (offerBlocked (setRect (offerRect h.setRect)))).submit

/-! Tripping -/

theorem intertripFailNotice (h : SeqLaws line states m s) :
    SeqLaws line states m (intertripFailNotice f s) := by
  unfold Machine.intertripFailNotice
  dsimp only
  cases hs : (s.sq f).state with
  | tripping => exact h.setSq (hr := by simp [FeederRec.core, hs])
  | deadTime => exact h.lockout
  | testing => exact ite (fun _ => h.lockout) fun _ => h.abortForGood.lockout
  | out | opened | closing | closed | opening | lockout => exact h

theorem intertripFail {cause : InterCause} {sec : Nat} {why : InterFail} (h : SeqLaws line states m s) :
    SeqLaws line states m (intertripFail f cause sec why s) := h.setFeeder.submit.intertripFailNotice

theorem intertripRequest {cause : InterCause} (h : SeqLaws line states m s) :
    SeqLaws line states m (intertripRequest f cause s) := by
  unfold Machine.intertripRequest
  split
  · exact h
  · exact ite (fun _ => h.setTie.setFeeder.submit) fun _ =>
      ite (fun _ => h.setTie.setFeeder.offerTie.submit) fun _ =>
        ite (fun _ => h.intertripFail) fun _ => h.setTie.offerTie.submit.intertripFail

/-- A trip needs SERVICE or REPLAY, but for one of an uncommanded close (R73, R83, R92). -/
theorem startTrip {req : TripRequest} (h : SeqLaws line states m s)
    (hn : states → ModeLive m ∨ req.primary = .uncommandedClose) :
    SeqLaws line states m (startTrip f req s) := by
  have hleft : SeqLaws line states m
      (if (s.sq f).state = .testing ∧ FeederState.tripping ≠ .testing then Machine.leaveTesting f s else s) :=
    h.thenIf fun ha => ha.leaveTesting
  have htripped : SeqLaws line states m
      ((Machine.offerSeq (.breaker f .trip) (Machine.enterState f .tripping none s)).setSq f
        (((Machine.offerSeq (.breaker f .trip) (Machine.enterState f .tripping none s)).sq f).tripped req
          (s.sq f).sotf.isSome (ms (s.feeder f).row.brk.tOpenMax))) := by
    unfold Machine.enterState
    generalize (if (s.sq f).state = .testing ∧ FeederState.tripping ≠ .testing then Machine.leaveTesting f s
      else s) = a at hleft
    refine hleft.of_one (f := f) ?_ (fun e he => ?_) (fun e he => ?_) ?_
    · exact mode_of_fixed (by simp)
    · rw [State.setSq_rect, offerSeq_rect] at he
      exact (enterCore_latched he).1
    · rw [State.sq, State.setSq_feeder_ne _ _ he]
      exact congrArg FeederRec.core ((offerSeq_sq ..).trans
        (congrArg FeederUnit.sq (enterCore_feeder_ne _ _ _ he)))
    · rw [State.setSq_sq_same, offerSeq_sq, enterCore_sq, hleft.mode, State.setSq_rect, offerSeq_rect]
      exact
        { line := fun _ => rfl
          calm := fun hb => (hn hb).imp id fun hp => .inr (.inr (.inr (.inl ⟨rfl, congrArg some hp⟩)))
          phase := fun _ hp => absurd rfl hp
          latched := fun hb hl => by
            obtain ⟨hold, hnone⟩ := enterCore_latched hl
            obtain ⟨htest, -⟩ := (hleft.recs f).latched hb hold
            obtain hgone | hgone := hnone rfl
            · simp [hgone] at htest
            · cases hgone }
  unfold Machine.startTrip
  dsimp only
  split
  · exact (htripped.submit.thenIf fun ha => ha.trigger).intertripRequest
  · exact htripped.submit.thenIf fun ha => ha.trigger

theorem requestTrip {req : TripRequest} (h : SeqLaws line states m s) :
    SeqLaws line states m (requestTrip f req s) := by
  refine ite (fun _ => h) fun hshadow => ?_
  dsimp only
  cases hs : (s.sq f).state with
  | closed =>
    refine h.startTrip fun hb => .inl (h.live (f := f) ?_ hb)
    simpa [FeederRec.Calm, hs] using h.mode ▸ hshadow
  | closing | opening => exact h.startTrip fun hb => .inl (h.live_of_state (f := f) (by simp [hs]) hb)
  | tripping => exact h.setSq (hr := by simp [FeederRec.core, hs])
  | out | opened | testing | deadTime | lockout => exact h

theorem flagAction {blind : Bool} (h : SeqLaws line states m s) :
    SeqLaws line states m (flagAction f blind s) := by
  refine ite (fun _ => h) fun _ => ?_
  dsimp only
  cases hs : (s.sq f).state with
  | closed => cases hb : (s.feeder f).row.brk.blindAction with
    | trip => exact h.requestTrip
    | alarm => exact h
  | testing => exact ite (fun _ => h) fun _ => h.abortTest (h.live_of_state (f := f) (by simp [hs]))
  | out | opened | closing | opening | tripping | deadTime | lockout => exact h

theorem closedFlags (h : SeqLaws line states m s) : SeqLaws line states m (closedFlags f s) :=
  (h.thenIf fun ha => ha.flagAction).thenIf fun ha => ha.flagAction

/-- What follows a trip leaves CONFIG and SHADOW a lockout: its cause is the uncommanded close (R85, R92). -/
theorem afterTrip (h : SeqLaws line states m s)
    (hn : states → ModeLive m ∨ (s.sq f).primary = some .uncommandedClose) :
    SeqLaws line states m (afterTrip f s) := by
  have hm : ¬ ((s.sq f).primary.getD .externalOpen).locksOut = true → states → ModeLive m := fun hp hb =>
    (hn hb).resolve_right fun hu => hp (by rw [hu]; rfl)
  refine ite (fun _ => h.lockout) fun _ => ite (fun _ => h.lockout) fun hp => ite (fun _ => h.lockout) fun _ =>
    ite (fun _ => h.lockout) fun _ => ite (fun _ => h.setSq.enterPhase (hm hp)) fun _ =>
    ite (fun _ => h.setSq.enterFarEnd (hm hp)) fun _ => ite (fun _ => h.setSq.enterPhase (hm hp)) fun _ =>
    h.lockout

theorem breakerFailure (h : SeqLaws line states m s) : SeqLaws line states m (breakerFailure f s) :=
  ((h.lockout.thenIf fun ha => ha.offerSeq).rectFault).intertripRequest.submit

theorem estopFeeder (h : SeqLaws line states m s) : SeqLaws line states m (estopFeeder f s) := by
  unfold Machine.estopFeeder
  dsimp only
  cases (s.sq f).state with
  | closed | closing | opening | tripping => exact h.requestTrip
  | deadTime => exact h.lockout
  | testing => exact ite (fun _ => h.lockout) fun _ => h.abortForGood.lockout
  | out | opened | lockout => exact h

theorem serveEstop (h : SeqLaws line states m s) : SeqLaws line states m (serveEstop s) :=
  ite (fun _ => h) fun _ => (h.forFeeders fun _ _ ha => ha.estopFeeder).rectFault

end SeqLaws

end Sys2Proof.Machine
end

section
/-! PROOF. The two laws of the feeder records through the breaker units' STATUS and the feeder timers (R73, R76). -/

namespace Sys2Proof.Machine

set_option Elab.async false

namespace SeqLaws

variable {line states : Prop} {m : Mode} {s t : State} {f : FeederId} {k : Tie} {p : Port} {c : FieldCommand}

/-! Confirmations -/

theorem reportOpened {cause : Option TripCause} (h : SeqLaws line states m s) :
    SeqLaws line states m (reportOpened f cause s) := h.submit

theorem reportUncommanded {device : Int} (h : SeqLaws line states m s) :
    SeqLaws line states m (reportUncommanded f device s) := h.submit

theorem reportFeederState {new old : FeederState} (h : SeqLaws line states m s) :
    SeqLaws line states m (reportFeederState f new old s) := h.submit

theorem tripConfirmed (h : SeqLaws line states m s) (hs : (s.sq f).state = .tripping) :
    SeqLaws line states m (tripConfirmed f s) := by
  refine (reportOpened h.setSq).afterTrip fun hb => ?_
  obtain hm | hcalm := (h.recs f).calm hb
  · exact .inl hm
  · right
    simpa [Machine.reportOpened, FeederRec.Calm, hs] using hcalm

theorem openingConfirmed (h : SeqLaws line states m s) : SeqLaws line states m (openingConfirmed f s) :=
  (enterOpened h.setSq).reportOpened

theorem externalOpening (h : SeqLaws line states m s) (hm : states → ModeLive m) :
    SeqLaws line states m (externalOpening f s) := by
  refine (submit (h.setLawful ?_)).afterTrip fun hb => .inl (hm hb)
  exact (h.recs f).of_live hm rfl

theorem confirmOpen (h : SeqLaws line states m s) : SeqLaws line states m (confirmOpen f s) := by
  unfold Machine.confirmOpen
  dsimp only
  cases hs : (s.sq f).state with
  | tripping => exact h.tripConfirmed hs
  | opening => exact h.openingConfirmed
  | closed => cases hm : s.mode with
    | service => exact h.externalOpening fun _ => .inl (h.mode.symm.trans hm)
    | replay => exact h.externalOpening fun _ => .inr (h.mode.symm.trans hm)
    | shadow => exact h.enterOpened.reportOpened
    | config => exact h
  | lockout => exact h.thenIf fun ha => ha.reportOpened
  | out | opened | testing | closing | deadTime => exact h

theorem closingConfirmed (h : SeqLaws line states m s) (hm : states → ModeLive m) :
    SeqLaws line states m (closingConfirmed f s) :=
  ((enterState h.setSq fun hb => .inl (hm hb)).submit.sendSection).closedFlags

theorem uncommandedTrip (h : SeqLaws line states m s) : SeqLaws line states m (uncommandedTrip f s) := by
  unfold Machine.uncommandedTrip
  exact (h.thenIf fun ha => ha.abortForGood).startTrip fun _ => .inr rfl

theorem enterClosedComplete (h : SeqLaws line states m s) (hm : states → ModeLive m ∨ m = .shadow) :
    SeqLaws line states m (enterClosedComplete f s) :=
  enterState h.setSq fun hb => (hm hb).imp id fun hm => .inr (.inr ⟨rfl, hm⟩)

theorem takeOver (h : SeqLaws line states m s) (hm : states → ModeLive m ∨ m = .shadow) :
    SeqLaws line states m (takeOver f s) := (h.enterClosedComplete hm).reportUncommanded.closedFlags

theorem confirmClosed (h : SeqLaws line states m s) : SeqLaws line states m (confirmClosed f s) := by
  have hmode := h.mode
  unfold Machine.confirmClosed
  dsimp only
  cases hs : (s.sq f).state with
  | closing => exact h.closingConfirmed (h.live_of_state (f := f) (by simp [hs]))
  | out => exact h.reportUncommanded
  | opened => cases hm : s.mode with
    | service => exact h.takeOver fun _ => .inl (.inl (hmode.symm.trans hm))
    | replay => exact h.takeOver fun _ => .inl (.inr (hmode.symm.trans hm))
    | config => exact h.uncommandedTrip
    | shadow => exact (h.enterClosedComplete fun _ => .inr (hmode.symm.trans hm)).submit
  | deadTime | testing => cases s.mode with
    | service | replay => exact h.uncommandedTrip
    | config | shadow => exact h
  | lockout => exact ite (fun _ => h.reportUncommanded) fun _ => h.uncommandedTrip
  | closed | opening | tripping => exact h

theorem servePending (h : SeqLaws line states m s) (hm : states → ModeLive m) :
    SeqLaws line states m (servePending f s) := by
  unfold Machine.servePending
  dsimp only
  split
  · exact serveResult h.setSq hm
  · exact h

theorem openWaitEnd (h : SeqLaws line states m s) : SeqLaws line states m (openWaitEnd f s) :=
  (enterOpened h.setSq).reportFeederState

theorem testContactor {closed : Bool} (h : SeqLaws line states m s) (hm : states → ModeLive m) :
    SeqLaws line states m (testContactor f closed s) := by
  unfold Machine.testContactor
  dsimp only
  split
  · exact ite (fun _ => h) fun _ => h.setSq
  · exact ite (fun _ => h.contactorFailure) fun _ => h
  · exact ite (fun _ => h.setSq) fun _ => h
  · exact ite (fun _ => h) fun _ => h.contactorFailure
  · exact ite (fun _ => h) fun _ => h.contactorFailure
  · exact ite (fun _ => h) fun _ => h.servePending hm
  · exact h

theorem confirmContactor {closed : Bool} (h : SeqLaws line states m s) :
    SeqLaws line states m (confirmContactor f closed s) :=
  ite (fun hs => ite (fun _ => ite (fun _ => h) fun _ => h.openWaitEnd) fun _ =>
    h.testContactor (h.live_of_state (.inr (.inl hs)))) fun _ =>
    ite (fun _ => h.offerSeq.reportUncommanded) fun _ => h

theorem breakerChanged {pos : BreakerPos} (h : SeqLaws line states m s) :
    SeqLaws line states m (breakerChanged f pos s) := by
  cases pos with
  | opened => exact h.confirmOpen
  | closed => exact h.confirmClosed
  | travelling | disagree | unknown => exact h

theorem contactorChanged {pos : ContactorPos} (h : SeqLaws line states m s) :
    SeqLaws line states m (contactorChanged f pos s) := by
  cases pos with
  | opened | closed => exact h.confirmContactor
  | disagree | unknown => exact h

theorem breakerStatus {x : BreakerStatus} (h : SeqLaws line states m s) :
    SeqLaws line states m (breakerStatus f x s) := by
  have hset := h.setSq (f := f) (r := { s.sq f with
    breaker := x.breaker, contactor := x.contactor, spring := x.spring })
  have hbreaker := ite (cond := x.breaker = (s.sq f).breaker) (dec := inferInstance) (fun _ => hset)
    fun _ => hset.breakerChanged (f := f) (pos := x.breaker)
  exact ite (fun _ => hbreaker) fun _ => hbreaker.contactorChanged

/-! The feeder timers -/

theorem openExpired (h : SeqLaws line states m s) : SeqLaws line states m (openExpired f s) :=
  ite (fun _ => h) fun _ => ite (fun _ => breakerFailure h.setSq) fun _ => h.setSq

theorem contactorTimeout (h : SeqLaws line states m s) : SeqLaws line states m (contactorTimeout f s) := by
  refine ite (fun _ => h.lockout) fun _ => ?_
  split
  · exact h.contactorFailure
  · exact h.contactorFailure
  · exact h.contactorFailure
  all_goals exact h

theorem closeExpired (h : SeqLaws line states m s) : SeqLaws line states m (closeExpired f s) := by
  refine ite (fun _ => h) fun _ => ?_
  split
  · exact (lockout h.setSq).offerSeq
  · exact contactorTimeout h.setSq
  all_goals exact h.setSq

theorem sotfExpired (h : SeqLaws line states m s) : SeqLaws line states m (sotfExpired f s) := h.setSq

theorem reclaimExpired (h : SeqLaws line states m s) : SeqLaws line states m (reclaimExpired f s) :=
  ite (fun _ => h) fun _ => ite (fun _ => reportFeederState h.setSq) fun _ => h.setSq

/-- A feeder in a phase of DEAD_TIME shows SERVICE or REPLAY (R73, R100). -/
theorem live_of_phase {ph : Phase} (h : SeqLaws line states m s) (hp : (s.sq f).phase = some ph) :
    states → ModeLive m := fun hb =>
  h.live_of_state (f := f) (.inl ((h.recs f).phase hb (by rw [hp]; exact Option.some_ne_none _))) hb

theorem deadTimeExpired (h : SeqLaws line states m s) : SeqLaws line states m (deadTimeExpired f s) := by
  refine ite (fun _ => h) fun hp => ?_
  have hm := h.live_of_phase (not_not.mp (not_or.mp hp).2)
  exact ite (fun _ => enterFarEnd h.setSq hm) fun _ => testRequest h.setSq hm

theorem followExpired (h : SeqLaws line states m s) : SeqLaws line states m (followExpired f s) :=
  ite (fun _ => h) fun hp => (testRequest h.setSq (h.live_of_phase (not_not.mp (not_or.mp hp).2))).submit

theorem blindExpired (h : SeqLaws line states m s) : SeqLaws line states m (blindExpired f s) :=
  ite (fun _ => h) fun _ => (submit h.setFeeder).flagAction

end SeqLaws
end Sys2Proof.Machine
end

section
/-! PROOF. The two laws of the feeder records through protection and the phase reference (R73, R76). -/

namespace Sys2Proof.Machine

set_option Elab.async false

namespace SeqLaws

variable {line states : Prop} {m : Mode} {s t : State} {f : FeederId} {k : Tie} {p : Port} {c : FieldCommand}

/-! Protection -/

theorem thermalSample {i : Int} (h : SeqLaws line states m s) :
    SeqLaws line states m (thermalSample f i s) :=
  ite (fun _ => ite (fun _ => submit h.setProt) fun _ => ite (fun _ => submit h.setProt) fun _ => h.setProt)
    fun _ => h

theorem wouldTrip {req : TripRequest} (h : SeqLaws line states m s) :
    SeqLaws line states m (wouldTrip f req s) := h.submit.thenIf fun ha => ha.trigger

theorem raiseTrip {req : TripRequest} (h : SeqLaws line states m s) :
    SeqLaws line states m (raiseTrip f req s) :=
  ite (fun _ => wouldTrip h.setProt) fun _ => requestTrip h.setProt

theorem reportSlowRise {e : DdlEvent} (h : SeqLaws line states m s) :
    SeqLaws line states m (reportSlowRise f e s) := by
  cases e with
  | slowRise => exact h.submit
  | quiet | fires => exact h

theorem armedSample {x : FeederTaken} (h : SeqLaws line states m s) :
    SeqLaws line states m (armedSample f x s) := by
  unfold Machine.armedSample
  dsimp only
  have hb := (reportSlowRise (f := f) (e := (ddlStep (s.feeder f).row.prot x (s.feeder f).prot.hold
    (s.feeder f).prot.ddl).2) (h.setProt (f := f) (r := { (s.feeder f).prot with
      iocCount := iocCount (s.feeder f).row.prot x (s.feeder f).prot.iocCount
      ddl := (ddlStep (s.feeder f).row.prot x (s.feeder f).prot.hold
        (s.feeder f).prot.ddl).1 }))).thermalSample (f := f) (i := x.i)
  split
  · exact hb.raiseTrip
  · exact hb.thenIf fun ha => ha.setProt

theorem protectionSample {x : FeederTaken} (h : SeqLaws line states m s) :
    SeqLaws line states m (protectionSample f x s) := ite (fun _ => h.armedSample) fun _ => h.thermalSample

/-! The phase reference -/

theorem offerFiring {correction : Int} {block resync : Bool} (h : SeqLaws line states m s) :
    SeqLaws line states m (offerFiring correction block resync s) := h.offerRect

theorem anchorReference {tm : Stamp} (h : SeqLaws line states m s) :
    SeqLaws line states m (anchorReference tm s) := h.setRect

theorem clearSums (h : SeqLaws line states m s) : SeqLaws line states m (s.setRect s.rect.clearSums) :=
  h.setRect

theorem hardSync {tm : Stamp} (h : SeqLaws line states m s) : SeqLaws line states m (hardSync tm s) :=
  (((setRect h).anchorReference).rectMove.offerFiring).startAllLatched

theorem anchorCrossing {tm : Stamp} (h : SeqLaws line states m s) :
    SeqLaws line states m (anchorCrossing tm s) := h.anchorReference.offerFiring.clearSums

theorem slip {tm : Stamp} {e : Int} (h : SeqLaws line states m s) : SeqLaws line states m (slip tm e s) :=
  h.submit.anchorReference.offerFiring.clearSums

theorem regulate (h : SeqLaws line states m s) : SeqLaws line states m (regulate s) :=
  ite (fun _ => h.clearSums) fun _ => ite (fun _ => submit h.setRect) fun _ => h.setRect

theorem wakeTest (h : SeqLaws line states m s) : SeqLaws line states m (wakeTest s) :=
  ite (fun _ => ite (fun _ => h.clearSums.enterRunning) fun _ => h.clearSums) fun _ => h

theorem trackCrossing {p : Stamp} {e : Int} (h : SeqLaws line states m s) :
    SeqLaws line states m (trackCrossing p e s) := by
  have htrack : ∀ {a}, SeqLaws line states m a → SeqLaws line states m
      (if a.rect.state = .hold then Machine.wakeTest a else Machine.regulate a) := fun ha =>
    ite (fun _ => ha.wakeTest) fun _ => ha.regulate
  exact (htrack h.setRect).offerFiring.thenIf fun ha => ha.enterRunning

theorem runningCrossing {tm : Stamp} (h : SeqLaws line states m s) :
    SeqLaws line states m (runningCrossing tm s) := by
  unfold Machine.runningCrossing
  split
  · exact ite (fun _ => h.slip) fun _ => h.trackCrossing
  · exact h.anchorCrossing

theorem takeCrossing {tm : Stamp} (h : SeqLaws line states m s) :
    SeqLaws line states m (takeCrossing tm s) := by
  unfold Machine.takeCrossing
  split
  · exact h
  · exact h
  · exact h.thenIf fun ha => ha.hardSync
  all_goals exact h.runningCrossing

theorem referenceLost (h : SeqLaws line states m s) : SeqLaws line states m (referenceLost s) :=
  ite (fun _ => submit h.setRect) fun _ => h.parkLosing

theorem watchExpired (h : SeqLaws line states m s) : SeqLaws line states m (watchExpired s) :=
  ite (fun _ => h) fun _ => (setRect h).thenIf fun ha => ha.referenceLost

end SeqLaws
end Sys2Proof.Machine
end

section
/-! PROOF. The two laws of the feeder records through the rectifier group and sample intake (R73, R76). -/

namespace Sys2Proof.Machine

set_option Elab.async false

namespace SeqLaws

variable {line states : Prop} {m : Mode} {s t : State} {f : FeederId} {k : Tie} {p : Port} {c : FieldCommand}

/-! The group's samples, its field units and its requests -/

theorem accumulate {x : RectTaken} (h : SeqLaws line states m s) :
    SeqLaws line states m (accumulate x s) := h.thenIf fun ha => ha.setRect

theorem faultOrWouldTrip {cause : FaultCause} (h : SeqLaws line states m s) :
    SeqLaws line states m (faultOrWouldTrip cause s) := ite (fun _ => h.submit) fun _ => h.rectFault

theorem testOvercurrent {x : RectTaken} (h : SeqLaws line states m s) :
    SeqLaws line states m (testOvercurrent x s) :=
  ite (fun _ => ite (fun _ => faultOrWouldTrip h.setRect) fun _ => h.setRect) fun _ => h

theorem testStackWarning {temp : Int} (h : SeqLaws line states m s) :
    SeqLaws line states m (testStackWarning temp s) :=
  ite (fun _ => submit h.setRect) fun _ => ite (fun _ => submit h.setRect) fun _ => h

theorem stackOnset (h : SeqLaws line states m s) : SeqLaws line states m (stackOnset s) := by
  unfold Machine.stackOnset
  split
  · exact h
  · exact h.faultOrWouldTrip
  · exact h
  · exact h
  · refine ite (fun _ => h.submit) fun _ => ?_
    split
    · exact setRect h.holdLosing
    · unfold Machine.stackEndsProbe
      split
      · exact h.holdLosing
      · exact h.parkLosing
    · exact h.park
    all_goals exact h

theorem stackCleared (h : SeqLaws line states m s) : SeqLaws line states m (stackCleared s) :=
  ite (fun _ => h.setRect) fun _ => ite (fun _ => h.setRect) fun _ => h

theorem testStack {temp : Int} (h : SeqLaws line states m s) : SeqLaws line states m (testStack temp s) := by
  have hw := h.testStackWarning (temp := temp)
  exact ite (fun _ => ite (fun _ => stackOnset hw.setRect) fun _ =>
    ite (fun _ => stackCleared hw.setRect) fun _ => hw) fun _ => h

theorem rectSample {x : RectTaken} (h : SeqLaws line states m s) : SeqLaws line states m (rectSample x s) := by
  have htested := ((h.accumulate (x := x)).testOvercurrent (x := x)).testStack (temp := x.temp)
  unfold Machine.rectSample
  dsimp only
  split
  · exact htested.takeCrossing
  · exact htested

theorem firingStatus {st : FiringState} (h : SeqLaws line states m s) :
    SeqLaws line states m (firingStatus st s) := (setRect h).thenIf fun ha => ha.faultOrWouldTrip

theorem acUncommandedClose (h : SeqLaws line states m s) : SeqLaws line states m (acUncommandedClose s) :=
  (h.offerRect.thenIf fun ha => ha.setRect).submit

theorem acMirrored {pos : BreakerPos} (h : SeqLaws line states m s) :
    SeqLaws line states m (acMirrored pos s) := by
  cases pos with
  | closed => exact ite (fun _ => h.acUncommandedClose) fun _ => ite (fun _ => h) fun _ => h.rectMove
  | opened => exact ite (fun _ => h) fun _ => ite (fun _ => h) fun _ => rectMove h.quiet
  | travelling | disagree | unknown => exact h

theorem acClosed (h : SeqLaws line states m s) : SeqLaws line states m (acClosed s) := by
  unfold Machine.acClosed
  split
  · exact ite (fun _ => h) fun _ => h.beginCrossingWait
  · exact h
  · exact h
  · exact h
  all_goals exact h.acUncommandedClose

theorem acOpened (h : SeqLaws line states m s) : SeqLaws line states m (acOpened s) := by
  unfold Machine.acOpened
  split
  · exact h.thenIf fun ha => ha.rectFault
  · exact h.rectFault
  · exact h.rectFault
  · exact h.rectFault
  · exact h.setRect
  · exact h

theorem acStatus {pos : BreakerPos} (h : SeqLaws line states m s) : SeqLaws line states m (acStatus pos s) := by
  refine ite (fun _ => h.setRect) fun _ => ite (fun _ => acMirrored h.setRect) fun _ => ?_
  cases pos with
  | closed => exact acClosed h.setRect
  | opened => exact acOpened h.setRect
  | travelling | disagree | unknown => exact h.setRect

theorem acTimerExpired (h : SeqLaws line states m s) : SeqLaws line states m (acTimerExpired s) := by
  refine ite (fun _ => h) fun _ => ite (fun _ => h.setRect) fun _ => ?_
  split
  · exact ite (fun _ => park h.setRect) fun _ => rectFault h.setRect
  · exact ite (fun _ => h.setRect) fun _ => rectFault h.setRect
  all_goals exact h.setRect

theorem serveRun (h : SeqLaws line states m s) : SeqLaws line states m (serveRun s) := by
  unfold Machine.serveRun
  split
  · exact h.enterStarting
  · exact h
  · exact h
  · exact h
  all_goals exact h.setRect

theorem serveRest (h : SeqLaws line states m s) : SeqLaws line states m (serveRest s) := by
  unfold Machine.serveRest
  dsimp only
  split
  · exact ite (fun _ => setRect (rectMove h.setRect)) fun _ => enterRest h.setRect
  · exact h.setRect
  · exact h.setRect
  · exact h.park
  all_goals exact h

theorem serveReset (h : SeqLaws line states m s) : SeqLaws line states m (serveReset s) := rectMove h.setRect

/-! The line test's samples -/

theorem coolingSample (h : SeqLaws line states m s) (hm : states → ModeLive m) :
    SeqLaws line states m (coolingSample f s) := h.thenIf fun ha => ha.testRequest hm

theorem liveSample {x : FeederTaken} (h : SeqLaws line states m s) (hm : states → ModeLive m) :
    SeqLaws line states m (liveSample f x s) :=
  ite (fun _ => setSq h.offerSeq.startCloseTimer) fun _ => ite (fun _ => h.serveResult hm) fun _ => h.setSq

theorem sumSample {x : FeederTaken} (h : SeqLaws line states m s) (hm : states → ModeLive m) :
    SeqLaws line states m (sumSample f x s) :=
  ite (fun _ => h.abortTest hm) fun _ => ite (fun _ => ite (fun _ => h.abortTest hm) fun _ =>
    setSq h.offerSeq.startCloseTimer) fun _ => h.setSq

theorem testSample {x : FeederTaken} (h : SeqLaws line states m s) (hm : states → ModeLive m) :
    SeqLaws line states m (testSample f x s) := by
  refine ite (fun _ => h) fun _ => ?_
  split
  · exact h.liveSample hm
  · exact ite (fun _ => h.setSq) fun _ => h.setSq
  · exact h.sumSample hm
  all_goals exact h

theorem sequenceSample {x : FeederTaken} (h : SeqLaws line states m s) :
    SeqLaws line states m (sequenceSample f x s) := by
  unfold Machine.sequenceSample
  dsimp only
  cases hs : (s.sq f).state with
  | deadTime => exact h.thenIf fun ha => ha.coolingSample (h.live_of_state (f := f) (.inl hs))
  | testing => exact h.testSample (h.live_of_state (f := f) (.inr (.inl hs)))
  | out | opened | closing | closed | opening | tripping | lockout => exact h

/-! Intake -/

theorem setRectIntake {r : RectIntake} (h : SeqLaws line states m s) :
    SeqLaws line states m (s.setRectIntake r) := h.quiet

theorem setFrozen {i : Int} (h : SeqLaws line states m s) : SeqLaws line states m (setFrozen f i s) :=
  (submit h.setFeeder).flagAction

theorem detectFrozen {x : FeederTaken} (h : SeqLaws line states m s) :
    SeqLaws line states m (detectFrozen f x s) :=
  ite (fun _ => ite (fun _ => h.setFrozen) fun _ => h.setIntake) fun _ => h.setIntake

theorem clearFrozen {x : FeederTaken} (h : SeqLaws line states m s) :
    SeqLaws line states m (clearFrozen f x s) := by
  unfold Machine.clearFrozen
  dsimp only
  split
  · exact h.setIntake
  · exact ite (fun _ => h.setIntake) fun _ => ite (fun _ => submit h.setFeeder) fun _ => h.setIntake

theorem frozenSample {x : FeederTaken} (h : SeqLaws line states m s) :
    SeqLaws line states m (frozenSample f x s) := ite (fun _ => h.clearFrozen) fun _ => h.detectFrozen

theorem watchSample {seq : Byte} (h : SeqLaws line states m s) :
    SeqLaws line states m (watchSample f seq s) :=
  ite (fun _ => h) fun _ => ite (fun _ => submit (h.setIntake.of_one (f := f) rfl (fun _ => id)
    (fun e he => by rw [State.sq, State.setSq_feeder_ne _ _ he]; rfl)
    (by rw [State.setSq_sq_same]; exact (h.recs f).of_core rfl))) fun _ => h.setIntake

theorem recordAccepted {seq : Byte} {x : FeederTaken} (h : SeqLaws line states m s) :
    SeqLaws line states m (recordAccepted f seq x s) := h.setIntake

theorem offerForwarded {x : Frame} (h : SeqLaws line states m s) :
    SeqLaws line states m (offerForwarded p x s) := by rw [offerForwarded_eq]; exact h.setPort

theorem decimate {fr : RxFrame} (h : SeqLaws line states m s) : SeqLaws line states m (decimate f fr s) := by
  unfold Machine.decimate
  dsimp only
  split
  · exact h
  split
  · exact offerForwarded h.setFeeder
  · exact h.setFeeder

theorem fillCapture {gap : Nat} {e : Point} (h : SeqLaws line states m s) :
    SeqLaws line states m (fillCapture f gap e s) := by
  unfold Machine.fillCapture
  split
  · exact h
  · exact h.storePositions

theorem reject (h : SeqLaws line states m s) : SeqLaws line states m (reject p s) := h.setPort

theorem acceptFeeder {seq : Byte} {g : Nat} {x : FeederSample} {copy : Option RxFrame}
    (h : SeqLaws line states m s) : SeqLaws line states m (acceptFeeder f seq g x copy s) := by
  have hfill := (h.recordAccepted (f := f) (seq := seq) (x := handOn s f g x)).fillCapture (f := f)
    (gap := (handOn s f g x).gap) (e := ⟨(handOn s f g x).i, (handOn s f g x).u, (handOn s f g x).ub⟩)
  cases copy with
  | none => exact hfill.watchSample.protectionSample.frozenSample.sequenceSample
  | some fr => exact hfill.decimate.watchSample.protectionSample.frozenSample.sequenceSample

theorem takeFeeder {seq : Byte} {g : Nat} {x : FeederSample} {copy : Option RxFrame}
    (h : SeqLaws line states m s) : SeqLaws line states m (takeFeeder f seq g x copy s) :=
  ite (fun _ => ite (fun _ => h.setIntake) fun _ => submit h.setIntake) fun _ => h.acceptFeeder

theorem feederSample {fr : RxFrame} (h : SeqLaws line states m s) :
    SeqLaws line states m (feederSample f fr s) := by
  refine ite (fun _ => h.reject) fun _ => ?_
  split
  · exact h.reject
  · split
    · exact h.reject
    · exact h.takeFeeder

theorem takeRect {stamp : Stamp} {seq : Byte} {g : Nat} {x : RectSample} (h : SeqLaws line states m s) :
    SeqLaws line states m (takeRect stamp seq g x s) :=
  ite (fun _ => ite (fun _ => h.setRectIntake) fun _ => submit h.setRectIntake) fun _ =>
    rectSample h.setRectIntake

theorem rectFieldSample {stamp : Stamp} {fr : RxFrame} (h : SeqLaws line states m s) :
    SeqLaws line states m (rectFieldSample stamp fr s) := by
  refine ite (fun _ => h.reject) fun _ => ?_
  split
  · exact h.reject
  · split
    · exact h.reject
    · exact h.takeRect

theorem silenceExpired (h : SeqLaws line states m s) : SeqLaws line states m (silenceExpired s) :=
  ite (fun _ => h) fun _ => h.setRectIntake

end SeqLaws
end Sys2Proof.Machine
end

section
/-! PROOF. The two laws of the feeder records through the tie controller, the ports and the frame switch (R73, R76). -/

namespace Sys2Proof.Machine

set_option Elab.async false

namespace SeqLaws

variable {line states : Prop} {m : Mode} {s t : State} {f : FeederId} {k : Tie} {p : Port} {c : FieldCommand}

/-! The tie controller -/

theorem failEntryOn (h : SeqLaws line states m s) : SeqLaws line states m (failEntryOn k f s) := by
  unfold Machine.failEntryOn
  split
  · exact h.thenIf fun ha => ha.intertripFail
  · exact h

theorem downNotice (h : SeqLaws line states m s) : SeqLaws line states m (downNotice k f s) :=
  ite (fun hd => h.farEndDown (h.live_of_state (.inl hd.2.1))) fun _ => h

theorem tieGoesDown {why : Int} (h : SeqLaws line states m s) :
    SeqLaws line states m (tieGoesDown k why s) := by
  have hdown := (h.setTie (k := k) (r := (s.tie k).down)).submit (kind := .tieDown) (src := .tie k)
    (x := none) (v := some why) (w := none)
  exact forFeeders (ite (fun _ => hdown) fun _ => hdown.forFeeders fun _ _ ha => ha.failEntryOn)
    fun _ _ ha => ha.downNotice

theorem tieLost (h : SeqLaws line states m s) : SeqLaws line states m (tieLost k s) :=
  ite (fun _ => h.tieGoesDown) fun _ => h.setTie

theorem tieSilenceExpiry (h : SeqLaws line states m s) : SeqLaws line states m (tieSilenceExpiry k s) :=
  ite (fun _ => h) fun _ => ite (fun _ => h.tieGoesDown) fun _ => h.setTie

theorem beatGapExpiry (h : SeqLaws line states m s) : SeqLaws line states m (beatGapExpiry k s) :=
  ite (fun _ => h) fun _ => h.setTie

theorem beatSendExpiry (h : SeqLaws line states m s) : SeqLaws line states m (beatSendExpiry k s) :=
  ite (fun _ => h.setTie) fun _ => offerTie h.setTie

theorem countBeat (h : SeqLaws line states m s) : SeqLaws line states m (countBeat k s) := by
  unfold Machine.countBeat
  dsimp only
  split
  · exact h
  generalize (if (s.tie k).gapTimer.isSome then _ else _) = count
  exact ite (fun _ => submit h.setTie) fun _ => h.setTie

theorem recordFarMode {far : Mode} (h : SeqLaws line states m s) :
    SeqLaws line states m (recordFarMode k far s) :=
  ite (fun _ => h) fun _ => ite (fun _ => h.setTie) fun _ => submit h.setTie

theorem repeatExpiry (h : SeqLaws line states m s) : SeqLaws line states m (repeatExpiry f s) := by
  refine ite (fun _ => h) fun _ => ?_
  dsimp only
  split
  · exact h
  · exact ite (fun _ => offerTie h.setFeeder) fun _ => h.intertripFail

theorem entryAcked {e : Entry} {result : AckResult} (h : SeqLaws line states m s) :
    SeqLaws line states m (entryAcked f e result s) := submit h.setFeeder

theorem replayEntryExpiry (h : SeqLaws line states m s) : SeqLaws line states m (replayEntryExpiry f s) := by
  refine ite (fun _ => ?_) fun _ => h
  split
  · exact h.entryAcked
  · exact h

theorem serveAck {e : Entry} {result : AckResult} (h : SeqLaws line states m s) :
    SeqLaws line states m (serveAck f e result s) := by
  cases result with
  | tripped | alreadyOpen | outOfService => exact h.entryAcked
  | unknownSection | notInServiceMode => exact h.intertripFail

theorem receiveAck {sec tag : Byte} {result : AckResult} (h : SeqLaws line states m s) :
    SeqLaws line states m (receiveAck k sec tag result s) := by
  unfold Machine.receiveAck
  split
  · split
    · exact h.serveAck
    · exact h
  · exact h

theorem interDeadTime (h : SeqLaws line states m s) : SeqLaws line states m (interDeadTime f s) := by
  unfold Machine.interDeadTime
  dsimp only
  cases hp : (s.sq f).phase with
  | none => exact h.setSq (hr := by simp [FeederRec.core, hp])
  | some ph => cases ph with
    | timing | awaitingFarEnd | cooling | awaitingSupply =>
      exact h.setSq (hr := by simp [FeederRec.core, hp])

theorem interAction (h : SeqLaws line states m s) (hm : states → ModeLive m) :
    SeqLaws line states m (interAction f s) := by
  unfold Machine.interAction
  dsimp only
  cases (s.sq f).state with
  | closed | closing | opening | tripping => exact h.requestTrip
  | testing => exact ite (fun _ => h) fun _ => h.abortTest hm
  | deadTime => exact h.interDeadTime
  | opened | lockout | out => exact h

theorem answerTripReq {sec tag : Byte} {cause : InterCause} {result : AckResult}
    (h : SeqLaws line states m s) : SeqLaws line states m (answerTripReq k sec cause tag result s) :=
  h.submit.offerTie

theorem serveTripReq {sec tag : Byte} {cause : InterCause} (h : SeqLaws line states m s)
    (hm : states → ModeLive m) : SeqLaws line states m (serveTripReq k f sec cause tag s) :=
  answerTripReq (setFeeder (h.interAction hm))

theorem receiveTripReq {sec tag : Byte} {cause : InterCause} (h : SeqLaws line states m s) :
    SeqLaws line states m (receiveTripReq k sec cause tag s) := by
  refine ite (fun _ => h.answerTripReq) fun hs => ?_
  have hm : states → ModeLive m := fun _ => .inl (h.mode.symm.trans (not_not.mp hs))
  split
  · exact h.answerTripReq
  · split
    · exact h.offerTie
    · exact h.serveTripReq hm

theorem followerClear (h : SeqLaws line states m s) : SeqLaws line states m (followerClear f s) := by
  unfold Machine.followerClear
  dsimp only
  cases hp : (s.sq f).phase with
  | none => exact h
  | some ph => cases ph with
    | timing => exact h.setSq (hr := by simp [FeederRec.core, hp])
    | awaitingFarEnd =>
      exact testRequest (h.setSq (hr := by simp [FeederRec.core, hp])) (h.live_of_phase hp)
    | cooling | awaitingSupply => exact h

theorem receiveSection {hold : Bool} {sec : Byte} (h : SeqLaws line states m s) :
    SeqLaws line states m (receiveSection k hold sec s) := by
  unfold Machine.receiveSection
  dsimp only
  split
  · exact h.submit
  · exact ite (fun _ => ite (fun _ => h.submit.lockout) fun _ => h.submit.followerClear) fun _ => h.submit

theorem serveTieMsg {x : TieMsg} (h : SeqLaws line states m s) :
    SeqLaws line states m (serveTieMsg k x s) := by
  cases x with
  | beat => exact h.countBeat.recordFarMode
  | tripReq => exact h.receiveTripReq
  | tripAck => exact h.receiveAck
  | sectionClear | sectionHold => exact h.receiveSection

theorem restartSilence (h : SeqLaws line states m s) : SeqLaws line states m (restartSilence k s) :=
  ite (fun _ => h.setTie) fun _ => h

theorem tieFrame {payload : List Byte} (h : SeqLaws line states m s) :
    SeqLaws line states m (tieFrame k payload s) := by
  unfold Machine.tieFrame
  dsimp only
  split
  · exact h.restartSilence.serveTieMsg
  · exact h.restartSilence.reject

/-! Ports and the frame switch -/

theorem arbitrate (h : SeqLaws line states m s) : SeqLaws line states m (arbitrate p s) := h.setPort

theorem reportPort {new old : PortState} (h : SeqLaws line states m s) :
    SeqLaws line states m (reportPort p new old s) := h.submit

theorem portEntersLost {e : RxError} (h : SeqLaws line states m s) :
    SeqLaws line states m (portEntersLost p e s) := by
  have hlost := (h.setPort (p := p) (r := { s.port p with state := .lost, recoveryCount := 0 })).submit
    (kind := .portLost) (src := .port p) (x := none) (v := some e.code) (w := none)
  unfold Machine.portEntersLost
  dsimp only
  cases portTie p with
  | some _ => exact hlost.tieLost
  | none => exact hlost

theorem errorFrame {e : RxError} (h : SeqLaws line states m s) :
    SeqLaws line states m (errorFrame p e s) := by
  unfold Machine.errorFrame
  dsimp only
  cases (s.port p).state with
  | good => exact ite (fun _ => reportPort (setPort h.setPort)) fun _ => h.setPort
  | degraded => exact ite (fun _ => portEntersLost h.setPort) fun _ => h.setPort
  | lost => exact h.setPort

theorem recoverPort (h : SeqLaws line states m s) : SeqLaws line states m (recoverPort p s) :=
  arbitrate (reportPort h.setPort)

theorem lostGood (h : SeqLaws line states m s) : SeqLaws line states m (lostGood p s) :=
  (setPort h).thenIf fun ha => ha.recoverPort

theorem goodFrame (h : SeqLaws line states m s) : SeqLaws line states m (goodFrame p s) :=
  (setPort h).thenIf fun ha => reportPort ha.setPort

theorem answer {tk : Ticket} {type : RequestType} {status : Status} (h : SeqLaws line states m s) :
    SeqLaws line states m (answer tk type status s) := h.quiet

theorem manageFrame {source : ReqSource} {fr : RxFrame} (h : SeqLaws line states m s) :
    SeqLaws line states m (manageFrame source fr s) := ite (fun _ => h.quiet) fun _ => h.answer

theorem forwardOrReject {permitted : Bool} {fr : RxFrame} (h : SeqLaws line states m s) :
    SeqLaws line states m (forwardOrReject permitted fr s) :=
  ite (fun _ => h.offerForwarded) fun _ => h.reject

theorem consumeStatus {row : NodeRow} {payload : List Byte} (h : SeqLaws line states m s) :
    SeqLaws line states m (consumeStatus row payload s) := by
  have hhand : ∀ {α : Type} (x : Option α) (serve : α → State → State),
      (∀ v, SeqLaws line states m (serve v s)) → SeqLaws line states m (handStatus x serve s) := by
    intro α x serve hserve
    cases x with
    | some v => exact hserve v
    | none => exact h.reject
  unfold Machine.consumeStatus
  split
  · exact hhand _ _ fun _ => h.breakerStatus
  · exact hhand _ _ fun _ => h.acStatus
  · exact hhand _ _ fun _ => h.firingStatus
  · exact h

theorem switchStatus {row : NodeRow} {fr : RxFrame} (h : SeqLaws line states m s) :
    SeqLaws line states m (switchStatus row fr s) := by
  have hserved : SeqLaws line states m
      (if s.mode = .replay then s else Machine.consumeStatus row fr.payload s) :=
    ite (fun _ => h) fun _ => h.consumeStatus
  exact ite (fun _ => hserved.thenIf fun ha => ha.offerForwarded) fun _ => h.forwardOrReject

theorem switchSample {row : NodeRow} {stamp : Stamp} {fr : RxFrame} (h : SeqLaws line states m s) :
    SeqLaws line states m (switchSample row stamp fr s) := by
  unfold Machine.switchSample
  split
  · exact h.feederSample
  · exact h.rectFieldSample
  · exact h.reject

theorem switchField {stamp : Stamp} {fr : RxFrame} (h : SeqLaws line states m s) :
    SeqLaws line states m (switchField stamp fr s) := by
  refine ite (fun _ => h.reject) fun _ => ?_
  cases fr.kind with
  | sample => exact h.switchSample
  | status => exact h.switchStatus
  | manage => exact ite (fun _ => h.manageFrame) fun _ => h.reject
  | reply | report => exact h.forwardOrReject
  | command | tie => exact h.reject

theorem forwardDownFrame {permitted : Bool} {fr : RxFrame} (h : SeqLaws line states m s) :
    SeqLaws line states m (forwardDownFrame permitted fr s) :=
  ite (fun _ => h.offerForwarded) fun _ => h.reject

theorem switchStation {fr : RxFrame} (h : SeqLaws line states m s) :
    SeqLaws line states m (switchStation fr s) := by
  refine ite (fun _ => h.reject) fun _ => ?_
  cases fr.kind with
  | manage => exact ite (fun _ => h.manageFrame) fun _ => h.forwardDownFrame
  | command => exact ite (fun _ => h.reject) fun _ => h.forwardDownFrame
  | sample | status | reply | report | tie => exact h.reject

theorem switchTie {fr : RxFrame} (h : SeqLaws line states m s) :
    SeqLaws line states m (switchTie k fr s) := ite (fun _ => h.tieFrame) fun _ => h.reject

theorem receive {stamp : Stamp} {bytes : List Byte} (h : SeqLaws line states m s) :
    SeqLaws line states m (receive p stamp bytes s) := by
  refine ite (fun _ => h) fun _ => ?_
  split
  · exact h.errorFrame
  · refine ite (fun _ => h.lostGood) fun _ => ?_
    cases p with
    | fp => exact h.goodFrame.switchField
    | sp => exact h.goodFrame.switchStation
    | ta | tb => exact h.goodFrame.switchTie

theorem transmitDone (h : SeqLaws line states m s) : SeqLaws line states m (transmitDone p s) :=
  ite (fun _ => arbitrate h.setPort) fun _ => h

end SeqLaws
end Sys2Proof.Machine
end

section
/-! PROOF. The two laws of the feeder records through a change of mode: what the mode entered allows (R73, R76,
R97, R183). -/

namespace Sys2Proof.Machine

set_option Elab.async false

theorem FeederRec.Lawful.fresh {line states : Prop} {m : Mode} : FeederRec.fresh.Lawful line states m false :=
  ⟨fun _ => by simp [tripLevel, FeederRec.fresh], fun _ => .inr (.inl rfl), fun _ hp => absurd rfl hp,
    fun _ hl => by cases hl⟩

/-! The exit from REPLAY (R142, R183) -/

theorem endCapture_rect (f : FeederId) (s : State) : (endCapture f s).rect = s.rect := by
  unfold endCapture
  split
  · rfl
  · unfold storePositions
    dsimp only
    split
    · rfl
    · rw [submit_rect]; rfl

/-- A feeder that is no tester enters OUT for itself alone (R79). -/
theorem enterOut_of_untested {f : FeederId} {s : State} (ht : s.rect.testers.get f = false) :
    (enterOut f s).sq f = (s.sq f).enteredOut ∧ (∀ e, e ≠ f → (enterOut f s).sq e = s.sq e)
      ∧ (enterOut f s).rect.testers = s.rect.testers
      ∧ ∀ e, (enterOut f s).rect.latched.get e = true → s.rect.latched.get e = true := by
  have hleft : (if (s.sq f).state = .testing then leaveTesting f s else s) = s := by
    simp [leaveTesting, ht]
  have hrecs : ∀ {a b : State}, a.feeders = b.feeders → ∀ e, a.sq e = b.sq e := fun h e => by
    rw [State.sq, State.feeder, h]; rfl
  unfold enterOut
  dsimp only
  rw [hleft]
  have hlatched : ∀ e, (if (s.sq f).pendingTest then withdrawLatched f s else s).rect.latched.get e = true →
      s.rect.latched.get e = true := fun e => by
    split
    · by_cases he : e = f
      · subst he; simp [withdrawLatched]
      · rw [withdrawLatched, State.setRect_rect, PerFeeder.get_set_ne _ _ he]; exact id
    · exact id
  have htesters : (if (s.sq f).pendingTest then withdrawLatched f s else s).rect.testers = s.rect.testers := by
    split <;> rfl
  have hsq : ∀ e, (if (s.sq f).pendingTest then withdrawLatched f s else s).sq e = s.sq e := fun e => by
    split <;> rfl
  generalize (if (s.sq f).pendingTest then withdrawLatched f s else s) = a at hlatched htesters hsq
  refine ⟨?_, fun e he => ?_, ?_, fun e he => hlatched e ?_⟩
  · rw [hrecs (endCapture_feeders ..)]
    simp [hsq]
  · rw [hrecs (endCapture_feeders ..), State.sq, State.setIntake_feeder_ne _ _ he,
      disarmIfLeft_feeder_ne _ _ _ he, State.setSq_feeder_ne _ _ he]
    exact hsq e
  · rw [endCapture_rect]; simp [htesters]
  · rw [endCapture_rect] at he
    simpa using he

/-- The feeders that leave REPLAY, nothing latched and no test served: those in `done` are OUT. -/
structure LeavingReplay (done : FeederId → Prop) (s : State) : Prop where
  mode : s.mode = .config
  latched : ∀ e, s.rect.latched.get e = false
  testers : ∀ e, s.rect.testers.get e = false
  out : ∀ e, done e → ∃ r : FeederRec, s.sq e = r.enteredOut

theorem LeavingReplay.enterOut {done : FeederId → Prop} {s : State} {f : FeederId}
    (h : LeavingReplay done s) : LeavingReplay (fun e => done e ∨ e = f) (enterOut f s) := by
  obtain ⟨hself, hothers, htesters, hlatched⟩ := enterOut_of_untested (h.testers f)
  refine ⟨(mode_of_fixed (enterOut_fixed f s)).trans h.mode, fun e => ?_, fun e => ?_, fun e he => ?_⟩
  · exact Bool.eq_false_iff.mpr fun hl => by simpa [h.latched e] using hlatched e hl
  · rw [htesters]; exact h.testers e
  · by_cases hf : e = f
    · subst hf; exact ⟨_, hself⟩
    · obtain ⟨r, hr⟩ := h.out e (he.resolve_right hf)
      exact ⟨r, (hothers e hf).trans hr⟩

namespace SeqLaws

variable {line states : Prop} {m new : Mode} {s t : State} {f : FeederId} {p : Port}

theorem exitReplay (hm : s.mode = .config) : SeqLaws line states .config (exitReplay s) := by
  have hstart : LeavingReplay (fun _ => False) { s with rect := s.rect.exitReplay } :=
    ⟨hm, fun e => by cases e <;> rfl, fun e => by cases e <;> rfl, fun _ => False.elim⟩
  have hmono : ∀ {d d' : FeederId → Prop} {a}, LeavingReplay d a → (∀ e, d' e → d e) → LeavingReplay d' a :=
    fun ha hd => ⟨ha.mode, ha.latched, ha.testers, fun e he => ha.out e (hd e he)⟩
  have hout : LeavingReplay (fun _ => True)
      (Machine.forFeeders Machine.enterOut { s with rect := s.rect.exitReplay }) := by
    have hturn : ∀ f, LeavingReplay (· = f)
        (Machine.forFeeders Machine.enterOut { s with rect := s.rect.exitReplay }) := fun f =>
      forFeeders_turn (Pre := LeavingReplay fun _ => False) (fun e _ a ha => hmono ha.enterOut fun _ => .inl)
        (fun a ha => hmono ha.enterOut fun _ => .inr) (fun e _ a ha => hmono ha.enterOut fun _ => .inl) hstart
    exact ⟨(hturn .f1).mode, (hturn .f1).latched, (hturn .f1).testers, fun e _ => (hturn e).out e rfl⟩
  unfold Machine.exitReplay
  dsimp only
  generalize Machine.forFeeders Machine.enterOut { s with rect := s.rect.exitReplay } = a at hout
  obtain ⟨hmode, hlatched, -, hrecs⟩ := hout
  refine ⟨hmode, fun e => ?_⟩
  obtain ⟨r, hr⟩ := hrecs e trivial
  have hlawful := FeederRec.Lawful.enteredOut (line := line) (states := states) (m := .config) (l := false)
    (r := r) fun _ => rfl
  rw [← hr] at hlawful
  refine hlawful.of_core ?_ fun hl => (hlatched e).symm.trans hl
  rw [State.sq, State.feeder, PerFeeder.get_map]
  rfl

/-! Changes of mode -/

/-- The state that a change of mode hands to the blocks: the mode reported, the protection units disarmed
(R183). -/
def modeReported (new : Mode) (s : State) : State :=
  let s1 := Machine.submit .modeChange .device none (some (modeCode new)) (some (modeCode s.mode))
    { s with mode := new }
  { s1 with feeders := s1.feeders.map FeederUnit.modeChanged }

theorem changeMode_eq : Machine.changeMode new s = transitionEffects s.mode new (modeReported new s) := rfl

theorem modeReported_mode : (modeReported new s).mode = new := by simp [modeReported]

theorem modeReported_rect : (modeReported new s).rect = s.rect := by simp [modeReported]

theorem modeReported_core (e : FeederId) : ((modeReported new s).sq e).core = (s.sq e).core := by
  rw [State.sq, State.feeder]; simp only [modeReported, PerFeeder.get_map, submit_feeders]; rfl

/-- A change of mode that the states of the feeders bear (R182). -/
theorem changed (h : SeqLaws line states m s) (hm : t.mode = new)
    (hl : ∀ e, t.rect.latched.get e = true → s.rect.latched.get e = true)
    (hs : ∀ e, (t.sq e).core = (s.sq e).core)
    (hline : (new = .replay ↔ m = .replay) ∨ ∀ e, (s.sq e).state = .out)
    (hcalm : states → ModeLive new ∨ ∀ e, (s.sq e).Calm new) : SeqLaws line states new t where
  mode := hm
  recs e := by
    have hr := (h.recs e).of_core (hs e) (hl e)
    have hcore := hs e
    simp only [FeederRec.core, Prod.mk.injEq] at hcore
    obtain ⟨hstate, -, hprimary, -⟩ := hcore
    refine ⟨fun ha => (hr.line ha).trans (Bool.eq_iff_iff.mpr ?_), fun hb => (hcalm hb).imp id fun hc => ?_, hr.phase,
      hr.latched⟩
    · rw [tripLevel_eq_true, tripLevel_eq_true]
      obtain hn | hout := hline
      · rw [Ne, Ne, hn]
      · simp [hstate, hout e]
    · unfold FeederRec.Calm; rw [hstate, hprimary]; exact hc e

theorem mirrorOnEntry (h : SeqLaws line states m s) (hm : m = .shadow) :
    SeqLaws line states m (mirrorOnEntry f s) :=
  h.thenIf fun ha => (ha.enterClosedComplete fun _ => .inr hm).reportFeederState

theorem mirrorGroupOnEntry (h : SeqLaws line states m s) :
    SeqLaws line states m (mirrorGroupOnEntry s) := by
  refine ite (fun _ => h) fun _ => ?_
  dsimp only
  split
  · exact ite (fun _ => h.setRect) fun _ => rectMove h.setRect
  all_goals exact ite (fun _ => h.setRect) fun _ => rectMove (quiet h.setRect)

theorem enterShadow (h : SeqLaws line states m s) (hm : m = .shadow) :
    SeqLaws line states m (enterShadow s) :=
  (h.forFeeders fun _ _ ha => ha.mirrorOnEntry hm).mirrorGroupOnEntry

theorem shadowToService (h : SeqLaws line states m s) : SeqLaws line states m (shadowToService s) :=
  (h.thenIf fun ha => ha.enterStarting.beginCrossingWait).forFeeders fun _ _ ha =>
    ha.thenIf fun hb => closedFlags hb.setSq

theorem shadowToConfig (h : SeqLaws line states m s) : SeqLaws line states m (shadowToConfig s) :=
  h.thenIf fun ha => ha.rectMove

theorem enterReplay (h : SeqLaws line states m s) : SeqLaws line states m (enterReplay s) :=
  h.beside rfl (fun e he => by cases e <;> cases he) fun e => by
    rw [State.sq, State.feeder]; simp only [Machine.enterReplay, PerFeeder.get_map]; rfl

theorem serveEstopIf (h : SeqLaws line states m s) :
    SeqLaws line states m (if s.estop then Machine.serveEstop s else s) := h.thenIf fun ha => ha.serveEstop

/-- A change of mode in the table of R182. -/
theorem changeMode (h : SeqLaws line states m s) (ha : transitionAllowed s new = some true) :
    SeqLaws line states new (changeMode new s) := by
  have hmode := h.mode
  have hchanged : ∀ {old}, s.mode = old → (new = .replay ↔ old = .replay) ∨ (∀ e, (s.sq e).state = .out) →
      (states → ModeLive new ∨ ∀ e, (s.sq e).Calm new) → SeqLaws line states new (modeReported new s) :=
    fun {old} ho hline hcalm => h.changed modeReported_mode (fun e he => by rwa [modeReported_rect] at he)
      modeReported_core (hline.imp (by rw [← hmode, ho]; exact id) id) hcalm
  rw [changeMode_eq]
  unfold transitionAllowed at ha
  cases hs : s.mode <;> cases new <;> simp only [hs, reduceCtorEq, Option.some.injEq] at ha
  case config.service =>
    exact hchanged hs (.inl (by simp)) fun _ => .inl (.inl rfl)
  case config.shadow =>
    refine (hchanged hs (.inl (by simp)) fun hb => .inr fun e => ?_).enterShadow rfl
    have hcalm := (h.recs e).calm hb
    simp only [ModeLive, FeederRec.Calm, ← hmode, hs, reduceCtorEq, and_false, or_false, false_or] at hcalm
    exact hcalm.imp id (.imp id (.imp id .inl))
  case config.replay =>
    simp only [Bool.and_eq_true, allFeeders_iff, beq_iff_eq] at ha
    exact (hchanged hs (.inr ha.1) fun _ => .inl (.inr rfl)).enterReplay
  case service.config =>
    simp only [Bool.and_eq_true, allFeeders_iff] at ha
    refine hchanged hs (.inl (by simp)) fun _ => .inr fun e => ?_
    have hrest := ha.1 e
    simp only [FeederRec.restsForConfig, Bool.or_eq_true, Bool.and_eq_true, beq_iff_eq] at hrest
    unfold FeederRec.Calm
    tauto
  case shadow.service =>
    exact (hchanged hs (.inl (by simp)) fun _ => .inl (.inl rfl)).shadowToService.serveEstopIf
  case shadow.config =>
    simp only [allFeeders_iff, bne_iff_ne, ne_eq] at ha
    refine (hchanged hs (.inl (by simp)) fun hb => .inr fun e => ?_).shadowToConfig.serveEstopIf
    have hcalm := (h.recs e).calm hb
    simp only [ModeLive, FeederRec.Calm, ← hmode, hs, ha e, reduceCtorEq, false_and, or_false, false_or] at hcalm
    exact hcalm.imp id (.imp id (.imp id .inl))
  case replay.config =>
    have hexit : SeqLaws line states .config (Machine.exitReplay (modeReported .config s)) :=
      exitReplay modeReported_mode
    exact hexit.serveEstopIf

end SeqLaws
end Sys2Proof.Machine
end

section
/-! PROOF. The two laws of the feeder records through resets, requests and reports (R73, R76). -/

namespace Sys2Proof.Machine

set_option Elab.async false

namespace SeqLaws

variable {line states : Prop} {m new : Mode} {s t : State} {f : FeederId} {k : Tie} {p : Port} {x : Ticket}
  {n row : Nat}

/-! Resets, lines and the simulated plant -/

/-- Every feeder's unit replaced by one of the same record, no mode and no latched test changed. -/
theorem mapFeeders {g : FeederUnit → FeederUnit} (h : SeqLaws line states m s) (hm : t.mode = s.mode := by rfl)
    (hl : ∀ e, t.rect.latched.get e = true → s.rect.latched.get e = true := by exact fun _ => id)
    (hf : t.feeders = s.feeders.map g := by rfl) (hg : ∀ u, (g u).sq.core = u.sq.core := by exact fun _ => rfl) :
    SeqLaws line states m t :=
  h.beside hm hl fun e => by
    rw [State.sq, State.feeder, hf, PerFeeder.get_map]
    exact hg _

/-- Records as after cold reset are lawful in every mode (R99). -/
theorem of_fresh (hm : s.mode = m) (hr : ∀ e, s.sq e = FeederRec.fresh)
    (hl : ∀ e, s.rect.latched.get e = false) : SeqLaws line states m s :=
  ⟨hm, fun e => by rw [hr e, hl e]; exact .fresh⟩

theorem warmRestart (h : SeqLaws line states m s) : SeqLaws line states m (warmRestart s) := by
  refine submit (of_fresh h.mode (fun e => ?_) fun e => by cases e <;> rfl)
  rw [State.sq, State.feeder]
  simp only [PerFeeder.get_map]
  rfl

theorem coldReset : SeqLaws line states .config (coldReset s) :=
  of_fresh rfl (fun e => by cases e <;> rfl) fun e => by cases e <;> rfl

theorem releaseReset {rest : RestState} {node : BitVec 6} (h : SeqLaws line states m s) :
    SeqLaws line states m (releaseReset rest node s) := h.thenIf fun ha => submit ha.quiet

theorem settleKey {pos : KeyPos} (h : SeqLaws line states m s) : SeqLaws line states m (settleKey pos s) :=
  ite (fun _ => h) fun _ => h.quiet

theorem changeKey {pos : KeyPos} (h : SeqLaws line states m s) : SeqLaws line states m (changeKey pos s) :=
  ite (fun _ => ite (fun _ => h) fun _ => submit h.quiet) fun _ => h.settleKey

theorem assertEstop (h : SeqLaws line states m s) : SeqLaws line states m (assertEstop s) :=
  ite (fun _ => h) fun _ => submit (serveEstop (quiet h))

theorem releaseEstop (h : SeqLaws line states m s) : SeqLaws line states m (releaseEstop s) :=
  h.thenIf fun ha => submit ha.quiet

theorem simComplete {d : SimDeviceId} (h : SeqLaws line states m s) :
    SeqLaws line states m (simComplete d s) := by
  cases d with
  | breaker f | contactor f =>
    unfold Machine.simComplete
    dsimp only
    split
    · exact breakerStatus (setFeeder h)
    · exact h
  | acBreaker =>
    unfold Machine.simComplete
    dsimp only
    split
    · exact acStatus h.quiet
    · exact h

/-! Requests -/

theorem takeRequest {r : Request} (h : SeqLaws line states m s) :
    SeqLaws line states m (takeRequest x r s) := by
  unfold Machine.takeRequest
  split
  · exact h.thenIf fun ha => ha.quiet
  · exact h

theorem checked {type : RequestType} {checks : List (Bool × Status)} {effect : State → State}
    (h : SeqLaws line states m s)
    (he : firstRefusal checks = none → SeqLaws line states m (effect s)) :
    SeqLaws line states m (checked x type checks effect s) := by
  unfold Machine.checked
  split
  · exact h.answer
  next hc => exact (he hc).answer

/-- No check fails where every one of them passes (R175). -/
theorem firstRefusal_eq_none {checks : List (Bool × Status)} :
    firstRefusal checks = none ↔ ∀ c ∈ checks, c.1 = false := by
  induction checks with
  | nil => simp [firstRefusal]
  | cons c rest ih => cases hc : c.1 <;> simp [firstRefusal, hc, ih]

theorem feederCommand {checks : FeederId → List (Bool × Status)} {effect : FeederId → State → State}
    (h : SeqLaws line states m s)
    (he : ∀ f, firstRefusal (checks f) = none → SeqLaws line states m (effect f s)) :
    SeqLaws line states m (feederCommand x n checks effect s) := by
  unfold Machine.feederCommand
  split
  · exact h.checked (he _)
  · exact h.answer

/-- A reply in parts reaches no record (R181). -/
theorem answerBody {type : RequestType} {body : ReplyBody} (h : SeqLaws line states m s) :
    SeqLaws line states m (answerBody x type body s) := List.foldlRecOn _ _ h fun _ ha _ _ => ha.quiet

theorem serveReadNode (h : SeqLaws line states m s) : SeqLaws line states m (serveReadNode x row s) :=
  ite (fun _ => h.answerBody) fun _ => h.answer

theorem serveReadFeederRow (h : SeqLaws line states m s) :
    SeqLaws line states m (serveReadFeederRow x row s) := by
  unfold Machine.serveReadFeederRow
  split
  · exact h.answerBody
  · exact h.answer

theorem serveReadSection (h : SeqLaws line states m s) :
    SeqLaws line states m (serveReadSection x row s) := by
  unfold Machine.serveReadSection
  split
  · exact h.answerBody
  · exact h.answer

theorem serveReadPortRow (h : SeqLaws line states m s) :
    SeqLaws line states m (serveReadPortRow x row s) := by
  unfold Machine.serveReadPortRow
  split
  · exact h.answerBody
  · exact h.answer

theorem serveReadFeeder (h : SeqLaws line states m s) : SeqLaws line states m (serveReadFeeder x n s) := by
  unfold Machine.serveReadFeeder
  split
  · exact h.answerBody
  · exact h.answer

theorem serveReadPort {q : Option Port} (h : SeqLaws line states m s) :
    SeqLaws line states m (serveReadPort x q s) := by
  cases q with
  | none => exact h.answer
  | some _ => exact h.answerBody

theorem serveReadTie {q : Option Tie} (h : SeqLaws line states m s) :
    SeqLaws line states m (serveReadTie x q s) := by
  cases q with
  | none => exact h.answer
  | some _ => exact h.answerBody

theorem serveReadRectRow (h : SeqLaws line states m s) : SeqLaws line states m (serveReadRectRow x row s) :=
  ite (fun _ => h.answerBody) fun _ => h.answer

theorem serveReadReport (h : SeqLaws line states m s) : SeqLaws line states m (serveReadReport x row s) :=
  ite (fun _ => h.answerBody) fun _ => h.answer

theorem serveReadRect (h : SeqLaws line states m s) : SeqLaws line states m (serveReadRect x s) :=
  h.answerBody

theorem serveReadDevice (h : SeqLaws line states m s) : SeqLaws line states m (serveReadDevice x s) :=
  h.answerBody

theorem bindingChanged {b : Role × FeederId} (h : SeqLaws line states m s) :
    SeqLaws line states m (bindingChanged b s) := ite (fun _ => h.setFeeder) fun _ => h.setFeeder

theorem writeNode {w : NodeRow} (h : SeqLaws line states m s) : SeqLaws line states m (writeNode row w s) := by
  have hbound : SeqLaws line states m ((changedBindings (s.nodeRow (BitVec.ofNat 8 row)) w).foldl
      (fun st b => Machine.bindingChanged b st)
      { s with nodes := s.nodes.setIfInBounds row (storedRow w) }) :=
    List.foldlRecOn _ _ h.quiet fun _ ha _ _ => ha.bindingChanged
  exact ((hbound.thenIf fun ha => ha.setRectIntake).thenIf fun ha => ha.setRect).thenIf fun ha => ha.setRect

theorem serveWriteNode {w : RowWrite NodeRow} (h : SeqLaws line states m s) :
    SeqLaws line states m (serveWriteNode x row w s) := h.checked fun _ => h.writeNode

theorem serveWriteFeeder {w : RowWrite FeederRow} (h : SeqLaws line states m s) :
    SeqLaws line states m (serveWriteFeeder x row w s) := by
  unfold Machine.serveWriteFeeder
  split
  · exact h.checked fun _ => h.setFeeder
  · exact h.checked fun _ => h

theorem serveWriteRect {w : RowWrite RectRow} (h : SeqLaws line states m s) :
    SeqLaws line states m (serveWriteRect x row w s) := h.checked fun _ => h.quiet

theorem serveWriteSection {w : RowWrite SectionRow} (h : SeqLaws line states m s) :
    SeqLaws line states m (serveWriteSection x row w s) := by
  unfold Machine.serveWriteSection
  split
  · exact h.checked fun _ => h.setFeeder
  · exact h.checked fun _ => h

theorem serveWritePort {w : RowWrite Recovery} (h : SeqLaws line states m s) :
    SeqLaws line states m (serveWritePort x row w s) := by
  unfold Machine.serveWritePort
  split
  · exact h.checked fun _ => (setPort h).thenIf fun ha => ha.recoverPort
  · exact h.checked fun _ => h

theorem serveWriteReport {w : RowWrite ReportRow} (h : SeqLaws line states m s) :
    SeqLaws line states m (serveWriteReport x row w s) := h.checked fun _ => h.quiet

/-- A feeder put in service goes to OPEN or, in SERVICE and REPLAY, to CLOSED (R78). -/
theorem serveInService (h : SeqLaws line states m s) (hs : (s.sq f).state = .out)
    (hm : (s.sq f).breaker = .closed → states → ModeLive m) : SeqLaws line states m (serveInService f s) := by
  have hcleared : SeqLaws line states m (s.setSq f (s.sq f).clearedForService) :=
    h.setLawful ⟨(h.recs f).line, (h.recs f).calm, (h.recs f).phase, fun hb hl => by
      obtain ⟨-, hdead⟩ := (h.recs f).latched hb hl
      rw [hs] at hdead; cases hdead⟩
  have hstart : SeqLaws line states m (startBlindTimer f (s.setSq f (s.sq f).clearedForService)) :=
    hcleared.setIntake
  have hbreaker : ((startBlindTimer f (s.setSq f (s.sq f).clearedForService)).sq f).breaker = (s.sq f).breaker := by
    simp [startBlindTimer, FeederRec.clearedForService]
  refine ite (fun hc => ?_) fun _ => hstart.enterOpened.reportFeederState
  exact (hstart.enterClosedComplete fun hb => .inl (hm (hbreaker ▸ hc) hb)).reportFeederState.closedFlags

theorem modeLive_of_ne (hs : m ≠ .shadow) (hc : m ≠ .config) : ModeLive m := by
  cases m <;> simp_all [ModeLive]

theorem requestInService (h : SeqLaws line states m s) : SeqLaws line states m (requestInService x n s) := by
  refine h.feederCommand fun f hc => ?_
  simp only [firstRefusal_eq_none, notShadow, inServiceOk, List.mem_cons, List.not_mem_nil, or_false,
    forall_eq_or_imp, forall_eq, Bool.not_eq_false', Bool.and_eq_true, Bool.not_eq_true', h.mode,
    beq_eq_false_iff_ne, beq_iff_eq, Bool.and_eq_false_iff] at hc
  obtain ⟨-, hshadow, ⟨⟨⟨⟨⟨hout, -⟩, -⟩, -⟩, -⟩, hconfig⟩⟩ := hc
  exact h.serveInService hout fun hclosed _ =>
    modeLive_of_ne hshadow (hconfig.resolve_right (not_not.mpr hclosed))

theorem requestOutOfService (h : SeqLaws line states m s) :
    SeqLaws line states m (requestOutOfService x n s) :=
  h.feederCommand fun _ _ => h.enterOut.reportFeederState

theorem requestClose (h : SeqLaws line states m s) : SeqLaws line states m (requestClose x n s) := by
  refine h.feederCommand fun f hc => h.manualRequest fun _ => ?_
  simp only [firstRefusal_eq_none, notShadow, List.mem_cons, List.not_mem_nil, or_false, forall_eq_or_imp,
    forall_eq, h.mode, beq_eq_false_iff_ne] at hc
  obtain ⟨-, hshadow, hconfig, -⟩ := hc
  exact modeLive_of_ne hshadow hconfig

theorem openRunning (h : SeqLaws line states m s) (hm : states → ModeLive m) :
    SeqLaws line states m (openRunning f s) :=
  reportFeederState (setSq (h.offerSeq.enterState fun hb => .inl (hm hb)))

theorem openTesting (h : SeqLaws line states m s) : SeqLaws line states m (openTesting f s) :=
  ite (fun _ => (enterOpened (setSq h.abortForGood)).reportFeederState) fun _ =>
    startCloseTimer (setSq h.abortForGood)

theorem serveOpen (h : SeqLaws line states m s) : SeqLaws line states m (serveOpen f s) := by
  refine ite (fun _ => h.thenIf fun ha => ha.offerField) fun hshadow => ?_
  dsimp only
  cases hs : (s.sq f).state with
  | closed =>
    refine h.openRunning (h.live (f := f) ?_)
    simpa [FeederRec.Calm, hs] using h.mode ▸ hshadow
  | closing => exact h.openRunning (h.live_of_state (f := f) (by simp [hs]))
  | deadTime => exact (enterOpened (h.setSq (hr := by simp [FeederRec.core, hs]))).reportFeederState
  | testing => exact ite (fun _ => h) fun _ => h.openTesting
  | out | opened | opening | tripping | lockout => exact h

theorem requestOpen (h : SeqLaws line states m s) : SeqLaws line states m (requestOpen x n s) :=
  h.feederCommand fun _ _ => h.serveOpen

theorem requestResetLockout (h : SeqLaws line states m s) :
    SeqLaws line states m (requestResetLockout x n s) :=
  h.feederCommand fun _ _ => (enterOpened h.setFeeder).reportFeederState

theorem requestRun (h : SeqLaws line states m s) : SeqLaws line states m (requestRun x s) :=
  h.checked fun _ => h.serveRun

theorem requestRest (h : SeqLaws line states m s) : SeqLaws line states m (requestRest x s) :=
  h.checked fun _ => h.serveRest

theorem requestReset (h : SeqLaws line states m s) : SeqLaws line states m (requestReset x s) :=
  h.checked fun _ => h.serveReset

/-- SET_MODE leaves the laws of the mode it changes to (R182). -/
theorem requestMode {new : Option Mode} (h : SeqLaws line states m s) :
    ∃ m', SeqLaws line states m' (requestMode x new s) := by
  cases new with
  | none => exact ⟨m, h.checked fun _ => h⟩
  | some new =>
    unfold Machine.requestMode
    dsimp only
    split
    · exact ⟨m, h.checked fun _ => h⟩
    unfold Machine.checked
    split
    · exact ⟨m, h.answer⟩
    next hc =>
      simp only [firstRefusal_eq_none, List.mem_cons, List.not_mem_nil, or_false, forall_eq_or_imp, forall_eq,
        Option.isNone_eq_false_iff, Option.isSome_iff_exists, beq_eq_false_iff_ne] at hc
      obtain ⟨-, ⟨ok, hok⟩, hallowed⟩ := hc
      refine ⟨new, (h.changeMode ?_).answer⟩
      cases ok with
      | true => exact hok
      | false => exact absurd hok hallowed

theorem setTime {v : Stamp} (h : SeqLaws line states m s) : SeqLaws line states m (setTime v s) :=
  ite (fun _ => h.quiet) fun _ => h.quiet

theorem requestTime (h : SeqLaws line states m s) : SeqLaws line states m (requestTime x n s) :=
  h.checked fun _ => h.setTime

theorem requestRecover {q : Option Port} (h : SeqLaws line states m s) :
    SeqLaws line states m (requestRecover x q s) := by
  cases q with
  | none => exact h.checked fun _ => h
  | some _ => exact h.checked fun _ => h.recoverPort

theorem requestRestart (h : SeqLaws line states m s) : SeqLaws line states m (requestRestart x s) :=
  h.checked fun _ => h.warmRestart

theorem requestCapture (h : SeqLaws line states m s) : SeqLaws line states m (requestCapture x n s) := by
  unfold Machine.requestCapture
  split
  · exact h.answer
  · exact h.answer
  · unfold Machine.answerTrigger
    split
    · exact h.trigger.quiet
    · exact h.trigger.quiet
    · exact h.trigger.answer

theorem requestCaptureRead {slot seg : Nat} (h : SeqLaws line states m s) :
    SeqLaws line states m (requestCaptureRead x slot seg s) := by
  unfold Machine.requestCaptureRead
  split
  · exact h.answer
  · exact h.answer
  · dsimp only
    split
    · exact h.answer
    · exact h.answer
    · exact List.foldlRecOn _ _ h fun _ ha _ _ => ha.quiet

theorem requestCaptureRelease {slot : Nat} (h : SeqLaws line states m s) :
    SeqLaws line states m (requestCaptureRelease x slot s) := by
  unfold Machine.requestCaptureRelease
  split
  · exact h.checked fun _ => h
  · exact h.checked fun _ => h.quiet

/-- Whatever an INJECT payload stands for, taking it keeps the laws (R50, R185). -/
theorem injection {node : Nat} {payload : List Byte} (h : SeqLaws line states m s) :
    SeqLaws line states m ((injection s node payload).getD id s) := by
  unfold Machine.injection
  split
  · exact h
  dsimp only
  split
  · cases readFeederSample payload with
    | none => exact h
    | some _ => exact h.takeFeeder
  · cases readRectSample payload with
    | none => exact h
    | some _ => exact h.takeRect
  · exact h

theorem requestInject {payload : List Byte} (h : SeqLaws line states m s) :
    SeqLaws line states m (requestInject x n payload s) := h.checked fun _ => h.injection

theorem requestBad {why : BadRequest} (h : SeqLaws line states m s) :
    SeqLaws line states m (requestBad x why s) := by
  cases why with
  | unknownRectAction => exact h.checked fun _ => h
  | malformed | unknownReadTable | unknownWriteTable | unknownRecord | unknownFeederAction => exact h.answer

/-! Reports and time -/

theorem buildReport (h : SeqLaws line states m s) : SeqLaws line states m (buildReport s) := by
  have hdropped : SeqLaws line states m { s with reports := s.reports.drop (nextBatch s).length } := h.quiet
  refine h.thenIf fun _ => arbitrate (setPort ?_)
  exact ite (fun _ => hdropped.setPort) fun _ => ite (fun _ => hdropped.setPort) fun _ => hdropped.quiet

theorem reachBatchTimeout (h : SeqLaws line states m s) : SeqLaws line states m (reachBatchTimeout s) := by
  unfold Machine.reachBatchTimeout
  split
  · exact h.quiet
  · exact h

theorem tick (h : SeqLaws line states m s) : SeqLaws line states m (tick s) := h.mapFeeders

end SeqLaws
end Sys2Proof.Machine
end

section
/-! PROOF. Every command keeps the two laws of the feeder records, and so does every step (R73, R76). -/

namespace Sys2Proof.Machine

set_option Elab.async false

/-- The two laws of the feeder records, whatever the mode. -/
def SeqLawful (line states : Prop) (s : State) : Prop := SeqLaws line states s.mode s

namespace SeqLaws

variable {line states : Prop} {m : Mode} {s t : State} {x : Ticket}

theorem lawful (h : SeqLaws line states m s) : SeqLawful line states s := by
  rw [SeqLawful, h.mode]; exact h

theorem of_outOfReset {g : State → State} (h : SeqLaws line states m s)
    (hg : SeqLaws line states m s → SeqLaws line states m (g s)) (hn : outOfReset g s = .next t) :
    SeqLawful line states t := by
  cases hn
  exact (ite (fun _ => h) fun _ => hg h).lawful

theorem of_taking {r : Request} {serve : State → State} (h : SeqLaws line states m s)
    (hserve : ∀ {a}, SeqLaws line states m a → SeqLaws line states m (serve a))
    (hn : taking x r serve s = .next t) : SeqLawful line states t :=
  h.of_outOfReset (g := fun a => serve (Machine.takeRequest x r a)) (fun ha => hserve ha.takeRequest) hn

/-- SET_MODE is the one command that changes the mode of a part at work. -/
theorem of_setMode {new : Option Mode} (h : SeqLaws line states m s)
    (hn : taking x (.setMode new) (Machine.requestMode x new) s = .next t) : SeqLawful line states t := by
  cases hn
  dsimp only
  split
  · exact h.lawful
  · obtain ⟨m', hm⟩ := (h.takeRequest (x := x) (r := .setMode new)).requestMode (x := x) (new := new)
    exact hm.lawful

/-- A received frame, whatever row it comes from (log entry 1). -/
theorem of_receive {p : Port} {stamp : Stamp} {bytes : List Byte} (h : SeqLaws line states m s)
    (hn : Host.Outcome.next (Machine.receive p stamp bytes s) =
      (.next t : Host.Outcome State Fault Refusal)) : SeqLawful line states t := by
  cases hn
  exact h.receive.lawful

theorem exec {i : Instr} (h : SeqLaws line states m s) (hn : exec i s = .next t) :
    SeqLawful line states t := by
  cases i with
  | errorFrameReceived p bytes => exact h.of_receive hn
  | lostPortGoodFrame p bytes => exact h.of_receive hn
  | frameRejected p bytes => exact h.of_receive hn
  | forwardUp bytes => exact h.of_receive hn
  | forwardDown bytes => exact h.of_receive hn
  | manageReceived p bytes => exact h.of_receive hn
  | feederSampleReceived bytes => exact h.of_receive hn
  | rectSampleReceived stamp bytes => exact h.of_receive hn
  | breakerStatusReceived bytes => exact h.of_receive hn
  | acBreakerStatusReceived bytes => exact h.of_receive hn
  | firingStatusReceived bytes => exact h.of_receive hn
  | beatReceived k bytes => exact h.of_receive hn
  | tieFrameMalformed k bytes => exact h.of_receive hn
  | tripReqReceived k bytes => exact h.of_receive hn
  | tripAckReceived k bytes => exact h.of_receive hn
  | sectionClearReceived k bytes => exact h.of_receive hn
  | sectionHoldReceived k bytes => exact h.of_receive hn
  | transmitEnd p => exact h.of_outOfReset transmitDone hn
  | blind f => exact h.of_outOfReset blindExpired hn
  | rectSilenceExpired => exact h.of_outOfReset silenceExpired hn
  | openTimerExpired f => exact h.of_outOfReset openExpired hn
  | closeTimerExpired f => exact h.of_outOfReset closeExpired hn
  | sotfTimerExpired f => exact h.of_outOfReset sotfExpired hn
  | reclaimExpired f => exact h.of_outOfReset reclaimExpired hn
  | deadTimeExpired f => exact h.of_outOfReset deadTimeExpired hn
  | actingMaster f => exact h.of_outOfReset followExpired hn
  | acTimerExpired => exact h.of_outOfReset acTimerExpired hn
  | crossingWatchExpired => exact h.of_outOfReset watchExpired hn
  | beatSend k => exact h.of_outOfReset beatSendExpiry hn
  | beatGapExpired k => exact h.of_outOfReset beatGapExpiry hn
  | tieSilenceExpired k => exact h.of_outOfReset tieSilenceExpiry hn
  | repeatTimerExpired f => exact h.of_outOfReset repeatExpiry hn
  | replayIntertripTimeout f => exact h.of_outOfReset replayEntryExpiry hn
  | repeatWindowExpired f => exact h.of_outOfReset setFeeder hn
  | reportBuild => exact h.of_outOfReset buildReport hn
  | batchTimeout => exact h.of_outOfReset reachBatchTimeout hn
  | simOperationComplete d => exact h.of_outOfReset simComplete hn
  | readRowNode x row => exact h.of_taking serveReadNode hn
  | readRowFeeder x row => exact h.of_taking serveReadFeederRow hn
  | readRowRect x row => exact h.of_taking serveReadRectRow hn
  | readRowSection x row => exact h.of_taking serveReadSection hn
  | readRowPort x row => exact h.of_taking serveReadPortRow hn
  | readRowReport x row => exact h.of_taking serveReadReport hn
  | readRecordFeeder x n => exact h.of_taking serveReadFeeder hn
  | readRecordRect x => exact h.of_taking serveReadRect hn
  | readRecordPort x q => exact h.of_taking serveReadPort hn
  | readRecordTie x q => exact h.of_taking serveReadTie hn
  | readRecordDevice x => exact h.of_taking serveReadDevice hn
  | writeRowNode x row w => exact h.of_taking serveWriteNode hn
  | writeRowFeeder x row w => exact h.of_taking serveWriteFeeder hn
  | writeRowRect x row w => exact h.of_taking serveWriteRect hn
  | writeRowSection x row w => exact h.of_taking serveWriteSection hn
  | writeRowPort x row w => exact h.of_taking serveWritePort hn
  | writeRowReport x row w => exact h.of_taking serveWriteReport hn
  | inService x n => exact h.of_taking requestInService hn
  | outOfService x n => exact h.of_taking requestOutOfService hn
  | closeFeeder x n => exact h.of_taking requestClose hn
  | openFeeder x n => exact h.of_taking requestOpen hn
  | resetLockout x n => exact h.of_taking requestResetLockout hn
  | rectRun x => exact h.of_taking requestRun hn
  | rectRest x => exact h.of_taking requestRest hn
  | rectReset x => exact h.of_taking requestReset hn
  | setMode x new => exact h.of_setMode hn
  | setTime x n => exact h.of_taking requestTime hn
  | captureStart x n => exact h.of_taking requestCapture hn
  | captureRead x slot seg => exact h.of_taking requestCaptureRead hn
  | captureRelease x slot => exact h.of_taking requestCaptureRelease hn
  | inject x node payload => exact h.of_taking requestInject hn
  | portRecover x q => exact h.of_taking requestRecover hn
  | restart x => exact h.of_taking requestRestart hn
  | badRequest x why => exact h.of_taking requestBad hn
  | keyChange pos => exact h.of_outOfReset changeKey hn
  | estopAsserted => exact h.of_outOfReset assertEstop hn
  | estopReleased => exact h.of_outOfReset releaseEstop hn
  | coldReset => cases hn; exact (coldReset (s := s)).lawful
  | resetRelease rest node => cases hn; exact h.releaseReset.lawful
  | keyFirstSettling pos => exact h.of_outOfReset settleKey hn

theorem step (h : SeqLaws line states m s) (hn : step s = .next t) : SeqLawful line states t := by
  unfold Machine.step at hn
  split at hn
  next c rest _ => exact exec (s := { s with pending := rest }) h.quiet hn
  next =>
    unfold idle at hn
    split at hn
    · cases hn; exact h.lawful
    split at hn
    · exact h.exec hn
    · cases hn; exact h.tick.lawful

end SeqLaws

/-- Settles O9: every operation that changes a feeder's state drives its trip line, the others leave it, and
the output is the line. -/
theorem stepKeepsTripLineLaw : Obligations.StepKeepsTripLineLaw := fun _ _ h hn =>
  ⟨seqLaws_of_line.mpr ((seqLaws_of_line.mp h).step hn), fun _ => rfl⟩

/-- Settles O11: a line test, a dead time or a closing begins in SERVICE and REPLAY alone, and a change of mode
asks that none runs. -/
theorem stepKeepsModeStates : Obligations.StepKeepsModeStates := fun _ _ h hn =>
  seqLaws_of_states.mpr ((seqLaws_of_states.mp h).step hn)

end Sys2Proof.Machine
end

section
/-! PROOF. What the services of one feeder leave of the others: a feeder with no latched test is not reached,
and one that waits for its latched test goes on waiting, or its test starts (R106, R132). -/

namespace Sys2Proof.Machine

set_option Elab.async false

/-- A feeder in DEAD_TIME or in TESTING, with a latched test in DEAD_TIME alone (R100, R106). -/
def WaitsOrTests (g : FeederId) (s : State) : Prop :=
  (s.rect.latched.get g = true → (s.sq g).pendingTest = true ∧ (s.sq g).state = .deadTime)
    ∧ ((s.sq g).state = .deadTime ∨ (s.sq g).state = .testing)

/-- What a service leaves of the feeders in `P`, and the links of the ties as they are. -/
structure OthersKept (P : FeederId → Prop) (s t : State) : Prop where
  kept : ∀ g, P g → s.rect.latched.get g = false →
    t.rect.latched.get g = false ∧ t.feeder g = s.feeder g
      ∧ t.rect.testers.get g = s.rect.testers.get g
  waits : ∀ g, P g → WaitsOrTests g s → WaitsOrTests g t
  up : ∀ k : Tie, (t.tie k).up = (s.tie k).up

namespace OthersKept

variable {P : FeederId → Prop} {s t u : State} {f : FeederId} {k : Tie} {c : FieldCommand}

/-! Chains -/

theorem refl : OthersKept P s s := ⟨fun _ _ hl => ⟨hl, rfl, rfl⟩, fun _ _ => id, fun _ => rfl⟩

theorem trans (h : OthersKept P s t) (h' : OthersKept P t u) : OthersKept P s u where
  kept g hg hl := by
    obtain ⟨hl1, hf1, ht1⟩ := h.kept g hg hl
    obtain ⟨hl2, hf2, ht2⟩ := h'.kept g hg hl1
    exact ⟨hl2, hf2.trans hf1, ht2.trans ht1⟩
  waits g hg := h'.waits g hg ∘ h.waits g hg
  up k := (h'.up k).trans (h.up k)

theorem ite {cond : Prop} {dec : Decidable cond} (ht : OthersKept P s t) (hu : OthersKept P s u) :
    OthersKept P s (if cond then t else u) := by split <;> assumption

theorem thenIf {cond : Prop} {dec : Decidable cond} (h : OthersKept P s t) (h' : OthersKept P t u) :
    OthersKept P s (if cond then u else t) := ite (h.trans h') h

theorem thenUnless {cond : Prop} {dec : Decidable cond} (h : OthersKept P s t) (h' : OthersKept P t u) :
    OthersKept P s (if cond then t else u) := ite h (h.trans h')

/-- A change that leaves the units, the latched tests and the testers of `P`. -/
theorem still (h : OthersKept P s t) (hf : ∀ g, P g → u.feeder g = t.feeder g)
    (hl : ∀ g, P g → u.rect.latched.get g = t.rect.latched.get g := by exact fun _ _ => rfl)
    (ht : ∀ g, P g → u.rect.testers.get g = t.rect.testers.get g := by exact fun _ _ => rfl)
    (hup : ∀ k : Tie, (u.tie k).up = (t.tie k).up := by exact fun _ => rfl) : OthersKept P s u :=
  h.trans
    { kept := fun g hg hlatched => ⟨(hl g hg).trans hlatched, hf g hg, ht g hg⟩
      waits := fun g hg => by unfold WaitsOrTests State.sq; rw [hf g hg, hl g hg]; exact id
      up := hup }

/-- A change that reaches no unit and no set of the group. -/
theorem quiet (h : OthersKept P s t) (hf : u.feeders = t.feeders := by rfl)
    (hl : u.rect.latched = t.rect.latched := by rfl) (ht : u.rect.testers = t.rect.testers := by rfl)
    (hup : ∀ k : Tie, (u.tie k).up = (t.tie k).up := by exact fun _ => rfl) : OthersKept P s u :=
  h.still (fun _ _ => by rw [State.feeder, hf]; rfl) (fun _ _ => by rw [hl]) (fun _ _ => by rw [ht]) hup

theorem setFeeder {r : FeederUnit} (h : OthersKept P s t) (hp : ¬ P f) :
    OthersKept P s (t.setFeeder f r) :=
  h.still fun g hg => State.setFeeder_feeder_ne _ _ fun he => hp (he ▸ hg)

theorem setSq {r : FeederRec} (h : OthersKept P s t) (hp : ¬ P f) : OthersKept P s (t.setSq f r) :=
  h.setFeeder hp

theorem setRect {r : RectRec} (h : OthersKept P s t) (hl : r.latched = t.rect.latched := by rfl)
    (ht : r.testers = t.rect.testers := by rfl) : OthersKept P s (t.setRect r) := h.quiet rfl hl ht

theorem submit {kind : ReportKind} {src : Source} {x : Option Cause} {v w : Option Int}
    (h : OthersKept P s t) : OthersKept P s (submit kind src x v w t) :=
  h.quiet (submit_feeders ..) (by rw [submit_rect]) (by rw [submit_rect]) fun _ => by rw [submit_tie]

theorem offerField (h : OthersKept P s t) (hc : ∀ g, P g → c.feeder? ≠ some g) :
    OthersKept P s (offerField c t) :=
  h.still (fun g hg => offerField_feeder_ne (hc g hg) _) (fun _ _ => by rw [offerField_rect])
    (fun _ _ => by rw [offerField_rect]) fun _ => by rw [State.tie, offerField_ties]; rfl

theorem offerContactor {close : Bool} (h : OthersKept P s t) (hp : ¬ P f) :
    OthersKept P s (offerSeq (.testContactor f close) t) :=
  h.thenUnless (refl.offerField fun _ hg he => hp (Option.some.inj he ▸ hg))

theorem offerBreaker {b : BreakerCmd} (h : OthersKept P s t) (hp : ¬ P f) :
    OthersKept P s (offerSeq (.breaker f b) t) :=
  h.thenUnless (refl.offerField fun _ hg he => hp (Option.some.inj he ▸ hg))

theorem offerGroup {force : Bool} (h : OthersKept P s t) (hc : c.feeder? = none) :
    OthersKept P s (offerRect force c t) :=
  h.thenUnless (refl.offerField fun _ _ he => by simp [hc] at he)

theorem offerTie {m : TieMsg} (h : OthersKept P s t) : OthersKept P s (offerTie k m t) := by
  rw [offerTie_eq]; exact h.quiet

theorem trigger {kind : TriggerKind} (h : OthersKept P s t) : OthersKept P s (trigger f kind t) := by
  unfold Machine.trigger
  split
  · exact h
  · exact h.quiet
  · exact h.submit

/-! The group -/

theorem offerBlocked {force : Bool} (h : OthersKept P s t) : OthersKept P s (offerBlocked force t) :=
  (h.quiet (u := { t with freeCount := t.freeCount + 1 })).offerGroup rfl

theorem rectMove {new : RectState} {cause : RectCause} (h : OthersKept P s t) :
    OthersKept P s (rectMove new cause t) := by
  obtain ⟨hl, ht⟩ := RectRec.entered_sets new cause t.rect
  exact ((h.setRect hl ht).thenIf refl.offerBlocked).submit

theorem park {cause : RectCause} (h : OthersKept P s t) : OthersKept P s (park cause t) :=
  (h.rectMove.offerGroup rfl).setRect

theorem enterRest {target : RestState} {cause : RectCause} (h : OthersKept P s t) :
    OthersKept P s (enterRest target cause t) := by
  cases target
  · exact h.rectMove
  · exact h.park

/-! Line tests and dead time -/

theorem enterCore {new : FeederState} {cause : Option LockoutCause} (h : OthersKept P s t) (hp : ¬ P f) :
    OthersKept P s (enterCore f new cause t) := by
  have hne : ∀ g, P g → g ≠ f := fun g hg he => hp (he ▸ hg)
  refine h.still (fun g hg => enterCore_feeder_ne _ _ _ (hne g hg)) (fun g hg => ?_) (fun g hg => ?_) fun k => ?_
  · rw [enterCore_rect]
    split
    · exact PerFeeder.get_set_ne _ _ (hne g hg)
    · rfl
  · rw [enterCore_rect]
    split <;> rfl
  · unfold Machine.enterCore disarmIfLeft Machine.withdrawLatched
    dsimp only
    split <;> split <;> rfl

theorem enterPhase {ph : Phase} {timer : Timer} (h : OthersKept P s t) (hp : ¬ P f) :
    OthersKept P s (enterPhase f ph timer t) :=
  ((h.thenUnless (refl.enterCore hp)).setSq hp).thenUnless refl.submit

theorem recordResult {x : LastResult} (h : OthersKept P s t) (hp : ¬ P f) :
    OthersKept P s (recordResult f x t) := (h.setSq hp).submit

theorem abortEffects {reason : AbortReason} {uAvg ubAvg : Option Nat} (h : OthersKept P s t) (hp : ¬ P f) :
    OthersKept P s (abortEffects f reason uAvg ubAvg t) :=
  ((h.setSq hp).thenIf (refl.offerContactor hp)).recordResult hp

theorem giveShotBack (h : OthersKept P s t) (hp : ¬ P f) : OthersKept P s (giveShotBack f t) :=
  ite (h.setSq hp) h

theorem returnAfterFlag (h : OthersKept P s t) (hp : ¬ P f) : OthersKept P s (returnAfterFlag f t) := by
  unfold Machine.returnAfterFlag
  dsimp only
  split
  · exact (h.giveShotBack hp).enterPhase hp
  split
  · exact h.enterPhase hp
  · exact h.enterPhase hp
  · exact h.enterPhase hp

theorem enterTesting {kind : TestKind} {origin : Option TestOrigin} (h : OthersKept P s t) (hp : ¬ P f) :
    OthersKept P s (enterTesting f kind origin t) := ((h.enterCore hp).setSq hp).submit

theorem beginContactorCheck (h : OthersKept P s t) (hp : ¬ P f) :
    OthersKept P s (beginContactorCheck f t) := ite (h.setSq hp) ((h.offerContactor hp).setSq hp)

theorem setTester {b : Bool} (h : OthersKept P s t) (hp : ¬ P f) :
    OthersKept P s (t.setRect { t.rect with testers := t.rect.testers.set f b }) :=
  h.still (fun _ _ => rfl) (fun _ _ => rfl) fun _ hg => PerFeeder.get_set_ne _ _ fun he => hp (he ▸ hg)

theorem withdrawLatched (h : OthersKept P s t) (hp : ¬ P f) : OthersKept P s (withdrawLatched f t) :=
  h.still (fun _ _ => rfl) (fun g hg => PerFeeder.get_set_ne _ _ fun he => hp (he ▸ hg))

/-- The start of a feeder's own latched test, for the others. -/
theorem startLatched_others (h : OthersKept P s t) (hp : ¬ P f) : OthersKept P s (startLatched f t) := by
  have hset := ((((h.withdrawLatched hp).setTester (b := true) hp).setSq
    (r := { t.sq f with pendingTest := false }) hp).enterTesting (kind := .auto)
      (origin := (t.sq f).test.origin) hp)
  exact ite (ite (((hset.abortEffects hp).setTester (b := false) hp).returnAfterFlag hp)
    (hset.beginContactorCheck hp)) h

theorem enterPhase_rect (f : FeederId) (ph : Phase) (timer : Timer) (s : State) :
    (Machine.enterPhase f ph timer s).rect = s.rect := by
  unfold Machine.enterPhase
  dsimp only
  have hcore : ∀ r, ((if (s.sq f).state = .deadTime then s else Machine.enterCore f .deadTime none s).setSq f r).rect
      = s.rect := fun r => by
    rw [State.setSq_rect]
    split
    · rfl
    · rw [enterCore_rect]; simp
  split
  · exact hcore _
  · rw [submit_rect]; exact hcore _

theorem returnAfterFlag_rect (f : FeederId) (s : State) : (Machine.returnAfterFlag f s).rect = s.rect := by
  unfold Machine.returnAfterFlag
  dsimp only
  split
  · exact (enterPhase_rect ..).trans (giveShotBack_rect ..)
  split <;> exact enterPhase_rect ..

theorem returnAfterFlag_state (f : FeederId) (s : State) :
    ((Machine.returnAfterFlag f s).sq f).state = .deadTime := by
  unfold Machine.returnAfterFlag
  dsimp only
  split
  · exact (enterPhase_sq ..).1
  split <;> exact (enterPhase_sq ..).1

theorem beginContactorCheck_rect (f : FeederId) (s : State) :
    (Machine.beginContactorCheck f s).rect = s.rect := by
  unfold Machine.beginContactorCheck
  dsimp only
  split
  · rfl
  · simp [Machine.startCloseTimer]

theorem beginContactorCheck_state (f : FeederId) (s : State) :
    ((Machine.beginContactorCheck f s).sq f).state = (s.sq f).state := by
  unfold Machine.beginContactorCheck
  dsimp only
  split
  · simp
  · simp [Machine.startCloseTimer, offerSeq_sq]

/-- A latched test that starts leaves its feeder in TESTING, or in DEAD_TIME after an abort (R107, R132). -/
theorem startLatched_waits (hl : s.rect.latched.get f = true) :
    (startLatched f s).rect.latched.get f = false
      ∧ (((startLatched f s).sq f).state = .deadTime ∨ ((startLatched f s).sq f).state = .testing) := by
  unfold Machine.startLatched
  rw [if_pos hl]
  dsimp only
  have hrect : (Machine.enterTesting f .auto (s.sq f).test.origin ((Machine.addTester f
      (Machine.withdrawLatched f s)).setSq f { s.sq f with pendingTest := false })).rect.latched.get f = false := by
    rw [Machine.enterTesting, reportFeederState, submit_rect, State.setSq_rect, enterCore_rect_of_no_test (by simp)]
    simp [Machine.addTester, Machine.withdrawLatched]
  have hstate : ((Machine.enterTesting f .auto (s.sq f).test.origin ((Machine.addTester f
      (Machine.withdrawLatched f s)).setSq f { s.sq f with pendingTest := false })).sq f).state = .testing := by
    simp [Machine.enterTesting, reportFeederState, enterCore_sq]
  generalize Machine.enterTesting f .auto _ _ = a at hrect hstate
  split
  · refine ⟨?_, .inl (returnAfterFlag_state ..)⟩
    rw [returnAfterFlag_rect]
    simpa [Machine.dropTester] using hrect
  · exact ⟨by rwa [beginContactorCheck_rect], .inr (by rwa [beginContactorCheck_state])⟩

theorem startLatched (h : OthersKept P s t) : OthersKept P s (startLatched f t) := by
  cases hl : t.rect.latched.get f with
  | false => rw [Machine.startLatched, if_neg (by simp [hl])]; exact h
  | true =>
    have hothers : OthersKept (· ≠ f) t (Machine.startLatched f t) := refl.startLatched_others fun he => he rfl
    refine h.trans ⟨fun g _ hg => hothers.kept g (fun he => ?_) hg, fun g _ hw => ?_, hothers.up⟩
    · rw [he, hl] at hg; cases hg
    · by_cases he : g = f
      · subst he
        obtain ⟨hl', hstate⟩ := startLatched_waits hl
        exact ⟨fun hlatched => by simp [hl'] at hlatched, hstate⟩
      · exact hothers.waits g he hw

theorem startAllLatched (h : OthersKept P s t) : OthersKept P s (startAllLatched t) :=
  forFeeders_induct (P := OthersKept P s) (fun _ _ ha => ha.startLatched) h

theorem enterRunning (h : OthersKept P s t) : OthersKept P s (enterRunning t) := h.rectMove.startAllLatched

theorem probeEnd (h : OthersKept P s t) : OthersKept P s (probeEnd t) := ite h.enterRunning h.enterRest

theorem leaveTesting (h : OthersKept P s t) (hp : ¬ P f) : OthersKept P s (leaveTesting f t) :=
  h.thenIf ((refl.setTester hp).thenIf refl.probeEnd)

theorem enterState {new : FeederState} {cause : Option LockoutCause} (h : OthersKept P s t) (hp : ¬ P f) :
    OthersKept P s (enterState f new cause t) := (h.thenIf (refl.leaveTesting hp)).enterCore hp

theorem sendSection {hold : Bool} (h : OthersKept P s t) : OthersKept P s (sendSection f hold t) := by
  unfold Machine.sendSection
  split
  · exact h
  · exact ite h h.offerTie

theorem lockout {cause : LockoutCause} {offered : Bool} (h : OthersKept P s t) (hp : ¬ P f) :
    OthersKept P s (lockout f cause offered t) :=
  ((((h.thenIf (refl.offerContactor hp)).enterState hp).setSq hp).submit).thenIf refl.sendSection

theorem abortForGood {reason : AbortReason} (h : OthersKept P s t) (hp : ¬ P f) :
    OthersKept P s (abortForGood f reason t) := ((h.abortEffects hp).leaveTesting hp).giveShotBack hp

/-! Tripping -/

theorem intertripFail {cause : InterCause} {sec : Nat} {why : InterFail} (h : OthersKept P s t) (hp : ¬ P f) :
    OthersKept P s (intertripFail f cause sec why t) := by
  have hfailed := (h.setFeeder (r := { t.feeder f with entry := none }) hp).submit (kind := .intertripFailed)
    (src := .feeder f) (x := some cause.cause) (v := some sec) (w := some why.code)
  unfold Machine.intertripFail intertripFailNotice
  dsimp only
  split
  · exact hfailed.setSq hp
  · exact hfailed.lockout hp
  · exact ite (hfailed.lockout hp) ((hfailed.abortForGood hp).lockout hp)
  all_goals exact hfailed

theorem intertripRequest {cause : InterCause} (h : OthersKept P s t) (hp : ¬ P f) :
    OthersKept P s (intertripRequest f cause t) := by
  unfold Machine.intertripRequest
  split
  · exact h
  next k _ =>
    have hsent := h.quiet (u := Machine.advanceTag k t) (hup := fun l => by
      by_cases hl : l = k
      · subst hl; simp [advanceTag]
      · rw [advanceTag, State.setTie_tie_ne _ _ hl])
    exact ite (hsent.setFeeder hp).submit (ite ((hsent.setFeeder hp).offerTie).submit
      (ite (h.intertripFail hp) (hsent.offerTie.submit.intertripFail hp)))

theorem startTrip {req : TripRequest} (h : OthersKept P s t) (hp : ¬ P f) :
    OthersKept P s (startTrip f req t) := by
  have htripped := ((((h.enterState (new := .tripping) (cause := none) hp).offerBreaker (b := .trip) hp).setSq
    (r := ((offerSeq (.breaker f .trip) (Machine.enterState f .tripping none t)).sq f).tripped req
      (t.sq f).sotf.isSome (ms (t.feeder f).row.brk.tOpenMax)) hp).submit (kind := .trip) (src := .feeder f)
      (x := some req.primary.cause) (v := req.i) (w := req.value2)).thenIf
      (cond := (t.feeder f).row.brk.capture = true) (dec := inferInstance) (refl.trigger (f := f) (kind := .trip))
  unfold Machine.startTrip
  dsimp only
  split
  · exact htripped.intertripRequest hp
  · exact htripped

theorem requestTrip {req : TripRequest} (h : OthersKept P s t) (hp : ¬ P f) :
    OthersKept P s (requestTrip f req t) := by
  refine ite h ?_
  dsimp only
  split
  · exact h.startTrip hp
  · exact h.startTrip hp
  · exact h.startTrip hp
  · exact h.setSq hp
  all_goals exact h

theorem estopFeeder (h : OthersKept P s t) (hp : ¬ P f) : OthersKept P s (estopFeeder f t) := by
  unfold Machine.estopFeeder
  dsimp only
  split
  · exact h.requestTrip hp
  · exact h.requestTrip hp
  · exact h.requestTrip hp
  · exact h.requestTrip hp
  · exact h.lockout hp
  · exact ite (h.lockout hp) ((h.abortForGood hp).lockout hp)
  all_goals exact h

end OthersKept
end Sys2Proof.Machine
end

section
/-! PROOF. Lockouts, and the close, switch-onto-fault and reclaim timers (R81, R86, R89, R90, R107, R109,
R111). -/

namespace Sys2Proof.Machine

set_option Elab.async false

section

variable {f : FeederId} {s t : State} {cause : LockoutCause} {offered : Bool}

theorem outOfReset_eq {g : State → State} (h : s.inReset = false) : outOfReset g s = .next (g s) := by
  simp [outOfReset, h]

/-! Leaving TESTING -/

/-- A feeder with no latched test is a tester no more when its test has ended (R107, R132). -/
theorem leaveTesting_testers (h : s.rect.latched.get f = false) :
    (leaveTesting f s).rect.testers.get f = false := by
  unfold leaveTesting
  split
  · have hdrop : (dropTester f s).rect.testers.get f = false := by simp [dropTester]
    dsimp only
    split
    · have hend : OthersKept (fun _ => True) (dropTester f s) (probeEnd (dropTester f s)) := OthersKept.refl.probeEnd
      exact (hend.kept f trivial h).2.2.trans hdrop
    · exact hdrop
  · next ht => simpa using ht

/-- A change of state leaves no latched test of a feeder that had none. -/
theorem enterCore_unlatched {new : FeederState} {c : Option LockoutCause} (h : s.rect.latched.get f = false) :
    (enterCore f new c s).rect.latched.get f = false :=
  Bool.eq_false_iff.mpr fun hl => by simpa [h] using (SeqLaws.enterCore_latched hl).1

theorem enterCore_testers (f g : FeederId) (new : FeederState) (c : Option LockoutCause) (s : State) :
    (enterCore f new c s).rect.testers.get g = s.rect.testers.get g := by
  rw [enterCore_rect]; split <;> rfl

/-! Lockouts -/

/-- TEST_OPEN offered, and TESTING left: what a lockout does before it is entered (R86). -/
def lockoutLeft (f : FeederId) (offered : Bool) (s : State) : State :=
  let s1 :=
    if (s.sq f).state = .testing ∧ (s.sq f).contactor ≠ .opened ∧ offered = false then
      offerSeq (.testContactor f false) s
    else s
  if (s1.sq f).state = .testing then leaveTesting f s1 else s1

/-- A lockout entered and reported, without its section message (R86). -/
def lockedOut (f : FeederId) (cause : LockoutCause) (s : State) : State :=
  let s1 := enterCore f .lockout (some cause) s
  submit .lockout (.feeder f) (some cause.cause) (some (s1.sq f).shotCount) none
    (s1.setSq f (s1.sq f).stopTimers)

theorem lockout_eq (f : FeederId) (cause : LockoutCause) (offered : Bool) (s : State) :
    lockout f cause offered s =
      if cause.holds then sendSection f true (lockedOut f cause (lockoutLeft f offered s))
      else lockedOut f cause (lockoutLeft f offered s) := by
  have hleft : ∀ a : State, enterState f .lockout (some cause) a =
      enterCore f .lockout (some cause) (if (a.sq f).state = .testing then leaveTesting f a else a) := fun a => by
    simp [enterState]
  unfold lockout
  dsimp only
  rw [hleft]
  simp only [State.setSq_sq_same]
  rfl

/-- A section message reaches a port alone (R156). -/
theorem sendSection_beside (f : FeederId) (hold : Bool) (s : State) :
    (sendSection f hold s).feeders = s.feeders ∧ (sendSection f hold s).rect = s.rect
      ∧ (sendSection f hold s).reports = s.reports := by
  unfold sendSection
  split
  · exact ⟨rfl, rfl, rfl⟩
  · split
    · exact ⟨rfl, rfl, rfl⟩
    · rw [offerTie_eq]; exact ⟨rfl, rfl, rfl⟩

theorem sq_of_feeders (h : t.feeders = s.feeders) (g : FeederId) : t.sq g = s.sq g := by
  rw [State.sq, State.feeder, h]; rfl

/-- The record and the group after a lockout, by what it enters the lockout from (R86). -/
theorem lockout_beside (f : FeederId) (cause : LockoutCause) (offered : Bool) (s : State) :
    (lockout f cause offered s).feeders = (lockedOut f cause (lockoutLeft f offered s)).feeders
      ∧ (lockout f cause offered s).rect = (lockedOut f cause (lockoutLeft f offered s)).rect
      ∧ (lockout f cause offered s).reports = (lockedOut f cause (lockoutLeft f offered s)).reports := by
  rw [lockout_eq]
  split
  · exact sendSection_beside ..
  · exact ⟨rfl, rfl, rfl⟩

theorem lockedOut_sq (f : FeederId) (cause : LockoutCause) (s : State) :
    (lockedOut f cause s).sq f = ((s.sq f).entered s.mode .lockout (some cause)).stopTimers := by
  simp [lockedOut, enterCore_sq]

theorem lockoutLeft_of_not_testing (h : (s.sq f).state ≠ .testing) : lockoutLeft f offered s = s := by
  simp [lockoutLeft, h]

theorem lockoutLeft_fixed (f : FeederId) (offered : Bool) (s : State) :
    (lockoutLeft f offered s).fixed = s.fixed := by
  unfold lockoutLeft
  dsimp only
  split <;> split <;> simp

/-- The record of a feeder locked out: every timer of it stopped (R86). -/
theorem lockout_sq (f : FeederId) (cause : LockoutCause) (offered : Bool) (s : State) :
    (lockout f cause offered s).sq f =
      (((lockoutLeft f offered s).sq f).entered s.mode .lockout (some cause)).stopTimers := by
  rw [sq_of_feeders (lockout_beside ..).1, lockedOut_sq, mode_of_fixed (lockoutLeft_fixed ..)]

/-- Without a latched test a lockout is entered from the feeder's own record, the tester set left (R86, R107,
R132). -/
theorem lockoutLeft_sq (h : s.rect.latched.get f = false) :
    (lockoutLeft f offered s).sq f = s.sq f ∧ (lockoutLeft f offered s).rect.latched.get f = false
      ∧ ((s.sq f).state = .testing → (lockoutLeft f offered s).rect.testers.get f = false) := by
  by_cases hs : (s.sq f).state = .testing
  · have hoffered : ∀ a : State, a.rect = s.rect → a.sq f = s.sq f →
        (if (a.sq f).state = .testing then leaveTesting f a else a).sq f = s.sq f
          ∧ (if (a.sq f).state = .testing then leaveTesting f a else a).rect.latched.get f = false
          ∧ ((s.sq f).state = .testing →
              (if (a.sq f).state = .testing then leaveTesting f a else a).rect.testers.get f = false) := by
      intro a hrect hsq
      have hl : a.rect.latched.get f = false := hrect ▸ h
      rw [hsq, if_pos hs]
      obtain ⟨hlatched, hleft⟩ := leaveTesting_sq hl
      exact ⟨hleft.trans hsq, hlatched, fun _ => leaveTesting_testers hl⟩
    unfold lockoutLeft
    dsimp only
    refine hoffered _ ?_ ?_
    · split
      · exact offerSeq_rect ..
      · rfl
    · split
      · exact offerSeq_sq ..
      · rfl
  · rw [lockoutLeft_of_not_testing hs]
    exact ⟨rfl, h, fun hs' => absurd hs' hs⟩

theorem lockout_acts (f : FeederId) (cause : LockoutCause) (offered : Bool) (s : State) :
    UnitActs (lockoutLeft f offered s) (lockout f cause offered s) := by
  rw [lockout_eq]
  exact (UnitActs.refl.enterCore.setSq.submit).thenIf UnitActs.refl.sendSection

/-- A feeder locked out from TESTING with its contactor not OPEN has TEST_OPEN standing (R86). -/
theorem lockout_commanded (hs : (s.sq f).state = .testing) (hc : (s.sq f).contactor ≠ .opened)
    (hm : s.mode = .service) (hnode : (findNode s .breaker (some f)).isSome = true)
    (hroom : (s.port .fp).urgent.length < 24) : Commanded (lockout f cause false s) (.testContactor f false) := by
  have hoffered : Commanded (offerSeq (.testContactor f false) s) (.testContactor f false) := by
    rw [offerSeq, if_neg (by simp [hm])]
    exact offerField_commanded (by simp [hm]) hnode hroom
  have hleft : Commanded (lockoutLeft f false s) (.testContactor f false) := by
    unfold lockoutLeft
    dsimp only
    rw [if_pos (show (s.sq f).state = .testing ∧ (s.sq f).contactor ≠ .opened ∧ false = false from ⟨hs, hc, rfl⟩)]
    exact hoffered.acts (UnitActs.refl.thenIf UnitActs.refl.leaveTesting)
  exact hleft.acts (lockout_acts ..)

/-- A lockout from another state than TESTING reaches no other feeder, and reports its cause (R86). -/
theorem lockout_of_not_testing (hs : (s.sq f).state ≠ .testing) :
    (∀ e, e ≠ f → (lockout f cause offered s).feeder e = s.feeder e)
      ∧ (s.reports.length < 64 → Reported (lockout f cause offered s) .lockout (.feeder f) (some cause.cause)
          (some (s.sq f).shotCount) none)
      ∧ (cause.holds = false → (lockout f cause offered s).ports = s.ports) := by
  obtain ⟨hfeeders, -, hreports⟩ := lockout_beside f cause offered s
  rw [lockoutLeft_of_not_testing hs] at hfeeders hreports
  refine ⟨fun e he => ?_, fun h => ?_, fun h => ?_⟩
  · rw [State.feeder, hfeeders]
    simp only [lockedOut, submit_feeders]
    exact (State.setSq_feeder_ne _ _ he).trans (enterCore_feeder_ne _ _ _ he)
  · have hlocked := reported_submit .lockout (.feeder f) (some cause.cause)
      (some ((enterCore f .lockout (some cause) s).sq f).shotCount) none
      (s := (enterCore f .lockout (some cause) s).setSq f
        ((enterCore f .lockout (some cause) s).sq f).stopTimers) (by simpa using h)
    have hcount : ((enterCore f .lockout (some cause) s).sq f).shotCount = (s.sq f).shotCount := by
      rw [enterCore_sq]; rfl
    rw [hcount] at hlocked
    refine hlocked.mono ?_
    rw [hreports, lockedOut, hcount]
  · rw [lockout_eq, h, lockoutLeft_of_not_testing hs]
    simp [lockedOut]

/-! The test's contactor fails (R107, R109, R111) -/

/-- The result with which a test ends on its contactor (R114). -/
def contactorResult : LastResult := { outcome := .contactorFailure, r := none, uAvg := none, ubAvg := none }

theorem recordResult_sq (f : FeederId) (x : LastResult) (s : State) :
    (recordResult f x s).sq f = { s.sq f with test := { (s.sq f).test with last := some x } }
      ∧ (recordResult f x s).rect = s.rect ∧ (recordResult f x s).ports = s.ports
      ∧ (s.reports.length < 64 →
          Reported (recordResult f x s) .lineTest (.feeder f) (some x.outcome.cause) (x.r.map Int.ofNat)
            (averages x.uAvg x.ubAvg)) := by
  refine ⟨?_, ?_, ?_, fun h => ?_⟩
  · simp [recordResult, reportLineTest]
  · simp [recordResult, reportLineTest]
  · simp [recordResult, reportLineTest]
  · exact reported_submit .lineTest (.feeder f) (some x.outcome.cause) _ _ (by simpa using h)

/-- What a contactor failure enters its lockout from: the result recorded, TEST_OPEN offered where the rule says
so (R107, R109, R111, R114). -/
def contactorFailed (f : FeederId) (offer : Bool) (s : State) : State :=
  if offer then offerSeq (.testContactor f false) (recordResult f contactorResult s)
  else recordResult f contactorResult s

theorem contactorFailure_eq (f : FeederId) (offer : Bool) (s : State) :
    contactorFailure f offer s = lockout f .contactorFailure offer (contactorFailed f offer s) := rfl

theorem contactorFailed_sq (f : FeederId) (offer : Bool) (s : State) :
    (contactorFailed f offer s).sq f = (recordResult f contactorResult s).sq f
      ∧ (contactorFailed f offer s).rect = s.rect
      ∧ (contactorFailed f offer s).reports = (recordResult f contactorResult s).reports
      ∧ (contactorFailed f offer s).fixed = s.fixed := by
  obtain ⟨-, hrect, -, -⟩ := recordResult_sq f contactorResult s
  unfold contactorFailed
  split
  · exact ⟨offerSeq_sq .., (offerSeq_rect ..).trans hrect, offerSeq_reports .., by simp⟩
  · exact ⟨rfl, hrect, rfl, by simp⟩

end
end Sys2Proof.Machine
end

section
/-! PROOF. The close timer in CLOSING and TESTING, the switch-onto-fault timer and the reclaim timer (R81, R89,
R90, R107, R109, R111). -/

namespace Sys2Proof.Machine

set_option Elab.async false

section

variable {f : FeederId} {s a : State} {cause : LockoutCause} {offered : Bool}

/-- The timers of a record locked out for another cause than a breaker failure, its trip line released (R76,
R86). -/
theorem lockout_stopped (hc : cause ≠ .breakerFailure) :
    let r' := (lockout f cause offered s).sq f
    r'.state = .lockout ∧ r'.lockoutCause = some cause ∧ r'.closeTimer = none ∧ r'.sotf = none
      ∧ r'.openTimer = none ∧ r'.reclaim = none ∧ r'.dead = none ∧ r'.tripLine = false
      ∧ r'.phase = none ∧ r'.pendingTest = false := by
  dsimp only
  rw [lockout_sq]
  simp [FeederRec.stopTimers, FeederRec.entered, tripLevel, hc]

/-! The close timer in CLOSING (R89) -/

theorem closingTimeout_locks (hs : (s.sq f).state = .closing) :
    let t := offerSeq (.breaker f .opened) (lockout f .closeFailure false s)
    (t.sq f).shotCount = (s.sq f).shotCount ∧ (∀ e, e ≠ f → t.feeder e = s.feeder e)
      ∧ (s.reports.length < 64 →
          Reported t .lockout (.feeder f) (some .closeFailure) (some (s.sq f).shotCount) none)
      ∧ (s.mode = .service → (findNode s .breaker (some f)).isSome = true →
          (s.port .fp).urgent.length < 24 → Commanded t (.breaker f .opened)) := by
  have hs' : (s.sq f).state ≠ .testing := by simp [hs]
  obtain ⟨hothers, hreported, hports⟩ := lockout_of_not_testing (cause := .closeFailure) (offered := false) hs'
  have hfixed := lockout_fixed f .closeFailure false s
  dsimp only
  refine ⟨?_, fun e he => ?_, fun h => ?_, fun hm hnode hroom => ?_⟩
  · rw [offerSeq_sq, lockout_sq, lockoutLeft_of_not_testing hs']; rfl
  · rw [offerSeq_feeder_ne (c := .breaker f .opened) fun h => he (Option.some.inj h).symm, hothers e he]
  · exact (hreported h).mono (by rw [offerSeq_reports])
  · have hm' : (lockout f .closeFailure false s).mode = .service := (mode_of_fixed hfixed).trans hm
    rw [offerSeq, if_neg (by simp [hm'])]
    refine offerField_commanded (by simp [hm']) ?_ ?_
    · rw [commandNode, findNode_of_fixed hfixed]; exact hnode
    · rw [State.port, hports rfl]; exact hroom

/-! The close timer in TESTING (R81, R107, R109, R111) -/

/-- A lockout entered for the contactor of a feeder in TESTING, from `a`: the record, the group and the
command, where `a` keeps what they turn on. -/
theorem contactorLockout (hstate : (a.sq f).state = .testing) (hrect : a.rect = s.rect)
    (hl : s.rect.latched.get f = false) :
    (lockout f .contactorFailure offered a).rect.testers.get f = false
      ∧ ((lockout f .contactorFailure offered a).sq f).test.last = (a.sq f).test.last := by
  obtain ⟨hsq, -, htesters⟩ := lockoutLeft_sq (offered := offered) (f := f) (s := a) (hrect ▸ hl)
  refine ⟨?_, ?_⟩
  · rw [(lockout_beside ..).2.1, lockedOut, submit_rect, State.setSq_rect, enterCore_testers]
    exact htesters hstate
  · rw [lockout_sq, hsq]; rfl

/-- The test waits on its contactor (R107, R109, R111). -/
def ContactorWait (r : FeederRec) : Prop :=
  r.test.step = some .contactorCheck ∨ r.test.step = some .contactorClosing
    ∨ r.test.step = some .contactorOpening

theorem contactorTimeout_of_open_wait (ho : (s.sq f).openRequested = true) :
    contactorTimeout f s = lockout f .contactorFailure false s := by simp [contactorTimeout, ho]

theorem contactorTimeout_of_wait (ho : (s.sq f).openRequested = false) (hw : ContactorWait (s.sq f)) :
    contactorTimeout f s = contactorFailure f ((s.sq f).test.step == some .contactorClosing) s := by
  obtain hw | hw | hw := hw <;> simp [contactorTimeout, ho, hw] <;> rfl

theorem contactorTimeout_of_no_wait (ho : (s.sq f).openRequested = false) (hw : ¬ ContactorWait (s.sq f)) :
    contactorTimeout f s = s := by
  unfold contactorTimeout
  dsimp only
  rw [if_neg (by simp [ho])]
  unfold ContactorWait at hw
  split <;> simp_all

/-- A contactor failure leaves its result and TEST_OPEN, where the contactor is not OPEN or the rule offers it
(R107, R109, R111, R114). -/
theorem contactorFailure_leaves {offer : Bool} (hs : (s.sq f).state = .testing) :
    let t := contactorFailure f offer s
    (s.rect.latched.get f = false →
        t.rect.testers.get f = false ∧ (t.sq f).test.last = some contactorResult)
      ∧ (s.reports.length < 64 → Reported t .lineTest (.feeder f) (some .contactorFailure) none none)
      ∧ (s.mode = .service → (s.sq f).contactor ≠ .opened → (findNode s .breaker (some f)).isSome = true →
          (s.port .fp).urgent.length < 24 → Commanded t (.testContactor f false)) := by
  obtain ⟨hsq, hrect, hreports, hfixed⟩ := contactorFailed_sq f offer s
  obtain ⟨hrec, -, hports, hreported⟩ := recordResult_sq f contactorResult s
  rw [hrec] at hsq
  have hacts : UnitActs (contactorFailed f offer s) (contactorFailure f offer s) := by
    rw [contactorFailure_eq]; exact UnitActs.refl.lockout
  dsimp only
  refine ⟨fun hl => ?_, fun h => ?_, fun hm hc hnode hroom => ?_⟩
  · obtain ⟨htesters, hlast⟩ := contactorLockout (offered := offer) (a := contactorFailed f offer s)
      (hsq ▸ hs) hrect hl
    rw [contactorFailure_eq]
    exact ⟨htesters, hlast.trans (by rw [hsq])⟩
  · exact ((hreported h).mono (by rw [hreports])).mono hacts.reports
  · cases offer with
    | true =>
      refine Commanded.acts ?_ hacts
      have hm' : (recordResult f contactorResult s).mode = .service :=
        (mode_of_fixed (recordResult_fixed ..)).trans hm
      rw [contactorFailed, if_pos rfl, offerSeq, if_neg (by simp [hm'])]
      refine offerField_commanded (by simp [hm']) ?_ ?_
      · rw [commandNode, findNode_of_fixed (recordResult_fixed ..)]; exact hnode
      · rw [State.port, hports]; exact hroom
    | false =>
      rw [contactorFailure_eq]
      refine lockout_commanded (hsq ▸ hs) (hsq ▸ hc) ((mode_of_fixed hfixed).trans hm) ?_ ?_
      · rw [findNode_of_fixed hfixed]; exact hnode
      · rw [show contactorFailed f false s = recordResult f contactorResult s from rfl, State.port, hports]
        exact hroom

/-- An OPEN wait, or a wait on the contactor, that has run out ends in a lockout (R81, R107, R109, R111). -/
theorem contactorTimeout_locks (hs : (s.sq f).state = .testing)
    (hw : (s.sq f).openRequested = true ∨ ContactorWait (s.sq f)) :
    (∃ offered a, contactorTimeout f s = lockout f .contactorFailure offered a
        ∧ (a.sq f).state = .testing ∧ a.rect = s.rect)
      ∧ (s.mode = .service → (s.sq f).contactor ≠ .opened → (findNode s .breaker (some f)).isSome = true →
          (s.port .fp).urgent.length < 24 → Commanded (contactorTimeout f s) (.testContactor f false)) := by
  cases ho : (s.sq f).openRequested with
  | true =>
    rw [contactorTimeout_of_open_wait ho]
    exact ⟨⟨false, s, rfl, hs, rfl⟩, fun hm hc hnode hroom => lockout_commanded hs hc hm hnode hroom⟩
  | false =>
    have hwait : ContactorWait (s.sq f) := hw.resolve_left (by simp [ho])
    rw [contactorTimeout_of_wait ho hwait]
    obtain ⟨hsq, hrect, -, -⟩ := contactorFailed_sq f ((s.sq f).test.step == some .contactorClosing) s
    obtain ⟨hrec, -⟩ := recordResult_sq f contactorResult s
    exact ⟨⟨_, _, contactorFailure_eq .., by rw [hsq, hrec]; exact hs, hrect⟩,
      (contactorFailure_leaves hs).2.2⟩

end

theorem State.setSq_self (f : FeederId) (s : State) : s.setSq f (s.sq f) = s := by
  have hself : s.feeders.set f (s.feeder f) = s.feeders := PerFeeder.set_get _ _
  exact congrArg (fun v => { s with feeders := v }) hself

/-- The state at an expiry of the close timer: the timer stopped. -/
def closeStopped (f : FeederId) (s : State) : State := s.setSq f { s.sq f with closeTimer := none }

/-- Settles O34: the timers' expiries by the feeder's state, each lockout entered from the record it finds. -/
theorem closeAndReclaimTimers : Obligations.CloseAndReclaimTimers := by
  have hsq : ∀ f s, (closeStopped f s).sq f = { s.sq f with closeTimer := none } := fun f s =>
    State.setSq_sq_same ..
  refine ⟨fun f s hreset => ⟨closeExpired f s, outOfReset_eq hreset, fun hnone => by simp [closeExpired, hnone],
    fun hsome hs => ?_, fun hsome hclosing htesting => ?_, fun hsome hs => ?_⟩, fun f s hreset => ⟨?_, fun hnone => ?_,
    fun hsome hs => ?_⟩⟩
  · have heq : closeExpired f s = offerSeq (.breaker f .opened) (lockout f .closeFailure false (closeStopped f s)) := by
      simp [closeExpired, hsome, hs, closeStopped]
    obtain ⟨hcount, hothers, hreported, hcommanded⟩ := closingTimeout_locks (s := closeStopped f s) (f := f)
      (by rw [hsq]; exact hs)
    rw [hsq] at hcount hreported
    obtain ⟨hstate, hcause, hclose, hsotf, hopen, hreclaim, hdead, hline, -⟩ :=
      lockout_stopped (f := f) (s := closeStopped f s) (offered := false) (cause := .closeFailure) (by simp)
    rw [heq]
    rw [offerSeq_sq] at hcount ⊢
    exact ⟨hstate, hcause, hclose, hsotf, hopen, hreclaim, hdead, hline, hcount,
      fun e he => (hothers e he).trans (State.setSq_feeder_ne _ _ he), fun h => hreported (h.trans (by decide)),
      fun hm hnode hroom => hcommanded hm hnode hroom⟩
  · unfold closeExpired
    dsimp only
    rw [if_neg hsome]
    split
    next h => exact absurd h hclosing
    next h => exact absurd h htesting
    all_goals rfl
  · have heq : closeExpired f s = contactorTimeout f (closeStopped f s) := by
      simp [closeExpired, hsome, hs, closeStopped]
    have htesting : ((closeStopped f s).sq f).state = .testing := by rw [hsq]; exact hs
    have hwaits : ContactorWait ((closeStopped f s).sq f) ↔ ContactorWait (s.sq f) := by rw [hsq]; rfl
    have hleaves := fun offer => contactorFailure_leaves (offer := offer) htesting
    rw [heq]
    refine ⟨fun hwait => ?_, fun ho hwait hl hroom => ?_, fun ho hwait => ?_⟩
    · obtain ⟨⟨offered, a, hlocked, htested, hrect⟩, hcommanded⟩ :=
        contactorTimeout_locks htesting (hwait.imp (by rw [hsq]; exact id) hwaits.mpr)
      obtain ⟨hstate, hcause, hclose, hsotf, hopen, hreclaim, hdead, hline, -⟩ :=
        lockout_stopped (f := f) (s := a) (offered := offered) (cause := .contactorFailure) (by simp)
      rw [hsq] at hcommanded
      rw [← hlocked] at hstate hcause hclose hsotf hopen hreclaim hdead hline
      refine ⟨hstate, hcause, hclose, hsotf, hopen, hreclaim, hdead, hline, fun hl => ?_,
        fun hm hc hnode hroom => hcommanded hm hc hnode (lt_trans hroom (by decide))⟩
      rw [hlocked]
      exact (contactorLockout htested hrect hl).1
    · rw [contactorTimeout_of_wait (by rw [hsq]; exact ho) (hwaits.mpr hwait)]
      obtain ⟨hunlatched, hreported, -⟩ := hleaves (((closeStopped f s).sq f).test.step == some .contactorClosing)
      exact ⟨(hunlatched hl).2, hreported (lt_trans hroom (by decide))⟩
    · exact contactorTimeout_of_no_wait (by rw [hsq]; exact ho) (mt hwaits.mp hwait)
  · refine ⟨sotfExpired f s, outOfReset_eq hreset, by simp [sotfExpired], ?_⟩
    rw [sotfExpired, State.setSq_sq_same, State.setSq_setSq]
    exact State.setSq_self f s
  · rw [show exec (.reclaimExpired f) s = outOfReset (reclaimExpired f) s from rfl, outOfReset_eq hreset]
    simp [reclaimExpired, hnone]
  · have heq : reclaimExpired f s =
        reportFeederState f .closed .closed (s.setSq f { s.sq f with reclaim := none, shotCount := 0 }) := by
      simp [reclaimExpired, hsome, hs]
    refine ⟨reclaimExpired f s, outOfReset_eq hreset, ?_, ?_, ?_⟩
    · rw [heq]; simp [reportFeederState]
    · rw [heq]
      exact (submit_congr (s := s.setSq f { s.sq f with reclaim := none, shotCount := 0 }) (t := s)
        _ _ _ _ _ rfl rfl rfl rfl).1
    · rw [heq]
      unfold reportFeederState submit
      split <;> simp [State.putFeeder, State.putReports, State.setSq, State.setFeeder, State.feeder]

end Sys2Proof.Machine
end

section
/-! PROOF. Intertrip requests of a feeder's sequence unit, by the state of the link, and the trips that make them
(R83, R150, R153, R159). -/

namespace Sys2Proof.Machine

set_option Elab.async false

section

variable {f : FeederId} {k : Tie} {cause : InterCause} {why : InterFail} {sec : Nat} {req : TripRequest}
  {s : State}

/-! The request, by the link -/

/-- The tag taken and the outstanding entry made (R150). -/
def entryMade (f : FeederId) (k : Tie) (cause : InterCause) (timer : Nat) (s : State) : State :=
  setEntry f k cause (s.tie k).tag timer (advanceTag k s)

theorem intertripRequest_of_none (h : (s.feeder f).section_.tie = none) : intertripRequest f cause s = s := by
  simp [intertripRequest, sectionTie, h]

theorem intertripRequest_of_replay (h : (s.feeder f).section_.tie = some k) (hm : s.mode = .replay) :
    intertripRequest f cause s =
      reportSent f cause (s.feeder f).section_.sectionId (s.tie k).tag (entryMade f k cause 5000 s) := by
  simp [intertripRequest, sectionTie, h, hm, entryMade, Config.replayIntertrip]

theorem intertripRequest_of_up (h : (s.feeder f).section_.tie = some k) (hm : s.mode ≠ .replay)
    (hup : (s.tie k).up = true) :
    intertripRequest f cause s =
      reportSent f cause (s.feeder f).section_.sectionId (s.tie k).tag
        (offerTie k (.tripReq (BitVec.ofNat 8 (s.feeder f).section_.sectionId) cause (s.tie k).tag)
          (entryMade f k cause 10000 s)) := by
  simp [intertripRequest, sectionTie, h, hm, hup, entryMade, Config.repeatInterval]

/-- On a DOWN link with the port not LOST the TRIP_REQ is still sent (R153). -/
def sentInVain (f : FeederId) (k : Tie) (cause : InterCause) (s : State) : State :=
  reportSent f cause (s.feeder f).section_.sectionId (s.tie k).tag
    (offerTie k (.tripReq (BitVec.ofNat 8 (s.feeder f).section_.sectionId) cause (s.tie k).tag) (advanceTag k s))

theorem intertripRequest_of_down (h : (s.feeder f).section_.tie = some k) (hm : s.mode ≠ .replay)
    (hup : (s.tie k).up = false) :
    intertripRequest f cause s =
      intertripFail f cause (s.feeder f).section_.sectionId .linkDown
        (if (s.port k.port).state = .lost then s else sentInVain f k cause s) := by
  simp only [intertripRequest, sectionTie, h, if_neg hm, hup, sentInVain, Bool.false_eq_true, if_false]
  split <;> rfl

/-! Its failure -/

/-- The failure of an intertrip, its sequence unit not yet told (R153). -/
def failReported (f : FeederId) (cause : InterCause) (sec : Nat) (why : InterFail) (s : State) : State :=
  submit .intertripFailed (.feeder f) (some cause.cause) (some sec) (some why.code)
    (s.setFeeder f { s.feeder f with entry := none })

theorem failReported_sq (g : FeederId) : (failReported f cause sec why s).sq g = s.sq g := by
  rw [failReported, submit_sq]
  by_cases hg : g = f
  · subst hg; simp [State.sq]
  · rw [State.sq, State.setFeeder_feeder_ne _ _ hg]; rfl

theorem intertripFail_of_tripping (hs : (s.sq f).state = .tripping) :
    intertripFail f cause sec why s =
      (failReported f cause sec why s).setSq f { s.sq f with intertripFailed := true } := by
  have hsq := failReported_sq (cause := cause) (sec := sec) (why := why) (s := s) (f := f) f
  rw [← hsq] at hs
  show intertripFailNotice f (failReported f cause sec why s) = _
  simp only [intertripFailNotice, hs]
  rw [← hsq, hs]

theorem intertripFail_of_lockout (hs : (s.sq f).state = .lockout) :
    intertripFail f cause sec why s = failReported f cause sec why s := by
  have hsq := failReported_sq (cause := cause) (sec := sec) (why := why) (s := s) (f := f) f
  rw [← hsq] at hs
  show intertripFailNotice f (failReported f cause sec why s) = _
  simp only [intertripFailNotice, hs]

/-- The port-side steps of a request reach no unit and not the group. -/
theorem sentInVain_beside (f : FeederId) (k : Tie) (cause : InterCause) (s : State) :
    (sentInVain f k cause s).feeders = s.feeders ∧ (sentInVain f k cause s).rect = s.rect := by
  rw [sentInVain, reportSent, submit_feeders, submit_rect, offerTie_eq]
  exact ⟨rfl, rfl⟩

/-- The feeder in TRIPPING that an intertrip was asked for: its entry and its mark alone (R95, R150, R153). -/
theorem intertripRequest_of_tripping (hs : (s.sq f).state = .tripping) :
    let t := intertripRequest f cause s
    t.rect = s.rect
      ∧ (∃ entry b, t.feeder f =
          { s.feeder f with entry := entry, sq := { s.sq f with intertripFailed := b } })
      ∧ ∀ k, (s.feeder f).section_.tie = some k → s.mode ≠ .replay →
          ((s.tie k).up = true →
            (t.feeder f).entry =
              some { tie := k, sectionId := (s.feeder f).section_.sectionId, cause := cause
                     tag := (s.tie k).tag, sends := 1, timer := 10000 })
          ∧ ((s.tie k).up = false → (t.feeder f).entry = none ∧ (t.sq f).intertripFailed = true) := by
  have hmade : ∀ k timer, (entryMade f k cause timer s).rect = s.rect
      ∧ (entryMade f k cause timer s).feeder f =
        { s.feeder f with
          entry := some { tie := k, sectionId := (s.feeder f).section_.sectionId, cause := cause
                          tag := (s.tie k).tag, sends := 1, timer := timer } } := fun k timer =>
    ⟨rfl, by simp [entryMade, setEntry, advanceTag]⟩
  dsimp only
  cases htie : (s.feeder f).section_.tie with
  | none =>
    rw [intertripRequest_of_none htie]
    exact ⟨rfl, ⟨_, _, rfl⟩, fun k hk => by cases hk⟩
  | some k =>
    by_cases hm : s.mode = .replay
    · obtain ⟨hrect, hfeeder⟩ := hmade k 5000
      rw [intertripRequest_of_replay htie hm, reportSent, submit_rect, submit_feeder, hfeeder]
      exact ⟨hrect, ⟨_, _, rfl⟩, fun _ _ hm' => absurd hm hm'⟩
    cases hup : (s.tie k).up with
    | true =>
      obtain ⟨hrect, hfeeder⟩ := hmade k 10000
      rw [intertripRequest_of_up htie hm hup, reportSent, submit_rect, submit_feeder, offerTie_eq]
      refine ⟨hrect, ⟨_, _, hfeeder⟩, fun l hl _ => ?_⟩
      obtain rfl := Option.some.inj hl
      exact ⟨fun _ => by rw [State.setPort_feeder, hfeeder], fun h => (by rw [hup] at h; cases h)⟩
    | false =>
      rw [intertripRequest_of_down htie hm hup]
      have hsent : (if (s.port k.port).state = .lost then s else sentInVain f k cause s).feeders = s.feeders
          ∧ (if (s.port k.port).state = .lost then s else sentInVain f k cause s).rect = s.rect := by
        split
        · exact ⟨rfl, rfl⟩
        · exact sentInVain_beside ..
      generalize (if (s.port k.port).state = .lost then s else sentInVain f k cause s) = a at hsent
      obtain ⟨hfeeders, hrect⟩ := hsent
      have hsq : a.sq f = s.sq f := sq_of_feeders hfeeders f
      rw [intertripFail_of_tripping (hsq ▸ hs)]
      have hfeeder : a.feeder f = s.feeder f := by rw [State.feeder, hfeeders]; rfl
      have hfailed : ((failReported f cause (s.feeder f).section_.sectionId .linkDown a).setSq f
          { a.sq f with intertripFailed := true }).feeder f =
            { s.feeder f with entry := none, sq := { s.sq f with intertripFailed := true } } := by
        simp [failReported, hfeeder, hsq]
      refine ⟨?_, ⟨_, _, hfailed⟩, fun l hl _ => ?_⟩
      · simp [failReported, hrect]
      · obtain rfl := Option.some.inj hl
        exact ⟨fun h => (by rw [hup] at h; cases h), fun _ => ⟨congrArg FeederUnit.entry hfailed,
          congrArg (fun u : FeederUnit => u.sq.intertripFailed) hfailed⟩⟩

/-! Trips (R83) -/

/-- A trip entered, reported and captured, the far end not yet told. -/
def tripServed (f : FeederId) (req : TripRequest) (s : State) : State :=
  let s1 := submit .trip (.feeder f) (some req.primary.cause) req.i req.value2 (tripEntered f req s)
  if (s.feeder f).row.brk.capture then trigger f .trip s1 else s1

theorem startTrip_of_inter (hs : (s.sq f).state ≠ .testing) (hi : req.primary.inter = some cause) :
    startTrip f req s = intertripRequest f cause (tripServed f req s) := by
  unfold startTrip
  rw [enterState_of_not_testing hs]
  simp only [hi]
  rfl

theorem tripServed_beside (f : FeederId) (req : TripRequest) (s : State) :
    (tripServed f req s).feeders = (tripEntered f req s).feeders
      ∧ (tripServed f req s).rect = (tripEntered f req s).rect := by
  unfold tripServed
  dsimp only
  split
  · obtain ⟨hfeeders, hrect, -⟩ := trigger_beside f .trip
      (submit .trip (.feeder f) (some req.primary.cause) req.i req.value2 (tripEntered f req s))
    exact ⟨hfeeders.trans (submit_feeders ..), hrect.trans (submit_rect ..)⟩
  · exact ⟨submit_feeders .., submit_rect ..⟩

end
end Sys2Proof.Machine
end

section
/-! PROOF. The emergency stop: each feeder served in turn, then the group, and the outputs (R96, R140, R191,
R192). -/

namespace Sys2Proof.Machine

set_option Elab.async false

/-- What the emergency stop makes of a feeder that had unit `u` in a device mode, `up` saying which tie is UP
(R83, R95, R96, R115, R150). -/
def EmergencyServed (m : Mode) (up : Tie → Bool) (u u' : FeederUnit) : Prop :=
  (u.sq.state = .closed ∨ u.sq.state = .closing ∨ u.sq.state = .opening →
      u'.sq.state = .tripping ∧ u'.sq.primary = some .emergency
        ∧ u'.sq.tripLine = decide (m ≠ .replay)
        ∧ (∀ k, u.section_.tie = some k → m ≠ .replay →
            (up k = true →
              ∃ e, u'.entry = some e ∧ e.tie = k ∧ e.cause = .emergency
                ∧ e.sectionId = u.section_.sectionId ∧ e.sends = 1 ∧ e.timer = 10000)
            ∧ (up k = false → u'.entry = none ∧ u'.sq.intertripFailed = true)))
    ∧ (u.sq.state = .tripping →
        u'.sq.state = .tripping ∧ u'.sq.primary = u.sq.primary ∧ u'.sq.tripCauses.emergency = true)
    ∧ (u.sq.state = .deadTime ∨ u.sq.state = .testing →
        u'.sq.state = .lockout ∧ u'.sq.lockoutCause = some (.trip .emergency))
    ∧ (u.sq.state = .testing → u.sq.openRequested = false →
        u'.sq.shotCount = (if u.sq.shotTaken = true then u.sq.shotCount - 1 else u.sq.shotCount)
          ∧ u'.sq.test.last =
              some { outcome := .aborted .emergency, r := none, uAvg := none, ubAvg := none })
    ∧ (u.sq.state = .out ∨ u.sq.state = .opened ∨ u.sq.state = .lockout → u'.sq = u.sq)

/-- A feeder served by the emergency stop: nothing of it is left to the group. -/
structure EstopDone (f : FeederId) (s t : State) : Prop where
  served : EmergencyServed s.mode (fun k => (s.tie k).up) (s.feeder f) (t.feeder f)
  unlatched : t.rect.latched.get f = false
  ended : (t.sq f).state ≠ .testing

section

variable {f : FeederId} {s a : State}

/-! A feeder's turn -/

theorem lockout_unlatched {cause : LockoutCause} {offered : Bool} (hl : s.rect.latched.get f = false) :
    (lockout f cause offered s).rect.latched.get f = false := by
  rw [(lockout_beside ..).2.1, lockedOut, submit_rect, State.setSq_rect]
  exact enterCore_unlatched (lockoutLeft_sq hl).2.1

/-- The record of a test aborted for good: the shot given back (R115). -/
theorem abortForGood_sq {reason : AbortReason} (hl : s.rect.latched.get f = false) :
    (abortForGood f reason s).rect.latched.get f = false
      ∧ (abortForGood f reason s).sq f =
          if (s.sq f).shotTaken = true then
            { (s.sq f).aborted reason none none with
              shotCount := (s.sq f).shotCount - 1, shotTaken := false }
          else (s.sq f).aborted reason none none := by
  obtain ⟨hlatched, hsq⟩ := abortTesting_sq (reason := reason) (uAvg := none) (ubAvg := none) hl
  refine ⟨?_, ?_⟩
  · rw [abortForGood, giveShotBack_rect]; exact hlatched
  · rw [abortForGood, giveShotBack_sq, hsq]
    rfl

/-- A feeder CLOSED, CLOSING or OPENING trips and intertrips the far end (R83, R96). -/
theorem estopFeeder_of_running
    (hs : (s.sq f).state = .closed ∨ (s.sq f).state = .closing ∨ (s.sq f).state = .opening)
    (hm : s.mode ≠ .shadow) (hl : s.rect.latched.get f = false) : EstopDone f s (estopFeeder f s) := by
  have htest : (s.sq f).state ≠ .testing := by obtain h | h | h := hs <;> simp [h]
  have heq : estopFeeder f s =
      intertripRequest f .emergency (tripServed f (singleTrip s f .emergency) s) := by
    rw [← startTrip_of_inter htest (show (singleTrip s f .emergency).primary.inter = some .emergency from rfl)]
    obtain h | h | h := hs <;> simp [estopFeeder, requestTrip, h, hm]
  obtain ⟨hfeeders, hrect⟩ := tripServed_beside f (singleTrip s f .emergency) s
  have hsq : (tripServed f (singleTrip s f .emergency) s).sq f =
      ((s.sq f).entered s.mode .tripping none).tripped (singleTrip s f .emergency) (s.sq f).sotf.isSome
        ((s.feeder f).row.brk.tOpenMax * 1000) := (sq_of_feeders hfeeders f).trans (tripEntered_sq ..)
  have hacts : OthersKept (fun _ => False) s (tripServed f (singleTrip s f .emergency) s) :=
    (((((OthersKept.refl.enterCore id).offerBreaker id).setSq id).submit).thenIf OthersKept.refl.trigger)
  have hfixed : (tripServed f (singleTrip s f .emergency) s).fixed = s.fixed := by
    unfold tripServed tripEntered
    dsimp only
    split <;> simp
  obtain ⟨-, -, hsection⟩ := settings_of_fixed hfixed f
  have hlatched : (tripServed f (singleTrip s f .emergency) s).rect.latched.get f = false := by
    rw [hrect, tripEntered, State.setSq_rect, offerSeq_rect]
    exact enterCore_unlatched hl
  obtain ⟨hrect', ⟨entry, b, hfeeder⟩, hlink⟩ := intertripRequest_of_tripping (cause := .emergency)
    (s := tripServed f (singleTrip s f .emergency) s) (f := f) (by rw [hsq]; rfl)
  rw [← heq] at hrect' hfeeder hlink
  have hsq' : (estopFeeder f s).sq f =
      { (tripServed f (singleTrip s f .emergency) s).sq f with intertripFailed := b } := by
    rw [State.sq, hfeeder]
  rw [hsection, mode_of_fixed hfixed] at hlink
  rw [hsq] at hsq'
  refine ⟨⟨fun _ => ⟨?_, ?_, ?_, fun k hk hm' => ⟨fun hup => ?_, fun hup => ?_⟩⟩, fun ht => ?_, fun ht => ?_,
    fun ht => absurd ht htest, fun ht => ?_⟩, ?_, ?_⟩
  · exact congrArg FeederRec.state hsq'
  · exact congrArg FeederRec.primary hsq'
  · refine (congrArg FeederRec.tripLine hsq').trans ?_
    show tripLevel s.mode .tripping none = _
    cases s.mode <;> rfl
  · exact ⟨_, (hlink k hk hm').1 ((hacts.up k).trans hup), rfl, rfl, rfl, rfl, rfl⟩
  · exact (hlink k hk hm').2 ((hacts.up k).trans hup)
  · obtain h | h | h := hs <;> cases h.symm.trans ht
  · obtain h | h | h := hs <;> obtain ht | ht := ht <;> cases h.symm.trans ht
  · obtain h | h | h := hs <;> obtain ht | ht | ht := ht <;> cases h.symm.trans ht
  · rw [hrect']; exact hlatched
  · rw [hsq']; simp [FeederRec.tripped]

/-- A feeder TRIPPING goes on tripping, EMERGENCY among its causes (R96). -/
theorem estopFeeder_of_tripping (hs : (s.sq f).state = .tripping) (hm : s.mode ≠ .shadow)
    (hl : s.rect.latched.get f = false) : EstopDone f s (estopFeeder f s) := by
  have heq : estopFeeder f s = s.setSq f { s.sq f with
      tripCauses := (s.sq f).tripCauses.union (TripCauses.single .emergency) } := by
    simp only [estopFeeder, requestTrip, hs, if_neg hm, singleTrip]
  have hs' : (s.feeder f).sq.state = .tripping := hs
  rw [heq]
  refine ⟨?_, hl, by simp [hs]⟩
  rw [State.setSq_feeder_same]
  refine ⟨by simp [hs'], fun _ => ⟨hs, rfl, ?_⟩, by simp [hs'], by simp [hs'], by simp [hs']⟩
  simp [TripCauses.union, TripCauses.single]

/-- A feeder in DEAD_TIME or TESTING locks out, a test in progress first aborted (R96, R115). -/
theorem estopFeeder_of_waiting (hw : WaitsOrTests f s) :
    let t := estopFeeder f s
    (t.sq f).state = .lockout ∧ (t.sq f).lockoutCause = some (.trip .emergency)
      ∧ t.rect.latched.get f = false
      ∧ ((s.sq f).state = .testing → (s.sq f).openRequested = false →
          (t.sq f).shotCount = (if (s.sq f).shotTaken = true then (s.sq f).shotCount - 1 else (s.sq f).shotCount)
            ∧ (t.sq f).test.last =
                some { outcome := .aborted .emergency, r := none, uAvg := none, ubAvg := none }) := by
  dsimp only
  cases hs : (s.sq f).state with
  | deadTime =>
    have heq : estopFeeder f s = lockout f (.trip .emergency) false s := by simp [estopFeeder, hs]
    obtain ⟨hstate, hcause, -⟩ :=
      lockout_stopped (f := f) (s := s) (offered := false) (cause := .trip .emergency) (by simp)
    rw [heq]
    refine ⟨hstate, hcause, ?_, fun h => by cases h⟩
    rw [(lockout_beside ..).2.1, lockoutLeft_of_not_testing (by simp [hs]), lockedOut, submit_rect,
      State.setSq_rect]
    cases hl : s.rect.latched.get f with
    | false => exact enterCore_unlatched hl
    | true => simp [enterCore_rect, (hw.1 hl).1]
  | testing =>
    have hl : s.rect.latched.get f = false := Bool.eq_false_iff.mpr fun h => by
      cases hs.symm.trans (hw.1 h).2
    cases ho : (s.sq f).openRequested with
    | true =>
      have heq : estopFeeder f s = lockout f (.trip .emergency) false s := by simp [estopFeeder, hs, ho]
      obtain ⟨hstate, hcause, -⟩ :=
        lockout_stopped (f := f) (s := s) (offered := false) (cause := .trip .emergency) (by simp)
      rw [heq]
      exact ⟨hstate, hcause, lockout_unlatched hl, fun _ h => by cases h⟩
    | false =>
      have heq : estopFeeder f s = lockout f (.trip .emergency) true (abortForGood f .emergency s) := by
        simp [estopFeeder, hs, ho]
      obtain ⟨hstate, hcause, -⟩ := lockout_stopped (f := f) (s := abortForGood f .emergency s) (offered := true)
        (cause := .trip .emergency) (by simp)
      obtain ⟨hl', hsq⟩ := abortForGood_sq (reason := .emergency) hl
      obtain ⟨hleft, -⟩ := lockoutLeft_sq (offered := true) hl'
      rw [heq]
      refine ⟨hstate, hcause, lockout_unlatched hl', fun _ _ => ?_⟩
      rw [lockout_sq, hleft, hsq]
      cases (s.sq f).shotTaken <;> exact ⟨rfl, rfl⟩
  | out | opened | closing | closed | opening | tripping | lockout =>
    obtain h | h := hw.2 <;> cases hs.symm.trans h

/-- In the states where nothing runs the emergency stop leaves the feeder as it is (R96). -/
theorem estopFeeder_of_resting
    (hs : (s.sq f).state = .out ∨ (s.sq f).state = .opened ∨ (s.sq f).state = .lockout)
    (hl : s.rect.latched.get f = false) : EstopDone f s (estopFeeder f s) := by
  have heq : estopFeeder f s = s := by obtain h | h | h := hs <;> simp [estopFeeder, h]
  have hs' : (s.feeder f).sq.state = .out ∨ (s.feeder f).sq.state = .opened ∨ (s.feeder f).sq.state = .lockout := hs
  rw [heq]
  refine ⟨⟨?_, ?_, ?_, ?_, fun _ => rfl⟩, hl, ?_⟩
  all_goals obtain h | h | h := hs' <;> simp [h, State.sq]

/-! Every feeder in turn, then the group -/

/-- What a feeder's turn finds: its unit as the stop found it, but for a latched test that has started. -/
structure EstopPending (f : FeederId) (s a : State) : Prop where
  others : OthersKept (· = f) s a
  fixed : a.fixed = s.fixed

theorem EstopDone.of_same {t : State} (h : EstopDone f a t) (hf : a.feeder f = s.feeder f)
    (hm : a.mode = s.mode) (hup : ∀ k : Tie, (a.tie k).up = (s.tie k).up) : EstopDone f s t :=
  ⟨by simpa only [hf, hm, hup] using h.served, h.unlatched, h.ended⟩

theorem estopFeeder_turn (h : EstopPending f s a) (hm : s.mode ≠ .shadow)
    (hw : s.rect.latched.get f = true → (s.sq f).pendingTest = true ∧ (s.sq f).state = .deadTime) :
    EstopDone f s (estopFeeder f a) := by
  have hmode : a.mode = s.mode := mode_of_fixed h.fixed
  have hsame : s.rect.latched.get f = false → a.rect.latched.get f = false ∧ a.feeder f = s.feeder f := fun hl => by
    obtain ⟨hl', hf, -⟩ := h.others.kept f rfl hl
    exact ⟨hl', hf⟩
  have hstill : (s.sq f).state ≠ .deadTime → a.rect.latched.get f = false ∧ a.feeder f = s.feeder f := fun hd =>
    hsame (Bool.eq_false_iff.mpr fun hl => hd (hw hl).2)
  have hserve : (s.sq f).state ≠ .deadTime →
      (a.rect.latched.get f = false → a.sq f = s.sq f → EstopDone f a (estopFeeder f a)) →
      EstopDone f s (estopFeeder f a) := fun hd hdone => by
    obtain ⟨hl, hf⟩ := hstill hd
    exact (hdone hl (congrArg FeederUnit.sq hf)).of_same hf hmode h.others.up
  have hwaits : (s.sq f).state = .deadTime ∨ (s.sq f).state = .testing → EstopDone f s (estopFeeder f a) := fun hs => by
    obtain ⟨hstate, hcause, hl, habort⟩ := estopFeeder_of_waiting (h.others.waits f rfl ⟨hw, hs⟩)
    have hs' : (s.feeder f).sq.state = .deadTime ∨ (s.feeder f).sq.state = .testing := hs
    refine ⟨⟨?_, ?_, fun _ => ⟨hstate, hcause⟩, fun ht ho => ?_, ?_⟩, hl, by simp [hstate]⟩
    · obtain h | h := hs' <;> simp [h]
    · obtain h | h := hs' <;> simp [h]
    · obtain ⟨-, hf⟩ := hstill (by rw [State.sq, ht]; simp)
      have hsq : a.sq f = (s.feeder f).sq := congrArg FeederUnit.sq hf
      rw [hsq] at habort
      exact habort ht ho
    · obtain h | h := hs' <;> simp [h]
  cases hs : (s.sq f).state with
  | closed => exact hserve (by simp [hs]) fun hl hsq =>
      estopFeeder_of_running (.inl (hsq ▸ hs)) (hmode ▸ hm) hl
  | closing => exact hserve (by simp [hs]) fun hl hsq =>
      estopFeeder_of_running (.inr (.inl (hsq ▸ hs))) (hmode ▸ hm) hl
  | opening => exact hserve (by simp [hs]) fun hl hsq =>
      estopFeeder_of_running (.inr (.inr (hsq ▸ hs))) (hmode ▸ hm) hl
  | tripping => exact hserve (by simp [hs]) fun hl hsq =>
      estopFeeder_of_tripping (hsq ▸ hs) (hmode ▸ hm) hl
  | deadTime => exact hwaits (.inl hs)
  | testing => exact hwaits (.inr hs)
  | out => exact hserve (by simp [hs]) fun hl hsq => estopFeeder_of_resting (.inl (hsq ▸ hs)) hl
  | opened => exact hserve (by simp [hs]) fun hl hsq => estopFeeder_of_resting (.inr (.inl (hsq ▸ hs))) hl
  | lockout => exact hserve (by simp [hs]) fun hl hsq => estopFeeder_of_resting (.inr (.inr (hsq ▸ hs))) hl

/-- Every feeder is served as the stop found it (R96). -/
theorem estopFeeders_done (hm : s.mode ≠ .shadow)
    (hw : ∀ f, s.rect.latched.get f = true → (s.sq f).pendingTest = true ∧ (s.sq f).state = .deadTime) :
    ∀ f, EstopDone f s (forFeeders estopFeeder s) := fun f =>
  forFeeders_turn (Pre := EstopPending f s) (Post := EstopDone f s)
    (fun e he a ha =>
      ⟨ha.others.trans (OthersKept.refl.estopFeeder fun h => he h), (estopFeeder_fixed ..).trans ha.fixed⟩)
    (fun a ha => estopFeeder_turn ha hm (hw f))
    (fun e he a ha => by
      obtain ⟨hl, hf, -⟩ := (OthersKept.refl.estopFeeder (P := (· = f)) (f := e) fun h => he h).kept f rfl ha.unlatched
      exact ⟨hf ▸ ha.served, hl, by rw [State.sq, hf]; exact ha.ended⟩)
    ⟨.refl, rfl⟩

/-- With no feeder in TESTING the loss of supply reaches none (R134). -/
theorem supplyLost_of_untested (h : ∀ f, (s.sq f).state ≠ .testing) :
    supplyLost s = s.setRect { s.rect with testers := PerFeeder.const false } := by
  refine forFeeders_induct (P := (· = s.setRect { s.rect with testers := PerFeeder.const false }))
    (fun f a ha => ?_) rfl
  rw [ha, supplyLostFor, if_neg]
  exact fun hc => h f hc.2.1

/-- A command of the group reaches no feeder. -/
theorem offerRect_feeders {c : FieldCommand} (force : Bool) (hc : c.feeder? = none) (s : State) :
    (offerRect force c s).feeders = s.feeders := by
  unfold offerRect
  split
  · rfl
  · exact PerFeeder.ext_get fun g => offerField_feeder_ne (by simp [hc]) s

/-- The group on its way into FAULTED, its testers not yet told (R139). -/
def faultEntered (cause : FaultCause) (s : State) : State :=
  let s1 := offerRect true (.acBreaker false) (s.setRect
    { s.rect with
      faults := FaultCauses.empty.add cause
      firstFault := some cause
      acTrip := s.mode != .replay
      acTimer := none
      retryPending := false })
  offerBlocked true (s1.setRect (s1.rect.entered .faulted .none))

theorem faultEntered_rect (cause : FaultCause) (s : State) :
    (faultEntered cause s).rect =
      ({ s.rect with
          faults := FaultCauses.empty.add cause
          firstFault := some cause
          acTrip := s.mode != .replay
          acTimer := none
          retryPending := false } : RectRec).entered .faulted .none := by
  simp [faultEntered]

theorem faultEntered_feeders (cause : FaultCause) (s : State) : (faultEntered cause s).feeders = s.feeders := by
  simp only [faultEntered, offerBlocked]
  rw [offerRect_feeders _ rfl]
  exact offerRect_feeders _ rfl _

theorem rectFault_of_faulted {cause : FaultCause} (h : s.rect.state = .faulted) :
    rectFault cause s =
      submit .rectState .rect (some cause.cause) (some RectState.faulted.code) (some RectState.faulted.code)
        (s.setRect { s.rect with faults := s.rect.faults.add cause }) := by simp [rectFault, h]

theorem rectFault_of_entry {cause : FaultCause} (h : s.rect.state ≠ .faulted) :
    rectFault cause s =
      submit .rectFault .rect (some cause.cause) (some (faultEntered cause s).rect.acPos.code) none
        (supplyLost (faultEntered cause s)) := by
  simp only [rectFault, if_neg h]
  rfl

/-- A fault of the group with no feeder in TESTING (R139). -/
theorem rectFault_of_untested {cause : FaultCause} (h : ∀ f, (s.sq f).state ≠ .testing) :
    (rectFault cause s).feeders = s.feeders ∧ (rectFault cause s).rect.state = .faulted
      ∧ ∃ x : FaultCauses, (rectFault cause s).rect.faults = x.add cause := by
  by_cases hs : s.rect.state = .faulted
  · rw [rectFault_of_faulted hs, submit_feeders, submit_rect]
    exact ⟨rfl, hs, _, rfl⟩
  · have hfeeders := faultEntered_feeders cause s
    have hlost := supplyLost_of_untested (s := faultEntered cause s) fun f => by
      rw [sq_of_feeders hfeeders]; exact h f
    rw [rectFault_of_entry hs, hlost, submit_feeders, submit_rect, State.setRect_rect, faultEntered_rect]
    exact ⟨hfeeders, rfl, _, rfl⟩

/-! The outputs (R192) -/

theorem summaryAlarm_iff (s : State) :
    summaryAlarm s = true ↔
      (∃ f, (s.sq f).state = .lockout) ∨ s.rect.state = .faulted
        ∨ (∃ p, (s.port p).state = .lost) ∨ s.estop = true := by
  have hports : ∀ p : Port, p ∈ allPorts := fun p => by cases p <;> simp [allPorts]
  simp only [summaryAlarm, Bool.or_eq_true, List.any_eq_true, FeederId.mem_all, hports, true_and, beq_iff_eq,
    or_assoc]
  rfl

end

/-- Settles O60: the feeders in turn, then the group, which finds no test in progress. -/
theorem emergencyStopAndOutputs : Obligations.EmergencyStopAndOutputs := by
  refine ⟨fun s hreset hstop hw => ⟨assertEstop s, outOfReset_eq hreset, ?_⟩, fun s hreset => ⟨fun hstop =>
    ⟨releaseEstop s, outOfReset_eq hreset, ?_⟩, fun hstop => ?_⟩, fun s => ⟨summaryAlarm_iff s, ?_,
    fun _ => rfl, rfl⟩⟩
  · have heq : assertEstop s = submit .emergency .device none (some 1) none (serveEstop { s with estop := true }) := by
      simp [assertEstop, hstop]
    have hasserted : (assertEstop s).estop = true := by
      rw [heq, submit_estop, estop_of_fixed (serveEstop_fixed _)]
    refine ⟨hasserted, (summaryAlarm_iff _).mpr (.inr (.inr (.inr hasserted))), fun hm => ?_, fun hm => ?_⟩
    · rw [heq, serveEstop, if_pos hm]
    · have hdone := estopFeeders_done (s := { s with estop := true }) hm hw
      obtain ⟨hfeeders, hfaulted, x, hfaults⟩ := rectFault_of_untested (cause := .emergency) fun f => (hdone f).ended
      rw [heq, serveEstop, if_neg (show ({ s with estop := true } : State).mode ≠ .shadow from hm)]
      refine ⟨by rw [submit_rect]; exact hfaulted, by rw [submit_rect, hfaults]; rfl, fun f => ?_⟩
      have hunit : (submit .emergency .device none (some 1) none
          (rectFault .emergency (forFeeders estopFeeder { s with estop := true }))).feeder f =
          (forFeeders estopFeeder { s with estop := true }).feeder f := by
        rw [submit_feeder]
        exact congrArg (fun a : PerFeeder FeederUnit => a.get f) hfeeders
      have hserved := (hdone f).served
      rw [← hunit] at hserved
      exact hserved
  · have heq : releaseEstop s = submit .emergency .device none (some 0) none { s with estop := false } := by
      simp [releaseEstop, hstop]
    rw [heq]
    refine ⟨by rw [submit_estop],
      (submit_congr _ _ _ _ _ (s := { s with estop := false }) (t := s) rfl rfl rfl rfl).1, ?_⟩
    cases s
    subst hstop
    unfold submit State.putReports
    dsimp only
    split <;> rfl
  · rw [show exec .estopReleased s = outOfReset releaseEstop s from rfl, outOfReset_eq hreset]
    simp [releaseEstop, hstop]
  · simp [alarmConducts]

end Sys2Proof.Machine
end

section
/-! PROOF. CLOSE starts a manual line test, and OPEN by the feeder's state (R80, R81, R101, R107, R113, R115). -/

namespace Sys2Proof.Machine

set_option Elab.async false

section

variable {f : FeederId} {s : State}

/-! CLOSE (R80, R101, R107, R113) -/

/-- A test entered leaves the group in its state and the tester set as it was (R107). -/
theorem enterTesting_rect (f : FeederId) (kind : TestKind) (origin : Option TestOrigin) (s : State) :
    (enterTesting f kind origin s).rect.state = s.rect.state
      ∧ (enterTesting f kind origin s).rect.testers = s.rect.testers := by
  rw [enterTesting, reportFeederState, submit_rect, State.setSq_rect, enterCore_rect]
  split <;> exact ⟨rfl, rfl⟩

theorem enterTesting_sq (f : FeederId) (kind : TestKind) (origin : Option TestOrigin) (s : State) :
    (enterTesting f kind origin s).sq f =
      { (s.sq f).entered s.mode .testing none with
        test := { ((s.sq f).entered s.mode .testing none).test with
                  kind := some kind, origin := origin, step := some .contactorCheck } } := by
  simp [enterTesting, reportFeederState, enterCore_sq]

theorem enterTesting_feeder_ne {kind : TestKind} {origin : Option TestOrigin} {e : FeederId} (he : e ≠ f) :
    (enterTesting f kind origin s).feeder e = s.feeder e := by
  rw [enterTesting, reportFeederState, submit_feeder, State.setSq_feeder_ne _ _ he, enterCore_feeder_ne _ _ _ he]

/-- A test that starts with the contactor OPEN goes at once into the live check (R107). -/
theorem startTest_of_open_contactor (kind : TestKind) (origin : Option TestOrigin)
    (hc : (s.sq f).contactor = .opened) :
    let t := startTest f kind origin s
    t.sq f =
        { (s.sq f).entered s.mode .testing none with
          test := { ((s.sq f).entered s.mode .testing none).test with
                    kind := some kind, origin := origin, step := some .liveCheck } }
      ∧ t.rect.state = s.rect.state ∧ t.rect.testers.get f = true
      ∧ (∀ e, e ≠ f → t.feeder e = s.feeder e) := by
  have hsq : (enterTesting f kind origin (addTester f s)).sq f =
      { (s.sq f).entered s.mode .testing none with
        test := { ((s.sq f).entered s.mode .testing none).test with
                  kind := some kind, origin := origin, step := some .contactorCheck } } := enterTesting_sq ..
  obtain ⟨hstate, htesters⟩ := enterTesting_rect f kind origin (addTester f s)
  have hothers : ∀ e, e ≠ f → (enterTesting f kind origin (addTester f s)).feeder e = s.feeder e := fun e he =>
    enterTesting_feeder_ne he
  dsimp only
  rw [startTest, beginContactorCheck]
  dsimp only
  rw [if_pos (show ((enterTesting f kind origin (addTester f s)).sq f).contactor = .opened by rw [hsq]; exact hc)]
  refine ⟨?_, hstate, ?_, fun e he => (State.setSq_feeder_ne _ _ he).trans (hothers e he)⟩
  · rw [State.setSq_sq_same, hsq]
  · rw [State.setSq_rect, htesters]; simp [addTester]

theorem rectMove_feeders (new : RectState) (cause : RectCause) (s : State) :
    (rectMove new cause s).feeders = s.feeders := by
  rw [rectMove, submit_feeders]
  split
  · exact offerRect_feeders _ rfl _
  · rfl

/-- A manual request on a group that supplies starts its test, in PROBE from HOLD (R101, R113). -/
theorem manualRequest_of_supplies
    (hr : s.rect.state = .running ∨ s.rect.state = .probe ∨ s.rect.state = .hold) :
    ∃ b, manualRequest f s = startTest f .manual none b ∧ b.feeders = s.feeders ∧ b.mode = s.mode
      ∧ b.rect.state = if s.rect.state = .hold then .probe else s.rect.state := by
  obtain hr | hr | hr := hr
  · exact ⟨s, by simp [manualRequest, hr], rfl, rfl, by simp [hr]⟩
  · exact ⟨s, by simp [manualRequest, hr], rfl, rfl, by simp [hr]⟩
  · refine ⟨probeFromHold s, by simp [manualRequest, hr], rectMove_feeders .probe .none s,
      mode_of_fixed (probeFromHold_fixed s), ?_⟩
    simp [probeFromHold, hr, RectRec.entered]

/-! OPEN (R81, R115) -/

/-- OPEN in CLOSED and CLOSING. -/
theorem openRunning_leaves (hs : (s.sq f).state = .closed ∨ (s.sq f).state = .closing) :
    let t := openRunning f s
    let r' := t.sq f
    r'.state = .opening ∧ r'.shotCount = 0 ∧ r'.closeTimer = none ∧ r'.sotf = none ∧ r'.reclaim = none
      ∧ r'.openTimer = some ((s.feeder f).row.brk.tOpenMax * 1000) ∧ r'.tripLine = false
      ∧ (∀ e, e ≠ f → t.feeder e = s.feeder e) := by
  have hcore : enterState f .opening none (offerSeq (.breaker f .opened) s) =
      enterCore f .opening none (offerSeq (.breaker f .opened) s) :=
    enterState_of_not_testing (by rw [offerSeq_sq]; obtain h | h := hs <;> simp [h])
  have hrow : ((enterCore f .opening none (offerSeq (.breaker f .opened) s)).feeder f).row = (s.feeder f).row :=
    (settings_of_fixed (show (enterCore f .opening none (offerSeq (.breaker f .opened) s)).fixed = s.fixed by simp)
      f).1
  dsimp only
  refine ⟨?_, ?_, ?_, ?_, ?_, ?_, ?_, fun e he => ?_⟩
  all_goals simp only [openRunning, hcore, reportFeederState, submit_sq, State.setSq_sq_same]
  · rw [enterCore_sq]; rfl
  · rw [hrow]; rfl
  · rw [enterCore_sq]
    show tripLevel _ .opening none = false
    simp [tripLevel]
  · rw [submit_feeder, State.setSq_feeder_ne _ _ he, enterCore_feeder_ne _ _ _ he,
      offerSeq_feeder_ne (c := .breaker f .opened) fun h => he (Option.some.inj h).symm]

/-- OPEN in DEAD_TIME. -/
theorem openDeadTime_leaves (hs : (s.sq f).state = .deadTime) :
    let t := openDeadTime f s
    let r' := t.sq f
    r'.state = .opened ∧ r'.shotCount = 0 ∧ r'.dead = none ∧ r'.phase = none ∧ r'.pendingTest = false
      ∧ r'.farClear = false ∧ ((s.sq f).pendingTest = true → t.rect.latched.get f = false)
      ∧ (∀ e, e ≠ f → t.feeder e = s.feeder e) := by
  have hcore : enterState f .opened none (s.setSq f { s.sq f with shotCount := 0 }) =
      enterCore f .opened none (s.setSq f { s.sq f with shotCount := 0 }) :=
    enterState_of_not_testing (by simp [hs])
  have hsq : (openDeadTime f s).sq f =
      FeederRec.entered s.mode .opened none { s.sq f with shotCount := 0 } := by
    rw [openDeadTime, hcore, reportFeederState, submit_sq, enterCore_sq, State.setSq_sq_same]
    rfl
  dsimp only
  rw [hsq]
  refine ⟨rfl, rfl, rfl, rfl, rfl, rfl, fun hp => ?_, fun e he => ?_⟩
  · rw [openDeadTime, hcore, reportFeederState, submit_rect, enterCore_rect,
      if_pos ⟨by simpa using hp, by simp⟩]
    simp
  · rw [openDeadTime, hcore, reportFeederState, submit_feeder, enterCore_feeder_ne _ _ _ he,
      State.setSq_feeder_ne _ _ he]

/-- A test aborted for good leaves the tester set (R107, R115, R132). -/
theorem abortForGood_testers {reason : AbortReason} (hl : s.rect.latched.get f = false) :
    (abortForGood f reason s).rect.testers.get f = false := by
  rw [abortForGood, giveShotBack_rect]
  exact leaveTesting_testers (by simpa using hl)

theorem leaveTesting_of_no_tester (h : s.rect.testers.get f = false) : leaveTesting f s = s := by
  simp [leaveTesting, h]

/-- OPEN in TESTING with the contactor OPEN: the test aborted, then OPEN entered. -/
theorem openTesting_of_open_contactor (hl : s.rect.latched.get f = false) (hs : (s.sq f).state = .testing)
    (hc : (s.sq f).contactor = .opened) :
    openTesting f s = reportFeederState f .opened .testing (enterCore f .opened none
      ((abortForGood f .opened s).setSq f { (abortForGood f .opened s).sq f with shotCount := 0 })) := by
  obtain ⟨-, hsq⟩ := abortForGood_sq (reason := .opened) hl
  have hkept : ((abortForGood f .opened s).sq f).contactor = .opened
      ∧ ((abortForGood f .opened s).sq f).state = .testing := by
    rw [hsq]; split <;> exact ⟨hc, hs⟩
  rw [openTesting]
  dsimp only
  rw [if_pos hkept.1, enterState, if_pos ⟨by simpa using hkept.2, by simp⟩,
    leaveTesting_of_no_tester (s := State.setSq _ f _) (abortForGood_testers hl)]

/-- OPEN in TESTING with the contactor not OPEN: the test aborted, then the wait for the contactor. -/
theorem openTesting_of_closed_contactor (hl : s.rect.latched.get f = false)
    (hc : (s.sq f).contactor ≠ .opened) :
    openTesting f s = startCloseTimer f ((abortForGood f .opened s).setSq f
      { (abortForGood f .opened s).sq f with
        openRequested := true, test := ((abortForGood f .opened s).sq f).test.ended }) := by
  obtain ⟨-, hsq⟩ := abortForGood_sq (reason := .opened) hl
  have hkept : ((abortForGood f .opened s).sq f).contactor ≠ .opened := by rw [hsq]; split <;> exact hc
  rw [openTesting]
  dsimp only
  rw [if_neg hkept]

theorem openTesting_waits (hl : s.rect.latched.get f = false) (hs : (s.sq f).state = .testing)
    (hc : (s.sq f).contactor ≠ .opened) :
    let r' := (openTesting f s).sq f
    r'.state = .testing ∧ r'.openRequested = true ∧ r'.test.step = none
      ∧ r'.closeTimer = some ((s.feeder f).row.brk.tCloseMax * 1000) ∧ r'.shotTaken = false
      ∧ r'.shotCount = (if (s.sq f).shotTaken = true then (s.sq f).shotCount - 1 else (s.sq f).shotCount)
      ∧ r'.test.last = some { outcome := .aborted .opened, r := none, uAvg := none, ubAvg := none } := by
  obtain ⟨-, hsq⟩ := abortForGood_sq (reason := .opened) hl
  have hrow : ((abortForGood f .opened s).feeder f).row = (s.feeder f).row :=
    (settings_of_fixed (abortForGood_fixed ..) f).1
  dsimp only
  rw [openTesting_of_closed_contactor hl hc, startCloseTimer, State.setSq_sq_same, State.setSq_sq_same,
    State.setSq_feeder_same, hrow, hsq]
  cases htaken : (s.sq f).shotTaken with
  | true => exact ⟨hs, rfl, rfl, rfl, rfl, rfl, rfl⟩
  | false => exact ⟨hs, rfl, rfl, rfl, htaken, rfl, rfl⟩

theorem openTesting_opens (hl : s.rect.latched.get f = false) (hs : (s.sq f).state = .testing)
    (hc : (s.sq f).contactor = .opened) :
    let r' := (openTesting f s).sq f
    r'.state = .opened ∧ r'.shotCount = 0 ∧ r'.tripLine = false
      ∧ r'.test.last = some { outcome := .aborted .opened, r := none, uAvg := none, ubAvg := none } := by
  obtain ⟨-, hsq⟩ := abortForGood_sq (reason := .opened) hl
  dsimp only
  rw [openTesting_of_open_contactor hl hs hc, reportFeederState, submit_sq, enterCore_sq, State.setSq_sq_same, hsq]
  refine ⟨rfl, rfl, ?_, ?_⟩
  · show tripLevel _ .opened none = false
    simp [tripLevel]
  · split <;> rfl

/-- OPEN in TESTING reports the aborted test and takes the feeder off the tester set. -/
theorem openTesting_leaves (hl : s.rect.latched.get f = false) (hs : (s.sq f).state = .testing) :
    (openTesting f s).rect.testers.get f = false
      ∧ (s.reports.length < 64 →
          Reported (openTesting f s) .lineTest (.feeder f) (some .opened) none none) := by
  refine ⟨?_, fun hroom => ?_⟩
  · by_cases hc : (s.sq f).contactor = .opened
    · rw [openTesting_of_open_contactor hl hs hc, reportFeederState, submit_rect, enterCore_testers]
      exact abortForGood_testers hl
    · rw [openTesting_of_closed_contactor hl hc]
      exact abortForGood_testers hl
  · have hrest : UnitActs (abortEffects f .opened none none s) (openTesting f s) :=
      UnitActs.ite UnitActs.refl.leaveTesting.giveShotBack.setSq.enterState.reportFeederState
        UnitActs.refl.leaveTesting.giveShotBack.setSq.startCloseTimer
    exact (abortEffects_reported hroom).mono hrest.reports

theorem serveOpen_of_running (hm : s.mode ≠ .shadow) (hs : (s.sq f).state = .closed ∨ (s.sq f).state = .closing) :
    serveOpen f s = openRunning f s := by
  obtain h | h := hs <;> simp [serveOpen, hm, h]

theorem serveOpen_of_dead_time (hm : s.mode ≠ .shadow) (hs : (s.sq f).state = .deadTime) :
    serveOpen f s = openDeadTime f s := by
  simp [serveOpen, hm, hs]

theorem serveOpen_of_testing (hm : s.mode ≠ .shadow) (hs : (s.sq f).state = .testing)
    (ho : (s.sq f).openRequested = false) : serveOpen f s = openTesting f s := by
  simp [serveOpen, hm, hs, ho]

/-- Where nothing runs OPEN has no effect, in SHADOW too. -/
theorem serveOpen_of_resting
    (hs : (s.sq f).state = .out ∨ (s.sq f).state = .opened ∨ (s.sq f).state = .opening
      ∨ (s.sq f).state = .tripping ∨ (s.sq f).state = .lockout) : serveOpen f s = s := by
  obtain h | h | h | h | h := hs <;> simp [serveOpen, openShadow, h]

end

/-- Settles O52: CLOSE passes its checks and starts the test from the state it finds; OPEN by the feeder's
state. -/
theorem closeAndOpenServed : Obligations.CloseAndOpenServed := by
  refine ⟨fun k f s hreset hk hm hs hestop hspring hbreaker hcontactor hblind hfrozen htheta hrect => ?_,
    fun k f s hreset => ?_⟩
  · obtain ⟨q, hq⟩ := takeRequest_eq k (.closeFeeder f.num) s
    have hkey : byKey k { s with requests := q } = (false, .refusedAuthority) := byKey_of_source hk
    have hmode : notShadow { s with requests := q } = (false, .refusedMode) :=
      notShadow_of_ne (by obtain h | h := hm <;> simp [h])
    have hconfig : (s.mode == .config) = false := by obtain h | h := hm <;> simp [h]
    have hsupplies : s.rect.state.supplies = true := by obtain h | h | h := hrect <;> simp [h, RectState.supplies]
    have hok : closeOk { s with requests := q } f = true := by
      have h : closeOk s f = true := by
        simp [closeOk, hs, hestop, hspring, hbreaker, hcontactor, hblind, hfrozen, htheta, hsupplies]
      exact h
    obtain ⟨b, hb, hfeeders, hbmode, hbrect⟩ := manualRequest_of_supplies (f := f) (s := { s with requests := q }) hrect
    have hbsq : b.sq f = s.sq f := sq_of_feeders hfeeders f
    obtain ⟨hsq, hstate, htester, hothers⟩ := startTest_of_open_contactor .manual none (f := f) (s := b)
      (by rw [hbsq]; exact hcontactor)
    refine ⟨manualRequest f { s with requests := q }, ?_, ?_⟩
    · rw [show exec (.closeFeeder k f.num) s =
          taking k (.closeFeeder f.num) (fun st => requestClose k f.num st) s from rfl, taking_eq hreset, hq,
        requestClose, feederCommand, FeederId.ofNum_num]
      exact congrArg Host.Outcome.next
        (checked_of_accepted (by simp [firstRefusal, hkey, hmode, hconfig, hok]) (manualRequest f) _)
    · rw [hb, hsq, hbsq, hbmode]
      refine ⟨rfl, rfl, rfl, rfl, rfl, ?_, htester, hstate.trans hbrect, fun e he => (hothers e he).trans ?_⟩
      · show tripLevel s.mode .testing none = false
        simp [tripLevel]
      · rw [State.feeder, hfeeders]; rfl
  · obtain ⟨q, hq⟩ := takeRequest_eq k (.openFeeder f.num) s
    refine ⟨serveOpen f { s with requests := q }, ?_, fun hm hs => ?_, fun hm hs => ?_, fun hm hs ho hc hl => ?_,
      fun hm hs ho hl hroom => ?_, fun hs => ?_⟩
    · rw [show exec (.openFeeder k f.num) s =
          taking k (.openFeeder f.num) (fun st => requestOpen k f.num st) s from rfl, taking_eq hreset, hq, requestOpen,
        feederCommand, FeederId.ofNum_num]
      exact congrArg Host.Outcome.next (checked_of_accepted rfl (serveOpen f) _)
    · rw [serveOpen_of_running (s := { s with requests := q }) hm hs]
      exact openRunning_leaves hs
    · rw [serveOpen_of_dead_time (s := { s with requests := q }) hm hs]
      exact openDeadTime_leaves hs
    · rw [serveOpen_of_testing (s := { s with requests := q }) hm hs ho]
      obtain ⟨hstate, hopen, hstep, hclose, -⟩ := openTesting_waits (s := { s with requests := q }) hl hs hc
      exact ⟨hstate, hopen, hstep, hclose⟩
    · rw [serveOpen_of_testing (s := { s with requests := q }) hm hs ho]
      obtain ⟨htester, hreported⟩ := openTesting_leaves (s := { s with requests := q }) hl hs
      refine ⟨?_, hreported (lt_trans hroom (by decide)), htester, fun hc => ?_, fun hc => ?_⟩
      · by_cases hc : (s.sq f).contactor = .opened
        · obtain ⟨-, -, -, hlast⟩ := openTesting_opens (s := { s with requests := q }) hl hs hc
          exact hlast
        · obtain ⟨-, -, -, -, -, -, hlast⟩ := openTesting_waits (s := { s with requests := q }) hl hs hc
          exact hlast
      · obtain ⟨hstate, hcount, hline, -⟩ := openTesting_opens (s := { s with requests := q }) hl hs hc
        exact ⟨hstate, hcount, hline⟩
      · obtain ⟨-, -, -, -, htaken, hcount, -⟩ := openTesting_waits (s := { s with requests := q }) hl hs hc
        exact ⟨htaken, hcount⟩
    · rw [hq]
      exact serveOpen_of_resting (s := { s with requests := q }) hs

end Sys2Proof.Machine
end

section
/-! PROOF. A breaker unit's STATUS from the field port: the positions recorded, the breaker's change served, and
what the contactor's change and the frame switch do after it (R16, R25, R74, R93). -/

namespace Sys2Proof.Machine

set_option Elab.async false

section

variable {f : FeederId} {bytes : List Byte} {fr : RxFrame} {x : BreakerStatus} {s u : State}

/-! The frame -/

/-- The STATUS passed on to the station, where its row permits it (R25, R27). -/
def statusPassedOn (fr : RxFrame) (s u : State) : State :=
  if (s.nodeRow fr.src).upStatus then forwardUpFrame fr u else u

theorem exec_breakerStatus (h : TakesStatus f bytes fr x s) :
    exec (.breakerStatusReceived bytes) s = .next (statusPassedOn fr s (breakerStatus f x (goodFrame .fp s))) := by
  obtain ⟨⟨harrives, hrole, hbinding, hside, hm⟩, hkind, hx⟩ := h
  have hrow := nodeRow_of_fixed (goodFrame_fixed .fp s) fr.src
  have hmode : (goodFrame .fp s).mode ≠ .replay := by rw [mode_of_fixed (goodFrame_fixed .fp s)]; exact hm
  refine congrArg Host.Outcome.next ((harrives.receive_eq s.time).trans ?_)
  simp [switchFrame, switchField, hrow, hrole, hside, hkind, switchStatus, roleSendsStatus, hmode, consumeStatus,
    hbinding, hx, handStatus, statusPassedOn]

/-- A good frame changes the record of its port, not its URGENT queue, and may report the port GOOD (R5). -/
theorem goodFrame_eq (p : Port) (s : State) :
    ∃ r : PortRec, r.urgent = (s.port p).urgent
      ∧ (goodFrame p s = s.setPort p r ∨ goodFrame p s = reportPort p .good .degraded (s.setPort p r)) := by
  dsimp only [goodFrame]
  split
  · rw [State.setPort_setPort]
    exact ⟨_, by simp, .inr rfl⟩
  · exact ⟨{ s.port p with errorCount := (s.port p).errorCount - 1 }, rfl, .inl rfl⟩

theorem goodFrame_keeps (p : Port) (s : State) :
    (goodFrame p s).rect = s.rect ∧ (goodFrame p s).ties = s.ties
      ∧ (∀ q, ((goodFrame p s).port q).urgent = (s.port q).urgent)
      ∧ s.reports <+: (goodFrame p s).reports ∧ (goodFrame p s).reports.length ≤ s.reports.length + 1 := by
  obtain ⟨r, hr, heq⟩ := goodFrame_eq p s
  have hurgent : ∀ q, ((s.setPort p r).port q).urgent = (s.port q).urgent := fun q => by
    by_cases hq : q = p
    · subst hq; simpa
    · rw [State.setPort_port_ne _ _ hq]
  obtain heq | heq := heq
  · rw [heq]
    exact ⟨rfl, rfl, hurgent, List.prefix_refl _, Nat.le_succ _⟩
  · rw [heq, reportPort, submit_rect, submit_ties]
    simp only [submit_port]
    exact ⟨rfl, rfl, hurgent, submit_reports_prefix (s := s.setPort p r) .., submit_adds_one (s := s.setPort p r) ..⟩

/-! The positions (R74) -/

/-- The state with the positions of a STATUS recorded. -/
def positionsTaken (f : FeederId) (x : BreakerStatus) (s : State) : State :=
  (goodFrame .fp s).setSq f
    { s.sq f with breaker := x.breaker, contactor := x.contactor, spring := x.spring }

@[simp] theorem positionsTaken_sq (f : FeederId) (x : BreakerStatus) (s : State) :
    (positionsTaken f x s).sq f =
      { s.sq f with breaker := x.breaker, contactor := x.contactor, spring := x.spring } := State.setSq_sq_same ..

theorem positionsTaken_feeder (f : FeederId) (x : BreakerStatus) (s : State) :
    (positionsTaken f x s).feeder f =
      { s.feeder f with
        sq := { s.sq f with breaker := x.breaker, contactor := x.contactor, spring := x.spring } } := by
  rw [positionsTaken, State.setSq_feeder_same, goodFrame_feeder]

theorem positionsTaken_feeder_ne {e : FeederId} (he : e ≠ f) : (positionsTaken f x s).feeder e = s.feeder e := by
  rw [positionsTaken, State.setSq_feeder_ne _ _ he, goodFrame_feeder]

@[simp] theorem positionsTaken_fixed (f : FeederId) (x : BreakerStatus) (s : State) :
    (positionsTaken f x s).fixed = s.fixed := by
  rw [positionsTaken, State.setSq_fixed, goodFrame_fixed]

theorem positionsTaken_mode (f : FeederId) (x : BreakerStatus) (s : State) : (positionsTaken f x s).mode = s.mode :=
  mode_of_fixed (positionsTaken_fixed ..)

@[simp] theorem positionsTaken_rect (f : FeederId) (x : BreakerStatus) (s : State) :
    (positionsTaken f x s).rect = s.rect := by
  obtain ⟨hrect, -⟩ := goodFrame_keeps .fp s
  exact hrect

theorem positionsTaken_tie (f : FeederId) (x : BreakerStatus) (s : State) (k : Tie) :
    (positionsTaken f x s).tie k = s.tie k := by
  obtain ⟨-, hties, -⟩ := goodFrame_keeps .fp s
  exact congrArg (fun v : PerTie TieRec => v.get k) hties

theorem positionsTaken_urgent (f : FeederId) (x : BreakerStatus) (s : State) (p : Port) :
    ((positionsTaken f x s).port p).urgent = (s.port p).urgent := by
  obtain ⟨-, -, hurgent, -⟩ := goodFrame_keeps .fp s
  exact hurgent p

/-- A STATUS's frame changes no other port (R5). -/
theorem positionsTaken_port_ne {p : Port} (hp : p ≠ .fp) : (positionsTaken f x s).port p = s.port p := by
  obtain ⟨r, -, heq⟩ := goodFrame_eq .fp s
  show (goodFrame .fp s).port p = s.port p
  obtain heq | heq := heq
  · rw [heq, State.setPort_port_ne _ _ hp]
  · rw [heq, reportPort, submit_port, State.setPort_port_ne _ _ hp]

theorem positionsTaken_reports (f : FeederId) (x : BreakerStatus) (s : State) :
    s.reports <+: (positionsTaken f x s).reports
      ∧ (positionsTaken f x s).reports.length ≤ s.reports.length + 1 := by
  obtain ⟨-, -, -, hprefix, hlength⟩ := goodFrame_keeps .fp s
  exact ⟨hprefix, hlength⟩

/-! What follows the breaker's change -/

/-- What the rest of a STATUS leaves once the breaker's change is served: the units, the group and the tie
ports as they are, and a command to a breaker that stands. -/
structure BreakerLast (u t : State) : Prop where
  feeders : t.feeders = u.feeders
  rect : t.rect = u.rect
  reports : u.reports <+: t.reports
  tiePort : ∀ k : Tie, t.port k.port = u.port k.port
  commanded : ∀ {g b}, Commanded u (.breaker g b) → Commanded t (.breaker g b)

theorem BreakerLast.refl : BreakerLast u u := ⟨rfl, rfl, List.prefix_refl _, fun _ => rfl, id⟩

theorem BreakerLast.trans {t v : State} (h : BreakerLast u t) (h' : BreakerLast t v) : BreakerLast u v :=
  ⟨h'.feeders.trans h.feeders, h'.rect.trans h.rect, h.reports.trans h'.reports,
    fun k => (h'.tiePort k).trans (h.tiePort k), fun hc => h'.commanded (h.commanded hc)⟩

theorem BreakerLast.sq {t : State} (h : BreakerLast u t) (g : FeederId) : t.sq g = u.sq g :=
  sq_of_feeders h.feeders g

theorem BreakerLast.feeder {t : State} (h : BreakerLast u t) (g : FeederId) : t.feeder g = u.feeder g := by
  rw [State.feeder, h.feeders]; rfl

theorem BreakerLast.tieOffered {t : State} {k : Tie} {m : TieMsg} (h : BreakerLast u t) (hm : TieOffered u k m) :
    TieOffered t k m := by
  rw [TieOffered, h.tiePort k]; exact hm

theorem BreakerLast.submit {kind : ReportKind} {src : Source} {c : Option Cause} {v w : Option Int} :
    BreakerLast u (submit kind src c v w u) where
  feeders := submit_feeders ..
  rect := submit_rect ..
  reports := submit_reports_prefix ..
  tiePort _ := submit_port ..
  commanded hc := by simpa [Commanded] using hc

/-- A frame passed on takes a place on the station port alone (R16). -/
theorem statusPassedOn_eq (fr : RxFrame) (s u : State) : ∃ r, statusPassedOn fr s u = u.setPort .sp r := by
  unfold statusPassedOn
  split
  · exact ⟨_, offerForwarded_eq ..⟩
  · exact ⟨u.port .sp, by simp⟩

theorem BreakerLast.passedOn : BreakerLast u (statusPassedOn fr s u) := by
  obtain ⟨r, hr⟩ := statusPassedOn_eq fr s u
  rw [hr]
  exact ⟨rfl, rfl, List.prefix_refl _, fun k => by cases k <;> rfl, id⟩

/-- TEST_OPEN offered outside REPLAY takes a place on the field port alone (R13). -/
theorem BreakerLast.offerContactor (hm : u.mode ≠ .replay) :
    BreakerLast u (offerSeq (.testContactor f false) u) := by
  unfold offerSeq
  split
  · exact .refl
  · obtain ⟨r, hr⟩ := offerField_port_only (c := .testContactor f false) hm
    refine ⟨by rw [hr]; rfl, by rw [hr]; rfl, by rw [hr]; exact List.prefix_refl _, fun k => ?_, fun hc => ?_⟩
    · exact offerField_port_ne _ _ (by cases k <;> simp [Tie.port])
    · exact hc.offerField (by simp [sameClass])

/-- Outside TESTING a contactor CLOSED is reported, with TEST_OPEN offered (R93). -/
theorem confirmContactor_of_not_testing (hs : (u.sq f).state ≠ .testing) :
    confirmContactor f true u = reportUncommanded f 2 (offerSeq (.testContactor f false) u)
      ∧ confirmContactor f false u = u := by
  simp [confirmContactor, hs]

/-- A change of the contactor, where it changes no unit. -/
theorem BreakerLast.contactorChanged (hm : u.mode ≠ .replay) (hs : (u.sq f).state ≠ .testing)
    (pos : ContactorPos) : BreakerLast u (contactorChanged f pos u) := by
  obtain ⟨hclosed, hopen⟩ := confirmContactor_of_not_testing hs
  cases pos with
  | opened => rw [Machine.contactorChanged, hopen]; exact .refl
  | closed =>
    rw [Machine.contactorChanged, hclosed]
    exact (BreakerLast.offerContactor hm).trans .submit
  | disagree | unknown => exact .refl

theorem breakerStatus_of_change (hx : x.breaker ≠ (s.sq f).breaker) :
    breakerStatus f x (goodFrame .fp s) =
      if x.contactor = (s.sq f).contactor then breakerChanged f x.breaker (positionsTaken f x s)
      else contactorChanged f x.contactor (breakerChanged f x.breaker (positionsTaken f x s)) := by
  have hsq : (goodFrame .fp s).sq f = s.sq f := congrArg FeederUnit.sq (goodFrame_feeder ..)
  unfold breakerStatus
  dsimp only
  rw [hsq, if_neg hx]
  rfl

/-- A STATUS with a changed breaker position: the change is served first, and what is served after it leaves
the units, where the feeder is not in TESTING then or its test takes the contactor as it is (R74, R107; log
entry 23). -/
theorem breakerChange_last (hm : s.mode ≠ .replay) (hx : x.breaker ≠ (s.sq f).breaker)
    (hs : ((breakerChanged f x.breaker (positionsTaken f x s)).sq f).state ≠ .testing
      ∨ contactorChanged f x.contactor (breakerChanged f x.breaker (positionsTaken f x s))
        = breakerChanged f x.breaker (positionsTaken f x s)) :
    BreakerLast (breakerChanged f x.breaker (positionsTaken f x s))
      (statusPassedOn fr s (breakerStatus f x (goodFrame .fp s))) := by
  refine BreakerLast.trans ?_ .passedOn
  rw [breakerStatus_of_change hx]
  split
  · exact .refl
  obtain hs | hs := hs
  · exact .contactorChanged (by rw [mode_of_fixed (breakerChanged_fixed ..), positionsTaken_mode]; exact hm) hs _
  · rw [hs]; exact .refl

end

/-! Section messages that stand (R14, R156) -/

/-- A section message offered with room in the queue stands in it (R14). -/
theorem mem_offeredTie {m : TieMsg} {frame : Frame} {q : List Frame} (h : q.length < 24) :
    frame ∈ offeredTie m frame q := by
  unfold offeredTie
  split
  · next r hr =>
    obtain ⟨a, old, b, -, -, rfl⟩ := replaceFirst_eq_some hr
    simp
  · simp [Config.urgentCapacity, h]

theorem offerTie_stands {k : Tie} {m : TieMsg} {s : State} (h : (s.port k.port).urgent.length < 24) :
    TieOffered (offerTie k m s) k m := by
  rw [TieOffered, offerTie_eq, State.setPort_port_same]
  exact ⟨_, PortRec.arbitrate_stands (List.mem_append_left _ (mem_offeredTie h)), rfl⟩

theorem sendSection_stands {f : FeederId} {hold : Bool} {k : Tie} {s : State} (hm : s.mode ≠ .replay)
    (hk : (s.feeder f).section_.tie = some k) (h : (s.port k.port).urgent.length < 24) :
    TieOffered (sendSection f hold s) k
      (if hold then .sectionHold (BitVec.ofNat 8 (s.feeder f).section_.sectionId)
       else .sectionClear (BitVec.ofNat 8 (s.feeder f).section_.sectionId)) := by
  simp only [sendSection, sectionTie, hk, if_neg hm]
  exact offerTie_stands h

end Sys2Proof.Machine
end

section
/-! PROOF. The breaker's closing confirmed in CLOSING and taken over in OPEN, the contactor's flagged, and a
repeated STATUS (R74, R89, R90, R92 to R94, R97, R156). -/

namespace Sys2Proof.Machine

set_option Elab.async false

section

variable {f : FeederId} {r : FeederRec} {b c s t : State}

/-! CLOSED entered -/

/-- What an entry to CLOSED leaves, its flags not yet looked at: `r` is the record it is entered from. -/
structure ClosedEntered (f : FeederId) (r : FeederRec) (b c : State) : Prop where
  sq : c.sq f = r.entered b.mode .closed none
  others : ∀ e, e ≠ f → c.feeder e = b.feeder e
  fixed : c.fixed = b.fixed
  intake : (c.feeder f).intake = (b.feeder f).intake
  urgent : (c.port .fp).urgent = (b.port .fp).urgent
  reports : c.reports.length ≤ b.reports.length + 1

/-- CLOSED entered and reported from a record prepared for it. -/
def closedEntered (f : FeederId) (r : FeederRec) (kind : ReportKind) (v : Option Int) (b : State) : State :=
  submit kind (.feeder f) none v none (enterCore f .closed none (b.setSq f r))

theorem closedEntered_enters (f : FeederId) (r : FeederRec) (kind : ReportKind) (v : Option Int) (b : State) :
    ClosedEntered f r b (closedEntered f r kind v b) where
  sq := by simp [closedEntered, enterCore_sq]
  others e he := by
    rw [closedEntered, submit_feeder, enterCore_feeder_ne _ _ _ he, State.setSq_feeder_ne _ _ he]
  fixed := by simp [closedEntered]
  intake := by
    have hcore : ∀ a : State, ((enterCore f .closed none a).feeder f).intake = (a.feeder f).intake := fun a =>
      ((IntakeKept.refl.acts (UnitActs.refl.enterCore : UnitActs a (enterCore f .closed none a))) f).intake
    rw [closedEntered, submit_feeder, hcore]
    simp
  urgent := by
    rw [closedEntered, submit_port, State.port, enterCore_ports]; rfl
  reports := by
    refine (submit_adds_one ..).trans ?_
    rw [enterCore_reports]; rfl

theorem closedEntered_reported {kind : ReportKind} {v : Option Int} (h : b.reports.length < 64) :
    Reported (closedEntered f r kind v b) kind (.feeder f) none v none :=
  reported_submit kind (.feeder f) none v none (s := enterCore f .closed none (b.setSq f r))
    (by rw [enterCore_reports]; exact h)

/-- A section message after the entry reaches a tie port alone. -/
theorem ClosedEntered.sendSection {hold : Bool} (h : ClosedEntered f r b c) :
    ClosedEntered f r b (sendSection f hold c) := by
  obtain ⟨hfeeders, -, hreports⟩ := sendSection_beside f hold c
  have hfeeder : ∀ e, (Machine.sendSection f hold c).feeder e = c.feeder e := fun e => by
    rw [State.feeder, hfeeders]; rfl
  refine ⟨(sq_of_feeders hfeeders f).trans h.sq, fun e he => (hfeeder e).trans (h.others e he), ?_, ?_, ?_, ?_⟩
  · rw [sendSection_fixed]; exact h.fixed
  · rw [hfeeder]; exact h.intake
  · rw [← h.urgent]
    unfold Machine.sendSection
    split
    · rfl
    · next k _ =>
      split
      · rfl
      · rw [offerTie_eq]; cases k <;> rfl
  · rw [hreports]; exact h.reports

/-- The record from which a confirmed closing enters CLOSED (R89, R90). -/
def closingRecord (f : FeederId) (b : State) : FeederRec :=
  { b.sq f with closeTimer := none, reclaim := some ((b.feeder f).row.brk.tReclaim * 1000) }

/-- The record from which a feeder in OPEN is taken over (R92; log entry 42). -/
def takeOverRecord (f : FeederId) (b : State) : FeederRec := { b.sq f with reclaim := none, shotCount := 0 }

theorem closingConfirmed_eq (hs : (b.sq f).state = .closing) :
    closingConfirmed f b =
      closedFlags f (sendSection f false (closedEntered f (closingRecord f b) .breakerClosed none b)) := by
  rw [closingConfirmed, enterState_of_not_testing (by simp [hs])]
  rfl

theorem enterClosedComplete_eq (hs : (b.sq f).state = .opened) :
    enterClosedComplete f b = enterCore f .closed none (b.setSq f (takeOverRecord f b)) :=
  enterState_of_not_testing (by simp [hs])

theorem takeOver_eq (hs : (b.sq f).state = .opened) :
    takeOver f b =
      closedFlags f (closedEntered f (takeOverRecord f b) .uncommandedClose (some 1) b) := by
  rw [takeOver, enterClosedComplete_eq hs]
  rfl

/-! The flags on entry to CLOSED (R94) -/

theorem startTrip_others {req : TripRequest} (hs : (b.sq f).state ≠ .testing) (hi : req.primary.inter = none) :
    ∀ e, e ≠ f → (startTrip f req b).feeder e = b.feeder e := fun e he => by
  obtain ⟨hfeeders, -⟩ := startTrip_beside hs hi
  obtain ⟨hothers, -⟩ := tripEntered_beside f req b
  rw [State.feeder, hfeeders]
  exact hothers e he

/-- Whatever the flags do, no other feeder is reached, and no test is started. -/
theorem closedFlags_leaves (hm : c.mode ≠ .shadow) (hs : (c.sq f).state = .closed) :
    (∀ e, e ≠ f → (closedFlags f c).feeder e = c.feeder e)
      ∧ ((closedFlags f c).sq f).state ≠ .testing := by
  by_cases htrips : ((c.sq f).blind = true ∨ (c.sq f).frozen = true) ∧ (c.feeder f).row.brk.blindAction = .trip
  · rw [closedFlags_of_trip hm hs htrips.2 htrips.1]
    refine ⟨startTrip_others (by simp [hs]) (singleTrip_inter ..), ?_⟩
    rw [startTrip_sq (by simp [hs]) (singleTrip_inter ..)]
    simp [FeederRec.tripped]
  · rw [closedFlags_of_quiet hs fun hflags => ?_]
    · exact ⟨fun _ _ => rfl, by simp [hs]⟩
    · cases ha : (c.feeder f).row.brk.blindAction with
      | alarm => rfl
      | trip => exact absurd ⟨hflags, ha⟩ htrips

theorem ClosedEntered.closed (h : ClosedEntered f r b c) : (c.sq f).state = .closed := by rw [h.sq]; rfl

theorem ClosedEntered.tripLine (h : ClosedEntered f r b c) : (c.sq f).tripLine = false := by
  rw [h.sq, FeederRec.entered_tripLine]
  simp [tripLevel]

theorem ClosedEntered.row (h : ClosedEntered f r b c) : (c.feeder f).row = (b.feeder f).row :=
  (settings_of_fixed h.fixed f).1

/-- With no flag set, or under ALARM, the feeder stays CLOSED (R94). -/
theorem ClosedEntered.stays (h : ClosedEntered f r b c)
    (hq : r.blind = true ∨ r.frozen = true → (b.feeder f).row.brk.blindAction = .alarm) : closedFlags f c = c :=
  closedFlags_of_quiet h.closed fun hflags => by
    rw [h.row]
    rw [h.sq] at hflags
    exact hq hflags

/-- In SERVICE a flag set trips it under TRIP, BLIND before FROZEN (R94; log entry 49). -/
theorem ClosedEntered.trips (h : ClosedEntered f r b c) (hm : b.mode = .service)
    (ha : (b.feeder f).row.brk.blindAction = .trip) (hflags : r.blind = true ∨ r.frozen = true) :
    let t := closedFlags f c
    t.sq f = ((r.entered .service .closed none).entered .service .tripping none).tripped
        (singleTrip c f (flagCause r.blind)) r.sotf.isSome ((b.feeder f).row.brk.tOpenMax * 1000)
      ∧ (b.reports.length < 63 →
          Reported t .trip (.feeder f) (some (if r.blind = true then .blind else .frozen))
            ((b.feeder f).intake.lastAccepted.map Prod.fst) none)
      ∧ ((findNode b .breaker (some f)).isSome = true → (b.port .fp).urgent.length < 24 →
          Commanded t (.breaker f .trip)) := by
  have hcm : c.mode = .service := (mode_of_fixed h.fixed).trans hm
  have hsq := h.sq
  rw [hm] at hsq
  have hblind : (c.sq f).blind = r.blind := by rw [hsq]; rfl
  have htrip := closedFlags_of_trip (f := f) (s := c) (by simp [hcm]) h.closed
    (by rw [h.row]; exact ha) (by rw [hsq]; exact hflags)
  rw [hblind] at htrip
  have hnot : (c.sq f).state ≠ .testing := by simp [h.closed]
  have hinter := singleTrip_inter c f r.blind
  obtain ⟨-, -, hports, hreported⟩ := startTrip_beside hnot hinter
  dsimp only
  rw [htrip]
  refine ⟨?_, fun hroom => ?_, fun hnode hroom => ?_⟩
  · rw [startTrip_sq hnot hinter, hcm, hsq, h.row]
    rfl
  · have hi : lastCurrent c f = (b.feeder f).intake.lastAccepted.map Prod.fst := by rw [lastCurrent, h.intake]
    have hcause : (singleTrip c f (flagCause r.blind)).primary.cause = if r.blind = true then .blind else .frozen := by
      cases r.blind <;> rfl
    have hvalue : (singleTrip c f (flagCause r.blind)).value2 = none := by cases r.blind <;> rfl
    have htripped := hreported (lt_of_le_of_lt h.reports (by omega))
    rw [hcause, hvalue] at htripped
    rw [← hi]
    exact htripped
  · rw [Commanded, State.port, hports]
    refine tripEntered_commanded hcm ?_ ?_
    · rw [findNode_of_fixed h.fixed]; exact hnode
    · rw [h.urgent]; exact hroom

/-! The confirmations -/

/-- A closing confirmed: CLOSED from `closingRecord`, its report and its section message (R89, R90, R156). -/
theorem closingConfirmed_leaves (hs : (b.sq f).state = .closing) (hm : b.mode ≠ .replay) :
    ∃ c, closingConfirmed f b = closedFlags f c ∧ ClosedEntered f (closingRecord f b) b c
      ∧ (b.reports.length < 64 → Reported c .breakerClosed (.feeder f) none none none)
      ∧ (∀ k : Tie, (b.feeder f).section_.tie = some k → (b.port k.port).urgent.length < 24 →
          TieOffered c k (.sectionClear (BitVec.ofNat 8 (b.feeder f).section_.sectionId))) := by
  have hentered := closedEntered_enters f (closingRecord f b) .breakerClosed none b
  refine ⟨_, closingConfirmed_eq hs, hentered.sendSection, fun hroom => ?_, fun k hk hroom => ?_⟩
  · obtain ⟨-, -, hreports⟩ :=
      sendSection_beside f false (closedEntered f (closingRecord f b) .breakerClosed none b)
    exact (closedEntered_reported hroom).mono (by rw [hreports])
  · obtain ⟨-, -, hsection⟩ := settings_of_fixed hentered.fixed f
    have hsent := sendSection_stands (f := f) (hold := false) (k := k)
      (s := closedEntered f (closingRecord f b) .breakerClosed none b)
      (by rw [mode_of_fixed hentered.fixed]; exact hm) (by rw [hsection]; exact hk)
      (by rw [closedEntered, submit_port, State.port, enterCore_ports]; exact hroom)
    rw [hsection] at hsent
    exact hsent

/-- A feeder in OPEN taken over, with its report (R92). -/
theorem takeOver_leaves (hs : (b.sq f).state = .opened) :
    ∃ c, takeOver f b = closedFlags f c ∧ ClosedEntered f (takeOverRecord f b) b c
      ∧ (b.reports.length < 64 → Reported c .uncommandedClose (.feeder f) none (some 1) none) :=
  ⟨_, takeOver_eq hs, closedEntered_enters .., closedEntered_reported⟩

/-- The mirror of a closing in SHADOW (R97). -/
theorem mirrorClosed_leaves (hs : (b.sq f).state = .opened) :
    ∃ c, submit .breakerClosed (.feeder f) none none none (enterClosedComplete f b) = c
      ∧ ClosedEntered f (takeOverRecord f b) b c
      ∧ (b.reports.length < 64 → Reported c .breakerClosed (.feeder f) none none none) := by
  refine ⟨closedEntered f (takeOverRecord f b) .breakerClosed none b, ?_, closedEntered_enters ..,
    closedEntered_reported⟩
  rw [enterClosedComplete_eq hs]
  rfl

end
end Sys2Proof.Machine
end

section
/-! PROOF. How many records and commands the end of a test can add, and the trip of an uncommanded closing (R83,
R92, R106, R115, R132, R133). -/

namespace Sys2Proof.Machine

set_option Elab.async false

/-- From `s` to `t` the report queue grows by at most `n` records and the field port's URGENT queue by at most
`k` frames. -/
structure Grows (n k : Nat) (s t : State) : Prop where
  reports : t.reports.length ≤ s.reports.length + n
  urgent : (t.port .fp).urgent.length ≤ (s.port .fp).urgent.length + k

namespace Grows

variable {n k m l : Nat} {s t u : State} {f : FeederId} {c : FieldCommand}

theorem refl : Grows 0 0 s s := ⟨le_refl _, le_refl _⟩

theorem trans (h : Grows n k s t) (h' : Grows m l t u) : Grows (n + m) (k + l) s u :=
  ⟨by have := h.reports; have := h'.reports; omega, by have := h.urgent; have := h'.urgent; omega⟩

theorem mono (h : Grows n k s t) (hn : n ≤ m := by decide) (hk : k ≤ l := by decide) : Grows m l s t :=
  ⟨h.reports.trans (by omega), h.urgent.trans (by omega)⟩

theorem ite {cond : Prop} {dec : Decidable cond} (ht : Grows n k s t) (hu : Grows n k s u) :
    Grows n k s (if cond then t else u) := by split <;> assumption

/-- A step that reaches neither queue. -/
theorem still (h : Grows n k s t) (hr : u.reports = t.reports := by rfl) (hp : u.ports = t.ports := by rfl) :
    Grows n k s u :=
  ⟨by rw [hr]; exact h.reports, by rw [State.port, hp]; exact h.urgent⟩

theorem setSq {r : FeederRec} (h : Grows n k s t) : Grows n k s (t.setSq f r) := h.still

theorem setRect {r : RectRec} (h : Grows n k s t) : Grows n k s (t.setRect r) := h.still

theorem submit {kind : ReportKind} {src : Source} {x : Option Cause} {v w : Option Int} (h : Grows n k s t) :
    Grows (n + 1) k s (submit kind src x v w t) :=
  ⟨(submit_adds_one ..).trans (by have := h.reports; omega), by rw [submit_port]; exact h.urgent⟩

theorem offeredCommand_length_le_succ {frame : Frame} {q : List Frame} :
    (offeredCommand c frame q).length ≤ q.length + 1 := by
  unfold offeredCommand
  split
  · next r hr => rw [replaceFirst_length hr]; exact Nat.le_succ _
  · split
    · simp
    · exact Nat.le_succ _

/-- A command offered takes at most one place (R13). -/
theorem offerField (h : Grows n k s t) : Grows n (k + 1) s (offerField c t) := by
  refine ⟨by rw [offerField_reports]; exact h.reports, ?_⟩
  suffices hone : ((Machine.offerField c t).port .fp).urgent.length ≤ (t.port .fp).urgent.length + 1 by
    have := h.urgent; omega
  by_cases hm : t.mode = .replay
  · rw [offerField_replay hm]; cases c <;> exact Nat.le_succ _
  · simp only [Machine.offerField, if_neg hm]
    split
    · rw [offerCommandFrame_eq, State.setPort_port_same]
      exact (PortRec.arbitrate_urgent_sublist _).length_le.trans offeredCommand_length_le_succ
    · exact Nat.le_succ _

theorem offerSeq (h : Grows n k s t) : Grows n (k + 1) s (offerSeq c t) := ite (h.mono le_rfl (by omega)) h.offerField

theorem offerRect {force : Bool} (h : Grows n k s t) : Grows n (k + 1) s (offerRect force c t) :=
  ite (h.mono le_rfl (by omega)) h.offerField

theorem enterCore {new : FeederState} {cause : Option LockoutCause} (h : Grows n k s t) :
    Grows n k s (enterCore f new cause t) := h.still (by simp) (by simp)

theorem enterPhase {ph : Phase} {timer : Timer} (h : Grows n k s t) : Grows (n + 1) k s (enterPhase f ph timer t) := by
  have hentered : Grows n k s (if (t.sq f).state = .deadTime then t else Machine.enterCore f .deadTime none t) :=
    ite h h.enterCore
  exact ite (hentered.setSq.mono (by omega) le_rfl) hentered.setSq.submit

theorem giveShotBack (h : Grows n k s t) : Grows n k s (giveShotBack f t) := h.still (by simp) (by simp)

theorem returnAfterFlag (h : Grows n k s t) : Grows (n + 1) k s (returnAfterFlag f t) := by
  unfold Machine.returnAfterFlag
  dsimp only
  split
  · exact h.giveShotBack.enterPhase
  split <;> exact h.enterPhase

theorem enterTesting {kind : TestKind} {origin : Option TestOrigin} (h : Grows n k s t) :
    Grows (n + 1) k s (enterTesting f kind origin t) := h.enterCore.setSq.submit

theorem abortEffects {reason : AbortReason} {uAvg ubAvg : Option Nat} (h : Grows n k s t) :
    Grows (n + 1) (k + 1) s (abortEffects f reason uAvg ubAvg t) :=
  (ite h.setSq.offerSeq (h.setSq.mono le_rfl (by omega))).setSq.submit

theorem beginContactorCheck (h : Grows n k s t) : Grows n (k + 1) s (beginContactorCheck f t) :=
  ite (h.setSq.mono le_rfl (by omega)) h.offerSeq.setSq

/-! The group -/

theorem startLatched_of_none (h : s.rect.latched.get f = false) : startLatched f s = s := by
  simp [Machine.startLatched, h]

theorem startLatched (h : Grows n k s t) : Grows (n + 3) (k + 1) s (startLatched f t) := by
  have hstart : Grows (n + 1) k s (Machine.enterTesting f .auto (t.sq f).test.origin
      ((Machine.addTester f (Machine.withdrawLatched f t)).setSq f { t.sq f with pendingTest := false })) :=
    (h.setRect.setRect.setSq).enterTesting
  exact ite (ite hstart.abortEffects.setRect.returnAfterFlag (hstart.beginContactorCheck.mono (by omega) le_rfl))
    (h.mono (by omega) (by omega))

/-- The latched tests of the feeders in a list that are not `f`, which has none, start in turn. -/
theorem startLatched_list (h : t.rect.latched.get f = false) (fs : List FeederId) :
    Grows (3 * (fs.filter (· ≠ f)).length) (fs.filter (· ≠ f)).length t
      (fs.foldl (fun st e => Machine.startLatched e st) t) := by
  induction fs generalizing t with
  | nil => exact refl
  | cons e fs ih =>
    by_cases he : e = f
    · subst he
      rw [List.foldl_cons, startLatched_of_none h]
      simpa using ih h
    · have hothers : OthersKept (· = f) t (Machine.startLatched e t) := OthersKept.refl.startLatched_others he
      obtain ⟨hl, -⟩ := hothers.kept f rfl h
      have hstep := ((refl (s := t)).startLatched (f := e)).trans (ih hl)
      rw [List.foldl_cons, List.filter_cons_of_pos (by simpa using he), List.length_cons]
      exact hstep.mono (by omega) (by omega)

theorem startAllLatched (hl : t.rect.latched.get f = false) : Grows 21 7 t (startAllLatched t) := by
  have hcount : (FeederId.all.filter (· ≠ f)).length = 7 := by cases f <;> rfl
  have h := startLatched_list hl FeederId.all
  rw [hcount] at h
  exact h

theorem rectMove {new : RectState} {cause : RectCause} (h : Grows n k s t) :
    Grows (n + 1) (k + 1) s (rectMove new cause t) := by
  have hentered : Grows n k s (t.setRect (t.rect.entered new cause)) := h.setRect
  exact (ite (hentered.still.offerRect) (hentered.mono le_rfl (by omega))).submit

theorem probeEnd (hl : t.rect.latched.get f = false) : Grows 22 8 t (probeEnd t) := by
  have hmove : ∀ new cause, Grows 1 1 t (Machine.rectMove new cause t) := fun _ _ => refl.rectMove
  refine ite ?_ ?_
  · have hl' : (Machine.rectMove .running .none t).rect.latched.get f = false := by
      rw [rectMove_rect]; exact hl
    exact ((hmove .running .none).trans (startAllLatched hl')).mono
  · cases t.rect.probeTarget with
    | hold => exact (hmove .hold .rest).mono
    | parked => exact ((hmove .parked .rest).offerRect (c := .acBreaker false)).setRect.mono

theorem leaveTesting (hl : t.rect.latched.get f = false) : Grows 22 8 t (leaveTesting f t) := by
  have hdrop : Grows 0 0 t (dropTester f t) := refl.setRect
  have hend : Grows 22 8 t (Machine.probeEnd (dropTester f t)) := (hdrop.trans (probeEnd (f := f) hl)).mono
  exact ite (ite hend hdrop.mono) refl.mono

theorem abortForGood {reason : AbortReason} (hl : t.rect.latched.get f = false) :
    Grows 23 9 t (abortForGood f reason t) :=
  ((refl (s := t)).abortEffects.trans (leaveTesting (by simpa using hl))).giveShotBack

end Grows

section

variable {f : FeederId} {req : TripRequest} {b s : State}

/-! A trip from TESTING -/

/-- What a trip is entered from: TESTING is left first (R83, R107). -/
def testLeft (f : FeederId) (s : State) : State := if (s.sq f).state = .testing then leaveTesting f s else s

theorem testLeft_fixed (f : FeederId) (s : State) : (testLeft f s).fixed = s.fixed := by
  unfold testLeft; split <;> simp

theorem testLeft_of_no_tester (h : s.rect.testers.get f = false) : testLeft f s = s := by
  rw [testLeft, leaveTesting_of_no_tester h, ite_self]

theorem testLeft_sq (hl : (s.sq f).state = .testing → s.rect.latched.get f = false) :
    (testLeft f s).sq f = s.sq f
      ∧ (s.rect.latched.get f = false → (testLeft f s).rect.latched.get f = false)
      ∧ ((s.sq f).state = .testing → (testLeft f s).rect.testers.get f = false) := by
  by_cases hs : (s.sq f).state = .testing
  · obtain ⟨hlatched, hsq⟩ := leaveTesting_sq (hl hs)
    rw [testLeft, if_pos hs]
    exact ⟨hsq, fun _ => hlatched, fun _ => leaveTesting_testers (hl hs)⟩
  · rw [testLeft, if_neg hs]
    exact ⟨rfl, id, fun h => absurd h hs⟩

/-- A trip that intertrips nothing, from any state: its entry, its report and its capture (R83). -/
theorem startTrip_eq_left (hl : (s.sq f).state = .testing → s.rect.latched.get f = false)
    (hinter : req.primary.inter = none) :
    startTrip f req s =
      if (s.feeder f).row.brk.capture then
        trigger f .trip
          (submit .trip (.feeder f) (some req.primary.cause) req.i req.value2 (tripEntered f req (testLeft f s)))
      else
        submit .trip (.feeder f) (some req.primary.cause) req.i req.value2 (tripEntered f req (testLeft f s)) := by
  obtain ⟨hsq, -⟩ := testLeft_sq hl
  have hrow : ((testLeft f s).feeder f).row = (s.feeder f).row := (settings_of_fixed (testLeft_fixed f s) f).1
  have hentered : enterState f .tripping none s = enterCore f .tripping none (testLeft f s) := by
    simp [enterState, testLeft]
  unfold startTrip tripEntered
  rw [hentered, hsq, hrow]
  simp only [hinter]

theorem startTrip_beside_left (hl : (s.sq f).state = .testing → s.rect.latched.get f = false)
    (hinter : req.primary.inter = none) :
    (startTrip f req s).feeders = (tripEntered f req (testLeft f s)).feeders
      ∧ (startTrip f req s).rect = (tripEntered f req (testLeft f s)).rect
      ∧ (startTrip f req s).ports = (tripEntered f req (testLeft f s)).ports
      ∧ ((testLeft f s).reports.length < 64 →
          Reported (startTrip f req s) .trip (.feeder f) (some req.primary.cause) req.i req.value2) := by
  obtain ⟨-, -, hreports⟩ := tripEntered_beside f req (testLeft f s)
  obtain ⟨hfeeders, hrect, hports, hprefix⟩ := trigger_beside f .trip
    (submit .trip (.feeder f) (some req.primary.cause) req.i req.value2 (tripEntered f req (testLeft f s)))
  have hreported : (testLeft f s).reports.length < 64 → _ := fun h =>
    reported_submit .trip (.feeder f) (some req.primary.cause) req.i req.value2 (hreports ▸ h)
  rw [startTrip_eq_left hl hinter]
  split
  · exact ⟨hfeeders.trans (submit_feeders ..), hrect.trans (submit_rect ..),
      hports.trans (submit_ports ..), fun h => (hreported h).mono hprefix⟩
  · exact ⟨submit_feeders .., submit_rect .., submit_ports .., hreported⟩

/-- The feeder, the group and the command after such a trip. -/
theorem startTrip_leaves (hl : (s.sq f).state = .testing → s.rect.latched.get f = false)
    (hp : s.rect.latched.get f = (s.sq f).pendingTest) (hinter : req.primary.inter = none) :
    let t := startTrip f req s
    t.sq f = ((s.sq f).entered s.mode .tripping none).tripped req (s.sq f).sotf.isSome
        ((s.feeder f).row.brk.tOpenMax * 1000)
      ∧ t.rect.latched.get f = false
      ∧ ((s.sq f).state = .testing → t.rect.testers.get f = false)
      ∧ ((testLeft f s).reports.length < 64 →
          Reported t .trip (.feeder f) (some req.primary.cause) req.i req.value2)
      ∧ (s.mode = .service → (findNode s .breaker (some f)).isSome = true →
          ((testLeft f s).port .fp).urgent.length < 24 → Commanded t (.breaker f .trip)) := by
  obtain ⟨hfeeders, hrect, hports, hreported⟩ := startTrip_beside_left hl hinter
  obtain ⟨hsq, hlatched, htesters⟩ := testLeft_sq hl
  have hfixed := testLeft_fixed f s
  have hrow : ((testLeft f s).feeder f).row = (s.feeder f).row := (settings_of_fixed hfixed f).1
  have hgroup : (tripEntered f req (testLeft f s)).rect = (enterCore f .tripping none (testLeft f s)).rect := by
    rw [tripEntered, State.setSq_rect, offerSeq_rect]
  refine ⟨?_, ?_, fun ht => ?_, hreported, fun hm hnode hroom => ?_⟩
  · rw [sq_of_feeders hfeeders, tripEntered_sq, hsq, hrow, mode_of_fixed hfixed]
  · rw [hrect, hgroup]
    cases hpend : (s.sq f).pendingTest with
    | true => rw [enterCore_rect, hsq, if_pos ⟨hpend, by simp⟩]; simp
    | false => exact enterCore_unlatched (hlatched (hp.trans hpend))
  · rw [hrect, hgroup, enterCore_testers]
    exact htesters ht
  · rw [Commanded, State.port, hports]
    refine tripEntered_commanded ((mode_of_fixed hfixed).trans hm) ?_ hroom
    rw [findNode_of_fixed hfixed]
    exact hnode

/-! The trip of an uncommanded closing (R92) -/

/-- What an uncommanded closing is tripped from: a test in progress is first aborted, its shot given back. -/
def uncommandedFrom (f : FeederId) (s : State) : State :=
  if (s.sq f).state = .testing ∧ (s.sq f).openRequested = false then abortForGood f .uncommandedClose s else s

theorem uncommandedTrip_eq (f : FeederId) (s : State) :
    uncommandedTrip f s = startTrip f (singleTrip s f .uncommandedClose) (uncommandedFrom f s) := rfl

/-- The record of a test ended as an abort (R115). -/
theorem uncommandedFrom_of_test (hl : s.rect.latched.get f = false) (hs : (s.sq f).state = .testing)
    (ho : (s.sq f).openRequested = false) :
    uncommandedFrom f s = abortForGood f .uncommandedClose s
      ∧ ((uncommandedFrom f s).sq f).test.last =
          some { outcome := .aborted .uncommandedClose, r := none, uAvg := none, ubAvg := none }
      ∧ ((uncommandedFrom f s).sq f).shotCount =
          (if (s.sq f).shotTaken = true then (s.sq f).shotCount - 1 else (s.sq f).shotCount) := by
  have heq : uncommandedFrom f s = abortForGood f .uncommandedClose s := if_pos ⟨hs, ho⟩
  obtain ⟨-, hsq⟩ := abortForGood_sq (reason := .uncommandedClose) hl
  rw [heq, hsq]
  cases (s.sq f).shotTaken <;> exact ⟨rfl, rfl, rfl⟩

theorem uncommandedFrom_of_none (h : ¬ ((s.sq f).state = .testing ∧ (s.sq f).openRequested = false)) :
    uncommandedFrom f s = s := if_neg h

/-- The state, the timers and the pending test are as the closing found them, and the queues have grown by what
a test's end can add. -/
theorem uncommandedFrom_keeps (hl : (s.sq f).state = .testing → s.rect.latched.get f = false) :
    let a := uncommandedFrom f s
    (a.sq f).state = (s.sq f).state ∧ (a.sq f).pendingTest = (s.sq f).pendingTest
      ∧ a.fixed = s.fixed ∧ ((s.sq f).state = .testing → a.rect.latched.get f = false)
      ∧ ((s.sq f).state ≠ .testing → a.rect = s.rect)
      ∧ Grows 23 9 s (testLeft f a) := by
  by_cases h : (s.sq f).state = .testing ∧ (s.sq f).openRequested = false
  · have hlatched := hl h.1
    obtain ⟨hl', hsq⟩ := abortForGood_sq (reason := .uncommandedClose) hlatched
    dsimp only
    rw [show uncommandedFrom f s = abortForGood f .uncommandedClose s from if_pos h]
    refine ⟨?_, ?_, abortForGood_fixed .., fun _ => hl', fun hn => absurd h.1 hn, ?_⟩
    · rw [hsq]; split <;> rfl
    · rw [hsq]; split <;> rfl
    · rw [testLeft_of_no_tester (abortForGood_testers hlatched)]
      exact Grows.abortForGood hlatched
  · dsimp only
    rw [uncommandedFrom_of_none h]
    refine ⟨rfl, rfl, rfl, hl, fun _ => rfl, ?_⟩
    unfold testLeft
    split
    · next ht => exact (Grows.leaveTesting (hl ht)).mono
    · exact Grows.refl.mono

/-- An uncommanded closing trips the feeder, whatever its test has come to (R83, R92, R115). -/
theorem uncommandedTrip_leaves (hp : s.rect.latched.get f = (s.sq f).pendingTest)
    (ht : (s.sq f).state = .testing → (s.sq f).pendingTest = false) (hm : s.mode = .service) :
    let t := uncommandedTrip f s
    let r' := t.sq f
    (r'.state = .tripping ∧ r'.tripLine = true ∧ r'.primary = some .uncommandedClose
      ∧ r'.tripCauses = { TripCauses.empty with uncommandedClose := true }
      ∧ r'.openTimer = some ((s.feeder f).row.brk.tOpenMax * 1000) ∧ r'.closeTimer = none
      ∧ r'.dead = none ∧ r'.phase = none ∧ r'.pendingTest = false ∧ t.rect.latched.get f = false)
      ∧ (s.reports.length < 41 →
          Reported t .trip (.feeder f) (some .uncommandedClose) (lastCurrent s f) none)
      ∧ ((findNode s .breaker (some f)).isSome = true → (s.port .fp).urgent.length < 15 →
          Commanded t (.breaker f .trip))
      ∧ ((s.sq f).state = .testing → (s.sq f).openRequested = false →
          r'.test.last =
              some { outcome := .aborted .uncommandedClose, r := none, uAvg := none, ubAvg := none }
            ∧ (s.reports.length < 64 →
                Reported t .lineTest (.feeder f) (some .uncommandedClose) none none)
            ∧ t.rect.testers.get f = false
            ∧ r'.shotCount = (if (s.sq f).shotTaken = true then (s.sq f).shotCount - 1 else (s.sq f).shotCount)) := by
  have hl : (s.sq f).state = .testing → s.rect.latched.get f = false := fun h => hp.trans (ht h)
  obtain ⟨hstate, hpend, hfixed, hlatched, hrect, hgrows⟩ := uncommandedFrom_keeps hl
  have hfrom : (uncommandedFrom f s).rect.latched.get f = ((uncommandedFrom f s).sq f).pendingTest := by
    rw [hpend]
    by_cases h : (s.sq f).state = .testing
    · rw [hlatched h, ht h]
    · rw [hrect h, hp]
  obtain ⟨hsq, hleft, htesters, hreported, hcommanded⟩ := startTrip_leaves (f := f) (s := uncommandedFrom f s)
    (req := singleTrip s f .uncommandedClose) (fun h => hlatched (hstate ▸ h)) hfrom rfl
  have hreports := hgrows.reports
  have hurgent := hgrows.urgent
  have hrow : ((uncommandedFrom f s).feeder f).row = (s.feeder f).row := (settings_of_fixed hfixed f).1
  have hmode : (uncommandedFrom f s).mode = .service := (mode_of_fixed hfixed).trans hm
  dsimp only
  rw [uncommandedTrip_eq, hsq, hrow, hmode]
  refine ⟨⟨rfl, rfl, rfl, rfl, rfl, rfl, rfl, rfl, rfl, hleft⟩, fun hroom => hreported (by omega),
    fun hnode hroom => hcommanded hmode ?_ (by omega), fun hs ho => ?_⟩
  · rw [findNode_of_fixed hfixed]; exact hnode
  · obtain ⟨heq, hlast, hcount⟩ := uncommandedFrom_of_test (hl hs) hs ho
    refine ⟨hlast, fun hroom => ?_, htesters (hstate.trans hs), hcount⟩
    have hacts : UnitActs (abortEffects f .uncommandedClose none none s)
        (startTrip f (singleTrip s f .uncommandedClose) (uncommandedFrom f s)) := by
      rw [heq]
      exact UnitActs.refl.leaveTesting.giveShotBack.startTrip
    exact (abortEffects_reported hroom).mono hacts.reports

end
end Sys2Proof.Machine
end

section
/-! PROOF. A confirmation of breaker CLOSED in each state, and the contactor's (R74, R89, R90, R92 to R94, R97,
R115, R156). -/

namespace Sys2Proof.Machine

set_option Elab.async false

section

variable {f : FeederId} {b : State}

/-! The confirmation, by state -/

theorem confirmClosed_of_opened_service (hs : (b.sq f).state = .opened) (hm : b.mode = .service) :
    confirmClosed f b = takeOver f b := by simp [confirmClosed, hs, hm]

theorem confirmClosed_of_opened_config (hs : (b.sq f).state = .opened) (hm : b.mode = .config) :
    confirmClosed f b = startTrip f (singleTrip b f .uncommandedClose) b := by
  simp [confirmClosed, hs, hm, uncommandedTrip]

theorem confirmClosed_of_opened_shadow (hs : (b.sq f).state = .opened) (hm : b.mode = .shadow) :
    confirmClosed f b = submit .breakerClosed (.feeder f) none none none (enterClosedComplete f b) := by
  simp [confirmClosed, hs, hm]

/-- In SERVICE it trips a feeder in DEAD_TIME, in TESTING and in a LOCKOUT for another cause than a breaker
failure (R92). -/
theorem confirmClosed_trips (hm : b.mode = .service)
    (hs : (b.sq f).state = .deadTime ∨ (b.sq f).state = .testing
      ∨ ((b.sq f).state = .lockout ∧ (b.sq f).lockoutCause ≠ some .breakerFailure)) :
    confirmClosed f b = uncommandedTrip f b := by
  obtain h | h | ⟨h, hc⟩ := hs
  · simp [confirmClosed, h, hm]
  · simp [confirmClosed, h, hm]
  · simp [confirmClosed, h, hm, hc]

/-- In OUT, in a BREAKER_FAILURE lockout, and in any LOCKOUT in SHADOW, it is reported alone (R92). -/
theorem confirmClosed_reports
    (hs : (b.sq f).state = .out
      ∨ ((b.sq f).state = .lockout ∧ ((b.sq f).lockoutCause = some .breakerFailure ∨ b.mode = .shadow))) :
    confirmClosed f b = reportUncommanded f 1 b := by
  obtain h | ⟨h, hc⟩ := hs
  · simp [confirmClosed, h]
  · simp only [confirmClosed, h, if_pos hc]

end

/-- A confirmation of CLOSED in OPEN leaves no other feeder changed, and starts no test (R92, R97). -/
theorem confirmClosed_of_opened {f : FeederId} {b : State} (hs : (b.sq f).state = .opened) (hm : b.mode ≠ .replay) :
    (∀ e, e ≠ f → (confirmClosed f b).feeder e = b.feeder e)
      ∧ ((confirmClosed f b).sq f).state ≠ .testing := by
  cases hmode : b.mode with
  | service =>
    obtain ⟨c, heq, hentered, -⟩ := takeOver_leaves hs
    obtain ⟨hothers, hstate⟩ := closedFlags_leaves (by rw [mode_of_fixed hentered.fixed, hmode]; simp) hentered.closed
    rw [confirmClosed_of_opened_service hs hmode, heq]
    exact ⟨fun e he => (hothers e he).trans (hentered.others e he), hstate⟩
  | config =>
    rw [confirmClosed_of_opened_config hs hmode]
    refine ⟨startTrip_others (by simp [hs]) rfl, ?_⟩
    rw [startTrip_sq (by simp [hs]) rfl]
    simp [FeederRec.tripped]
  | shadow =>
    obtain ⟨c, heq, hentered, -⟩ := mirrorClosed_leaves hs
    rw [confirmClosed_of_opened_shadow hs hmode, heq]
    exact ⟨hentered.others, by simp [hentered.closed]⟩
  | replay => exact absurd hmode hm

/-- A confirmation of breaker CLOSED that leaves the feeder out of TESTING is all that the STATUS does to the
units (R74). -/
theorem confirmClosed_last {f : FeederId} {fr : RxFrame} {x : BreakerStatus} {s : State} (hm : s.mode ≠ .replay)
    (hclosed : x.breaker = .closed) (hnot : (s.sq f).breaker ≠ .closed)
    (hs : ((confirmClosed f (positionsTaken f x s)).sq f).state ≠ .testing) :
    BreakerLast (confirmClosed f (positionsTaken f x s))
      (statusPassedOn fr s (breakerStatus f x (goodFrame .fp s))) := by
  have hchanged : breakerChanged f x.breaker (positionsTaken f x s) = confirmClosed f (positionsTaken f x s) := by
    rw [hclosed, breakerChanged]
  rw [← hchanged] at hs ⊢
  exact breakerChange_last hm (by rw [hclosed]; exact hnot.symm) (.inl hs)

theorem TakesStatus.mode_ne {f : FeederId} {bytes : List Byte} {fr : RxFrame} {x : BreakerStatus} {s : State}
    (h : TakesStatus f bytes fr x s) : s.mode ≠ .replay := by
  obtain ⟨⟨-, -, -, -, hm⟩, -⟩ := h
  exact hm

section

variable {f : FeederId} {bytes : List Byte} {fr : RxFrame} {x : BreakerStatus} {s : State}

/-- The state after a STATUS of the breaker unit. -/
abbrev afterStatus (f : FeederId) (fr : RxFrame) (x : BreakerStatus) (s : State) : State :=
  statusPassedOn fr s (breakerStatus f x (goodFrame .fp s))

/-- A STATUS that repeats the positions replaces the spring field alone (R74). -/
theorem afterStatus_of_repeat (hbreaker : x.breaker = (s.sq f).breaker)
    (hcontactor : x.contactor = (s.sq f).contactor) :
    breakerStatus f x (goodFrame .fp s) = (goodFrame .fp s).setSq f { s.sq f with spring := x.spring } := by
  have hsq : (goodFrame .fp s).sq f = s.sq f := congrArg FeederUnit.sq (goodFrame_feeder ..)
  simp only [breakerStatus, hsq, hbreaker, hcontactor, if_true]

/-- One that changes the contactor alone flags it, where the feeder is not in TESTING (R93). -/
theorem afterStatus_of_contactor (hbreaker : x.breaker = (s.sq f).breaker) (hclosed : x.contactor = .closed)
    (hnot : (s.sq f).contactor ≠ .closed) (hs : (s.sq f).state ≠ .testing) :
    breakerStatus f x (goodFrame .fp s) =
      reportUncommanded f 2 (offerSeq (.testContactor f false) (positionsTaken f x s)) := by
  have hsq : (goodFrame .fp s).sq f = s.sq f := congrArg FeederUnit.sq (goodFrame_feeder ..)
  obtain ⟨hconfirmed, -⟩ := confirmContactor_of_not_testing (f := f) (u := positionsTaken f x s)
    (by rw [positionsTaken_sq]; exact hs)
  rw [← hconfirmed]
  simp only [breakerStatus, hsq, if_pos hbreaker, hclosed, if_neg hnot.symm, contactorChanged]
  rw [positionsTaken, hclosed]

/-- A change of the contactor reported, TEST_OPEN offered outside SHADOW (R93). -/
theorem contactorFlagged (htakes : TakesStatus f bytes fr x s) (hbreaker : x.breaker = (s.sq f).breaker)
    (hclosed : x.contactor = .closed) (hnot : (s.sq f).contactor ≠ .closed) (hs : (s.sq f).state ≠ .testing)
    (hroom : s.reports.length < 60) :
    let t := afterStatus f fr x s
    t.sq f = { s.sq f with contactor := .closed, spring := x.spring }
      ∧ (∀ e, e ≠ f → t.feeder e = s.feeder e)
      ∧ Reported t .uncommandedClose (.feeder f) none (some 2) none
      ∧ (s.mode ≠ .shadow → (findNode s .breaker (some f)).isSome = true →
          (s.port .fp).urgent.length < 24 → Commanded t (.testContactor f false))
      ∧ (s.mode = .shadow → (t.port .fp).urgent = (s.port .fp).urgent) := by
  have heq := afterStatus_of_contactor hbreaker hclosed hnot hs
  have hm := htakes.mode_ne
  have hoffer : BreakerLast (positionsTaken f x s) (offerSeq (.testContactor f false) (positionsTaken f x s)) :=
    .offerContactor (by rw [positionsTaken_mode]; exact hm)
  have hlast := (hoffer.trans (.submit (kind := .uncommandedClose) (src := .feeder f) (c := none) (v := some 2)
    (w := none))).trans (.passedOn (fr := fr) (s := s))
  obtain ⟨-, hlength⟩ := positionsTaken_reports f x s
  obtain ⟨p, hp⟩ := statusPassedOn_eq fr s (breakerStatus f x (goodFrame .fp s))
  have hfp : (afterStatus f fr x s).port .fp = (breakerStatus f x (goodFrame .fp s)).port .fp := by
    rw [afterStatus, hp]; rfl
  rw [← show breakerStatus f x (goodFrame .fp s) = submit .uncommandedClose (.feeder f) none (some 2) none
    (offerSeq (.testContactor f false) (positionsTaken f x s)) from heq] at hlast
  refine ⟨?_, fun e he => ?_, ?_, fun hm' hnode hroom' => ?_, fun hm' => ?_⟩
  · rw [hlast.sq f, positionsTaken_sq, hbreaker, hclosed]
  · rw [hlast.feeder, positionsTaken_feeder_ne he]
  · refine Reported.mono ?_ (BreakerLast.passedOn (fr := fr) (s := s)).reports
    rw [heq]
    refine reported_submit .uncommandedClose (.feeder f) none (some 2) none ?_
    rw [offerSeq_reports]
    omega
  · rw [Commanded, hfp, heq, reportUncommanded, submit_port, offerSeq,
      if_neg (by rw [positionsTaken_mode]; exact hm')]
    refine offerField_commanded (by rw [positionsTaken_mode]; exact hm) ?_ (by rw [positionsTaken_urgent]; exact hroom')
    rw [commandNode, findNode_of_fixed (positionsTaken_fixed ..)]
    exact hnode
  · rw [hfp, heq, reportUncommanded, submit_port, offerSeq, if_pos (by rw [positionsTaken_mode]; exact hm'),
      positionsTaken_urgent]

/-- A closing confirmed in CLOSING with no flag set (R89, R90, R156). -/
theorem afterStatus_of_closing (hm : s.mode ≠ .replay) (hclosed : x.breaker = .closed)
    (hnot : (s.sq f).breaker ≠ .closed) (hs : (s.sq f).state = .closing)
    (hblind : (s.sq f).blind = false) (hfrozen : (s.sq f).frozen = false) :
    ∃ c, BreakerLast c (afterStatus f fr x s)
      ∧ ClosedEntered f (closingRecord f (positionsTaken f x s)) (positionsTaken f x s) c
      ∧ (s.reports.length < 60 → Reported c .breakerClosed (.feeder f) none none none)
      ∧ (∀ k : Tie, (s.feeder f).section_.tie = some k → (s.port k.port).urgent.length < 24 →
          TieOffered c k (.sectionClear (BitVec.ofNat 8 (s.feeder f).section_.sectionId))) := by
  have hbs : ((positionsTaken f x s).sq f).state = .closing := by rw [positionsTaken_sq]; exact hs
  obtain ⟨c, heq, hentered, hreported, hsection⟩ := closingConfirmed_leaves hbs (by rw [positionsTaken_mode]; exact hm)
  have hconfirmed : confirmClosed f (positionsTaken f x s) = c := by
    rw [← hentered.stays (by simp [closingRecord, hblind, hfrozen]), ← heq]
    simp only [confirmClosed, hbs]
  obtain ⟨-, hlength⟩ := positionsTaken_reports f x s
  have hlast := confirmClosed_last (fr := fr) hm hclosed hnot (by rw [hconfirmed, hentered.closed]; simp)
  rw [hconfirmed] at hlast
  refine ⟨c, hlast, hentered, fun hroom => hreported (by omega), fun k hk hroom => ?_⟩
  have hsent := hsection k (by rw [positionsTaken_feeder]; exact hk) (by rw [positionsTaken_urgent]; exact hroom)
  rw [positionsTaken_feeder] at hsent
  exact hsent

/-- A confirmation of CLOSED in CLOSING or OPEN in SERVICE, its flags not yet served (R89, R92). -/
theorem afterStatus_of_entry (hclosed : x.breaker = .closed) (hnot : (s.sq f).breaker ≠ .closed)
    (hm : s.mode = .service) (hs : (s.sq f).state = .closing ∨ (s.sq f).state = .opened) :
    ∃ r c, ClosedEntered f r (positionsTaken f x s) c
      ∧ (((closedFlags f c).sq f).state ≠ .testing → BreakerLast (closedFlags f c) (afterStatus f fr x s))
      ∧ r.blind = (s.sq f).blind ∧ r.frozen = (s.sq f).frozen
      ∧ r.shotCount = if (s.sq f).state = .closing then (s.sq f).shotCount else 0 := by
  have hbs : ((positionsTaken f x s).sq f).state = (s.sq f).state := by rw [positionsTaken_sq]
  have hbm := (positionsTaken_mode f x s).trans hm
  have hlast := confirmClosed_last (fr := fr) (f := f) (x := x) (s := s) (by simp [hm]) hclosed hnot
  obtain hs | hs := hs
  · obtain ⟨c, heq, hentered, -⟩ := closingConfirmed_leaves (hbs.trans hs) (by simp [hbm])
    have hconfirmed : confirmClosed f (positionsTaken f x s) = closedFlags f c := by
      rw [← heq]; simp only [confirmClosed, hbs, hs]
    rw [hconfirmed] at hlast
    exact ⟨_, c, hentered, hlast, by simp [closingRecord], by simp [closingRecord], by simp [closingRecord, hs]⟩
  · obtain ⟨c, heq, hentered, -⟩ := takeOver_leaves (hbs.trans hs)
    rw [confirmClosed_of_opened_service (hbs.trans hs) hbm, heq] at hlast
    exact ⟨_, c, hentered, hlast, by simp [takeOverRecord], by simp [takeOverRecord], by simp [takeOverRecord, hs]⟩

end

/-- Settles O31: the breaker's confirmation by the feeder's state, then what follows it in the STATUS. -/
theorem breakerCloseConfirmed : Obligations.BreakerCloseConfirmed := by
  refine ⟨fun f bytes fr x s hfield hkind hread hclosed hnot hs hblind hfrozen => ?_,
    fun f bytes fr x s hfield hkind hread hclosed hnot hs => ?_,
    fun f bytes fr x s hfield hkind hread hbreaker hcontactor => ?_,
    fun f bytes fr x s htakes hclosed hnot hroom => ⟨_, exec_breakerStatus htakes, fun hm hp hs => ?_, fun hs => ?_⟩,
    fun f bytes fr x s htakes hbreaker hclosed hnot hs hroom => ⟨_, exec_breakerStatus htakes,
      contactorFlagged htakes hbreaker hclosed hnot hs hroom⟩,
    fun f bytes fr x s htakes hclosed hnot hm hs hflags hroom => ⟨_, exec_breakerStatus htakes, ?_⟩⟩
  · have htakes : TakesStatus f bytes fr x s := ⟨hfield, hkind, hread⟩
    obtain ⟨c, hlast, hentered, hreported, hsection⟩ :=
      afterStatus_of_closing (fr := fr) htakes.mode_ne hclosed hnot hs hblind hfrozen
    have hsq := (hlast.sq f).trans hentered.sq
    have hline := hentered.tripLine
    have hrow : ((positionsTaken f x s).feeder f).row = (s.feeder f).row := by rw [positionsTaken_feeder]
    rw [hentered.sq] at hline
    refine ⟨afterStatus f fr x s, exec_breakerStatus htakes, ?_⟩
    dsimp only
    rw [closingRecord, positionsTaken_sq, hrow] at hsq hline
    rw [hsq]
    exact ⟨rfl, rfl, rfl, rfl, rfl, hline, hclosed, rfl, rfl,
      fun e he => (hlast.feeder e).trans ((hentered.others e he).trans (positionsTaken_feeder_ne he)),
      fun hroom => (hreported hroom).mono hlast.reports, fun k hk hroom => hlast.tieOffered (hsection k hk hroom)⟩
  · have htakes : TakesStatus f bytes fr x s := ⟨hfield, hkind, hread⟩
    have hbs : ((positionsTaken f x s).sq f).state = .opened := by rw [positionsTaken_sq]; exact hs
    have hbm := positionsTaken_mode f x s
    obtain ⟨hothers, hstate⟩ := confirmClosed_of_opened hbs (by rw [hbm]; exact htakes.mode_ne)
    have hlast := confirmClosed_last (fr := fr) htakes.mode_ne hclosed hnot hstate
    obtain ⟨-, hlength⟩ := positionsTaken_reports f x s
    refine ⟨afterStatus f fr x s, exec_breakerStatus htakes, fun hm hblind hfrozen => ?_, fun hm => ?_, fun hm => ?_,
      fun hroom => ⟨fun hm => ?_, fun hm => ?_⟩,
      fun e he => (hlast.feeder e).trans ((hothers e he).trans (positionsTaken_feeder_ne he))⟩
    · obtain ⟨c, heq, hentered, -⟩ := takeOver_leaves hbs
      rw [hlast.sq f, confirmClosed_of_opened_service hbs (hbm.trans hm), heq,
        hentered.stays (by simp [takeOverRecord, hblind, hfrozen])]
      have hsq := hentered.sq
      exact ⟨hentered.closed, by rw [hsq]; rfl, by rw [hsq]; rfl, hentered.tripLine⟩
    · have hrow : ((positionsTaken f x s).feeder f).row = (s.feeder f).row := by rw [positionsTaken_feeder]
      rw [hlast.sq f, confirmClosed_of_opened_config hbs (hbm.trans hm), startTrip_sq (by rw [hbs]; simp) rfl, hrow,
        hbm.trans hm]
      exact ⟨rfl, rfl, rfl, rfl⟩
    · obtain ⟨c, heq, hentered, -⟩ := mirrorClosed_leaves hbs
      rw [hlast.sq f, confirmClosed_of_opened_shadow hbs (hbm.trans hm), heq]
      exact ⟨hentered.closed, hentered.tripLine⟩
    · obtain ⟨c, heq, -, hreported⟩ := takeOver_leaves hbs
      refine Reported.mono ?_ hlast.reports
      rw [confirmClosed_of_opened_service hbs (hbm.trans hm), heq]
      exact (hreported (by omega)).mono UnitActs.refl.closedFlags.reports
    · obtain ⟨c, heq, -, hreported⟩ := mirrorClosed_leaves hbs
      refine Reported.mono ?_ hlast.reports
      rw [confirmClosed_of_opened_shadow hbs (hbm.trans hm), heq]
      exact hreported (by omega)
  · have haddress := stationAddress_of_fixed (s := s)
      (t := (goodFrame .fp s).setSq f { s.sq f with spring := x.spring }) (by simp)
    rw [exec_breakerStatus ⟨hfield, hkind, hread⟩, afterStatus_of_repeat hbreaker hcontactor]
    simp only [statusPassedOn, forwardUpFrame, forwardedFrame, hkind, haddress]
  · have hbm := (positionsTaken_mode f x s).trans hm
    have hbs := positionsTaken_sq f x s
    have hp' : s.rect.latched.get f = ((positionsTaken f x s).sq f).pendingTest := by rw [hbs]; exact hp
    obtain ⟨hrecord, hreported, hcommanded, htest⟩ := uncommandedTrip_leaves (f := f) (s := positionsTaken f x s)
      (by rw [positionsTaken_rect]; exact hp')
      (by
        rw [hbs]
        intro ht
        obtain h | ⟨-, h⟩ | ⟨h, -⟩ := hs
        · cases ht.symm.trans h
        · exact h
        · cases ht.symm.trans h)
      hbm
    obtain ⟨hstate, hline, hprimary, hcauses, hopen, hclose, hdead, hphase, hpend, hlatched⟩ := hrecord
    have hconfirmed : confirmClosed f (positionsTaken f x s) = uncommandedTrip f (positionsTaken f x s) :=
      confirmClosed_trips hbm (by rw [hbs]; exact hs.imp id (Or.imp_left And.left))
    have hlast := confirmClosed_last (fr := fr) htakes.mode_ne hclosed hnot (by rw [hconfirmed, hstate]; simp)
    obtain ⟨-, hlength⟩ := positionsTaken_reports f x s
    rw [hconfirmed] at hlast
    rw [positionsTaken_feeder] at hopen
    dsimp only
    rw [hlast.sq f, hlast.rect]
    refine ⟨hstate, hline, hprimary, hcauses, hopen, hclose, hdead, hphase, hpend, hlatched, ?_, fun hnode hurgent => ?_,
      fun ht ho => ?_⟩
    · have htrip := (hreported (by omega)).mono hlast.reports
      rw [lastCurrent, positionsTaken_feeder] at htrip
      exact htrip
    · refine hlast.commanded (hcommanded ?_ ?_)
      · rw [findNode_of_fixed (positionsTaken_fixed ..)]; exact hnode
      · rw [positionsTaken_urgent]; omega
    · rw [hbs] at htest
      obtain ⟨hlastResult, habort, htester, hcount⟩ := htest ht ho
      exact ⟨hlastResult, (habort (by omega)).mono hlast.reports, htester, hcount⟩
  · have hconfirmed : confirmClosed f (positionsTaken f x s) = reportUncommanded f 1 (positionsTaken f x s) :=
      confirmClosed_reports (by rw [positionsTaken_sq, positionsTaken_mode]; exact hs)
    have hlast := confirmClosed_last (fr := fr) htakes.mode_ne hclosed hnot (by
      rw [hconfirmed, reportUncommanded, submit_sq, positionsTaken_sq]
      obtain h | ⟨h, -⟩ := hs <;> simp [h])
    obtain ⟨-, hlength⟩ := positionsTaken_reports f x s
    rw [hconfirmed] at hlast
    rw [hlast.sq f, hlast.rect, reportUncommanded, submit_sq, submit_rect, positionsTaken_sq, positionsTaken_rect,
      hclosed]
    exact ⟨rfl, (reported_submit .uncommandedClose (.feeder f) none (some 1) none (by omega)).mono hlast.reports, rfl⟩
  · obtain ⟨r, c, hentered, hlast, hblind, hfrozen, hcount⟩ := afterStatus_of_entry (fr := fr) hclosed hnot hm hs
    have hbm := (positionsTaken_mode f x s).trans hm
    have hfeeder := positionsTaken_feeder f x s
    obtain ⟨-, hstate⟩ := closedFlags_leaves (by rw [mode_of_fixed hentered.fixed, hbm]; simp) hentered.closed
    have hlast := hlast hstate
    obtain ⟨-, hlength⟩ := positionsTaken_reports f x s
    rw [hlast.sq f]
    refine ⟨fun ha => ?_, fun ha => ?_⟩
    · rw [hentered.stays fun _ => by rw [hfeeder]; exact ha]
      exact ⟨hentered.closed, hentered.tripLine⟩
    · obtain ⟨hsq, hreported, hcommanded⟩ := hentered.trips hbm (by rw [hfeeder]; exact ha)
        (by rw [hblind, hfrozen]; exact hflags)
      rw [hfeeder, hblind] at hreported hsq
      rw [hsq]
      refine ⟨rfl, rfl, ?_, ?_, rfl, rfl, hcount, (hreported (by omega)).mono hlast.reports,
        fun hnode hurgent => hlast.commanded (hcommanded ?_ ?_)⟩
      · show some (flagCause (s.sq f).blind) = _
        cases (s.sq f).blind <;> rfl
      · show TripCauses.single (flagCause (s.sq f).blind) = _
        cases (s.sq f).blind <;> rfl
      · rw [findNode_of_fixed (positionsTaken_fixed ..)]; exact hnode
      · rw [positionsTaken_urgent]; omega

end Sys2Proof.Machine
end

section
/-! PROOF. What follows a trip: Table 5-4, row by row (R85, R86, R91, R100 to R104, R107, R156). -/

namespace Sys2Proof.Machine

set_option Elab.async false

/-- The breaker unit's fields and the open timer are the same in two records, and no trip line is asserted. -/
structure FeederRec.SameDevice (r r' : FeederRec) : Prop where
  breaker : r'.breaker = r.breaker
  contactor : r'.contactor = r.contactor
  spring : r'.spring = r.spring
  openTimer : r'.openTimer = r.openTimer
  tripLine : r.tripLine = false → r'.tripLine = false

namespace FeederRec.SameDevice

variable {r r' r'' : FeederRec}

theorem refl : r.SameDevice r := ⟨rfl, rfl, rfl, rfl, id⟩

theorem trans (h : r.SameDevice r') (h' : r'.SameDevice r'') : r.SameDevice r'' :=
  ⟨h'.breaker.trans h.breaker, h'.contactor.trans h.contactor, h'.spring.trans h.spring,
    h'.openTimer.trans h.openTimer, h'.tripLine ∘ h.tripLine⟩

/-- Any change of state but to TRIPPING and LOCKOUT. -/
theorem entered {m : Mode} {new : FeederState} (h : new ≠ .tripping ∧ new ≠ .lockout) :
    r.SameDevice (r.entered m new none) :=
  ⟨rfl, rfl, rfl, rfl, fun _ => by simp [tripLevel, h]⟩

end FeederRec.SameDevice

section

variable {f : FeederId} {s c u : State}

/-! A test request, at the unit (R101) -/

theorem enterPhase_device (f : FeederId) (ph : Phase) (timer : Timer) (s : State) :
    (s.sq f).SameDevice ((enterPhase f ph timer s).sq f) := by
  rw [enterPhase_sq_eq]
  dsimp only
  split
  · exact ⟨rfl, rfl, rfl, rfl, id⟩
  · exact FeederRec.SameDevice.entered (r := s.sq f) (m := s.mode) (new := .deadTime) (by simp) |>.trans
      ⟨rfl, rfl, rfl, rfl, id⟩

theorem giveShotBack_device (f : FeederId) (s : State) : (s.sq f).SameDevice ((giveShotBack f s).sq f) := by
  rw [giveShotBack_sq]
  split
  · exact ⟨rfl, rfl, rfl, rfl, id⟩
  · exact .refl

theorem returnAfterFlag_device (f : FeederId) (s : State) : (s.sq f).SameDevice ((returnAfterFlag f s).sq f) := by
  unfold returnAfterFlag
  dsimp only
  split
  · exact (giveShotBack_device f s).trans (enterPhase_device ..)
  split <;> exact enterPhase_device ..

/-- A test that is not yet past the check of its contactor (R107). -/
def FeederRec.Checking (r : FeederRec) : Prop :=
  r.state = .testing ∧ r.openRequested = false
    ∧ r.test.step = if r.contactor = .opened then some .liveCheck else some .contactorCheck

/-- What a test request leaves of its feeder: DEAD_TIME, or a test at its contactor check (R101). -/
structure TestAsked (f : FeederId) (r : FeederRec) (u : State) : Prop where
  device : r.SameDevice (u.sq f)
  state : (u.sq f).state = .deadTime ∨ (u.sq f).Checking

theorem startTest_asked (kind : TestKind) (origin : Option TestOrigin) (s : State) :
    TestAsked f (s.sq f) (startTest f kind origin s) := by
  have hsq : (enterTesting f kind origin (addTester f s)).sq f =
      { (s.sq f).entered s.mode .testing none with
        test := { ((s.sq f).entered s.mode .testing none).test with
                  kind := some kind, origin := origin, step := some .contactorCheck } } := enterTesting_sq ..
  have hdevice : (s.sq f).SameDevice ((s.sq f).entered s.mode .testing none) := .entered (by simp)
  have hcontactor : ((s.sq f).entered s.mode .testing none).contactor = (s.sq f).contactor := rfl
  rw [startTest, beginContactorCheck]
  dsimp only
  by_cases hc : (s.sq f).contactor = .opened
  · rw [if_pos (by rw [hsq]; exact hc)]
    refine ⟨?_, .inr ?_⟩
    · rw [State.setSq_sq_same, hsq]
      exact hdevice.trans ⟨rfl, rfl, rfl, rfl, id⟩
    · rw [State.setSq_sq_same, hsq]
      exact ⟨rfl, rfl, (if_pos hc).symm⟩
  · rw [if_neg (by rw [hsq]; exact hc), startCloseTimer]
    refine ⟨?_, .inr ?_⟩
    · rw [State.setSq_sq_same, offerSeq_sq, hsq]
      exact hdevice.trans ⟨rfl, rfl, rfl, rfl, id⟩
    · rw [State.setSq_sq_same, offerSeq_sq, hsq]
      exact ⟨rfl, rfl, (if_neg hc).symm⟩

theorem enterStarting_sq (g : FeederId) (s : State) : (enterStarting s).sq g = s.sq g := by
  unfold enterStarting beginCrossingWait
  dsimp only
  split <;> simp

theorem latchTest_sq (f g : FeederId) (s : State) : (latchTest f s).sq g = s.sq g := by
  unfold latchTest
  dsimp only
  split
  · rfl
  split
  · rw [enterStarting_sq]; rfl
  · rfl

/-- A test request made in DEAD_TIME (R101). -/
theorem testRequest_asked (origin : TestOrigin) (s : State) :
    TestAsked f (s.sq f) (testRequest f origin s) := by
  have haborted : ∀ reason, TestAsked f (s.sq f) (abortUnstarted f reason origin s) := fun reason => by
    refine ⟨?_, .inl (OthersKept.returnAfterFlag_state ..)⟩
    refine FeederRec.SameDevice.trans ?_ (returnAfterFlag_device ..)
    rw [abortEffects_sq, State.setSq_sq_same]
    exact ⟨rfl, rfl, rfl, rfl, id⟩
  have hphase : ∀ ph timer (a : State),
      a.sq f = { (enterPhase f ph timer s).sq f with test := (a.sq f).test, pendingTest := (a.sq f).pendingTest } →
      TestAsked f (s.sq f) a := by
    intro ph timer a ha
    have hdevice := enterPhase_device f ph timer s
    obtain ⟨hstate, -⟩ := enterPhase_sq f ph timer s
    refine ⟨?_, .inl ?_⟩
    · rw [ha]; exact hdevice.trans ⟨rfl, rfl, rfl, rfl, id⟩
    · rw [ha]; exact hstate
  have hstart : ∀ a : State, a.sq f = s.sq f → TestAsked f (s.sq f) (startTest f .auto (some origin) a) :=
    fun a ha => ha ▸ startTest_asked ..
  have hawait : TestAsked f (s.sq f) (awaitSupply f origin s) := by
    refine hphase .awaitingSupply none _ ?_
    rw [awaitSupply, latchTest_sq, State.setSq_sq_same]
  unfold testRequest
  dsimp only
  split
  · exact haborted _
  split
  · exact haborted _
  split
  · refine hphase .cooling none _ ?_
    rw [coolFirst, State.setSq_sq_same]
    rfl
  cases s.rect.state with
  | running | probe => exact hstart s rfl
  | hold => exact hstart _ (by simp [probeFromHold])
  | parked | starting | faulted => exact hawait

/-- A wait for the far end on a DOWN tie makes a test request (R104). -/
theorem enterFarEnd_of_down (h : tieDown (enterFarEndWait f s) f = true) :
    TestAsked f ((enterFarEndWait f s).sq f) (enterFarEnd f s) := by
  have hasked := testRequest_asked (f := f) .awaitingFarEnd
    ((enterFarEndWait f s).setSq f { (enterFarEndWait f s).sq f with dead := none })
  rw [State.setSq_sq_same] at hasked
  have heq : enterFarEnd f s = submit .actingMaster (.feeder f) none (some 2) none (testRequest f .awaitingFarEnd
      ((enterFarEndWait f s).setSq f { (enterFarEndWait f s).sq f with dead := none })) := by
    simp only [enterFarEnd, if_pos h, farEndDown]
  rw [heq]
  have hstopped : ((enterFarEndWait f s).sq f).SameDevice { (enterFarEndWait f s).sq f with dead := none } :=
    ⟨rfl, rfl, rfl, rfl, id⟩
  refine ⟨?_, ?_⟩
  · rw [submit_sq]; exact hstopped.trans hasked.device
  · rw [submit_sq]; exact hasked.state

/-- A test at its contactor check takes the contactor as it is recorded (R107). -/
theorem contactorChanged_of_checking (h : (u.sq f).Checking) : contactorChanged f (u.sq f).contactor u = u := by
  obtain ⟨hstate, hopen, hstep⟩ := h
  cases hc : (u.sq f).contactor with
  | opened =>
    rw [hc, if_pos rfl] at hstep
    simp [contactorChanged, confirmContactor, hstate, hopen, testContactor, hstep]
  | closed =>
    rw [hc, if_neg (by simp)] at hstep
    simp [contactorChanged, confirmContactor, hstate, hopen, testContactor, hstep]
  | disagree | unknown => rfl

/-! What follows a trip -/

/-- The feeder has left TRIPPING or CLOSED: its record's breaker fields, its line, its timer, and its section
message (R76, R85, R86, R156). -/
structure TripEnded (f : FeederId) (c u : State) : Prop where
  breaker : (u.sq f).breaker = (c.sq f).breaker
  contactor : (u.sq f).contactor = (c.sq f).contactor
  spring : (u.sq f).spring = (c.sq f).spring
  openTimer : (c.sq f).openTimer = none → (u.sq f).openTimer = none
  tripLine : (u.sq f).tripLine = false
  state : (u.sq f).state = .lockout ∨ (u.sq f).state = .deadTime ∨ (u.sq f).Checking
  holds : ∀ k : Tie, (c.feeder f).section_.tie = some k → (u.sq f).state = .lockout →
    ((u.sq f).lockoutCause = some .switchOntoFault ∨ (u.sq f).lockoutCause = some .shotsExhausted →
      (c.port k.port).urgent.length < 24 →
        TieOffered u k (.sectionHold (BitVec.ofNat 8 (c.feeder f).section_.sectionId)))
    ∧ ((u.sq f).lockoutCause ≠ some .switchOntoFault → (u.sq f).lockoutCause ≠ some .shotsExhausted →
        u.port k.port = c.port k.port)

/-- What follows the trip concerns this feeder alone: its causes, its marks and its entry stay, and no command is
offered (R85, R91). -/
structure TripAlone (f : FeederId) (c u : State) : Prop where
  causes : (u.sq f).tripCauses = (c.sq f).tripCauses
  primary : (u.sq f).primary = (c.sq f).primary
  sotfMark : (u.sq f).sotfMark = (c.sq f).sotfMark
  sotf : (c.sq f).sotf = none → (u.sq f).sotf = none
  reclaim : (c.sq f).reclaim = none → (u.sq f).reclaim = none
  shotCount : (u.sq f).shotCount = (c.sq f).shotCount
  entry : (u.feeder f).entry = (c.feeder f).entry
  others : ∀ e, e ≠ f → u.feeder e = c.feeder e
  fieldPort : u.port .fp = c.port .fp

theorem enterCore_entry (f : FeederId) (new : FeederState) (cause : Option LockoutCause) (s : State) :
    ((enterCore f new cause s).feeder f).entry = (s.feeder f).entry := by
  unfold enterCore disarmIfLeft withdrawLatched
  dsimp only
  split <;> split <;> simp [State.setProt]

theorem enterCore_ties (f : FeederId) (new : FeederState) (cause : Option LockoutCause) (s : State) :
    (enterCore f new cause s).ties = s.ties := by
  unfold enterCore disarmIfLeft withdrawLatched
  dsimp only
  split <;> split <;> rfl

theorem lockedOut_ports (f : FeederId) (cause : LockoutCause) (s : State) :
    (lockedOut f cause s).ports = s.ports := by simp [lockedOut]

theorem sendSection_port_fp (f : FeederId) (hold : Bool) (s : State) :
    (sendSection f hold s).port .fp = s.port .fp := by
  unfold sendSection
  split
  · rfl
  · next k _ =>
    split
    · rfl
    · rw [offerTie_eq]; cases k <;> rfl

theorem LockoutCause.holds_iff {cause : LockoutCause} (hc : cause ≠ .breakerFailure) :
    cause.holds = true ↔ cause = .switchOntoFault ∨ cause = .shotsExhausted := by
  cases cause <;> simp_all [LockoutCause.holds]

/-- The section message of a lockout: SECTION_HOLD for the causes that ask for it, else none (R86, R156). -/
theorem lockout_section {cause : LockoutCause} {k : Tie} (hs : (c.sq f).state ≠ .testing) (hm : c.mode ≠ .replay)
    (hk : (c.feeder f).section_.tie = some k) :
    (cause.holds = true → (c.port k.port).urgent.length < 24 →
        TieOffered (lockout f cause false c) k (.sectionHold (BitVec.ofNat 8 (c.feeder f).section_.sectionId)))
      ∧ (cause.holds = false → (lockout f cause false c).port k.port = c.port k.port) := by
  have heq := lockout_eq f cause false c
  rw [lockoutLeft_of_not_testing hs] at heq
  refine ⟨fun hheld hroom => ?_, fun hnot => ?_⟩
  · have hfixed : (lockedOut f cause c).fixed = c.fixed := by simp [lockedOut]
    obtain ⟨-, -, hsection⟩ := settings_of_fixed hfixed f
    have hsent := sendSection_stands (f := f) (hold := true) (k := k) (s := lockedOut f cause c)
      (by rw [mode_of_fixed hfixed]; exact hm) (by rw [hsection]; exact hk)
      (by rw [State.port, lockedOut_ports]; exact hroom)
    rw [hsection] at hsent
    rw [heq, if_pos hheld]
    exact hsent
  · obtain ⟨-, -, hports⟩ := lockout_of_not_testing (cause := cause) (offered := false) hs
    rw [State.port, hports hnot]
    rfl

theorem lockout_entry {cause : LockoutCause} (hs : (c.sq f).state ≠ .testing) :
    ((lockout f cause false c).feeder f).entry = (c.feeder f).entry := by
  obtain ⟨hfeeders, -, -⟩ := lockout_beside f cause false c
  rw [lockoutLeft_of_not_testing hs] at hfeeders
  rw [State.feeder, hfeeders]
  show ((lockedOut f cause c).feeder f).entry = _
  rw [lockedOut, submit_feeder, State.setSq_feeder_same]
  exact enterCore_entry ..

theorem lockout_port_fp {cause : LockoutCause} (hs : (c.sq f).state ≠ .testing) :
    (lockout f cause false c).port .fp = c.port .fp := by
  rw [lockout_eq, lockoutLeft_of_not_testing hs]
  split
  · rw [sendSection_port_fp, State.port, lockedOut_ports]; rfl
  · rw [State.port, lockedOut_ports]; rfl

/-- The rows that lock out. -/
theorem lockout_ends {cause : LockoutCause} (hs : (c.sq f).state ≠ .testing) (hm : c.mode ≠ .replay)
    (hc : cause ≠ .breakerFailure) :
    TripEnded f c (lockout f cause false c) ∧ TripAlone f c (lockout f cause false c)
      ∧ ((lockout f cause false c).sq f).state = .lockout
      ∧ ((lockout f cause false c).sq f).lockoutCause = some cause := by
  obtain ⟨hothers, -⟩ := lockout_of_not_testing (cause := cause) (offered := false) hs
  have hsq := lockout_sq f cause false c
  rw [lockoutLeft_of_not_testing hs] at hsq
  refine ⟨⟨?_, ?_, ?_, fun _ => ?_, ?_, .inl ?_, fun k hk _ => ?_⟩,
    ⟨?_, ?_, ?_, fun _ => ?_, fun _ => ?_, ?_, lockout_entry hs, hothers, lockout_port_fp hs⟩, ?_, ?_⟩
  case refine_7 =>
    obtain ⟨hheld, hnone⟩ := lockout_section (cause := cause) hs hm hk
    rw [hsq]
    refine ⟨fun hcause => hheld ((LockoutCause.holds_iff hc).mpr (hcause.imp Option.some.inj Option.some.inj)),
      fun hsotf hshots => hnone (Bool.eq_false_iff.mpr fun h => ?_)⟩
    obtain rfl | rfl := (LockoutCause.holds_iff hc).mp h
    · exact hsotf rfl
    · exact hshots rfl
  case refine_5 =>
    rw [hsq]
    show tripLevel c.mode .lockout (some cause) = false
    simp [tripLevel, hc]
  all_goals rw [hsq]; rfl

theorem enterPhase_beside (f : FeederId) (ph : Phase) (timer : Timer) (s : State) :
    (enterPhase f ph timer s).ports = s.ports
      ∧ ((enterPhase f ph timer s).feeder f).entry = (s.feeder f).entry
      ∧ (enterPhase f ph timer s).ties = s.ties := by
  have hentered : (if (s.sq f).state = .deadTime then s else enterCore f .deadTime none s).ports = s.ports
      ∧ ((if (s.sq f).state = .deadTime then s else enterCore f .deadTime none s).feeder f).entry
        = (s.feeder f).entry
      ∧ (if (s.sq f).state = .deadTime then s else enterCore f .deadTime none s).ties = s.ties := by
    split
    · exact ⟨rfl, rfl, rfl⟩
    · exact ⟨enterCore_ports .., enterCore_entry .., enterCore_ties ..⟩
  unfold enterPhase
  dsimp only
  split
  · rw [State.setSq_ports, State.setSq_feeder_same]; exact hentered
  · rw [submit_ports, submit_feeder, submit_ties, State.setSq_ports, State.setSq_feeder_same]; exact hentered

/-- The rows that enter a dead-time phase. -/
theorem enterPhase_ends {ph : Phase} {timer : Timer} (hs : (c.sq f).state ≠ .deadTime) :
    let u := enterPhase f ph timer (freshDeadTime f c)
    TripEnded f c u ∧ TripAlone f c u ∧ (u.sq f).state = .deadTime ∧ (u.sq f).phase = some ph
      ∧ (u.sq f).dead = timer := by
  obtain ⟨hstate, hphase, hdead, -⟩ := enterPhase_sq f ph timer (freshDeadTime f c)
  obtain ⟨hports, hentry, -⟩ := enterPhase_beside f ph timer (freshDeadTime f c)
  have hsq := enterPhase_sq_eq f ph timer (freshDeadTime f c)
  have hfresh : (freshDeadTime f c).sq f = { c.sq f with farClear := false, shotTaken := false } :=
    State.setSq_sq_same ..
  rw [hfresh] at hsq
  dsimp only at hsq
  rw [if_neg hs] at hsq
  dsimp only
  refine ⟨⟨?_, ?_, ?_, ?_, ?_, .inr (.inl hstate), fun k _ h => ?_⟩,
    ⟨?_, ?_, ?_, ?_, ?_, ?_, ?_, fun e he => ?_, ?_⟩, hstate, hphase, hdead⟩
  case refine_6 => rw [hstate] at h; cases h
  case refine_5 =>
    rw [hsq]
    show tripLevel _ .deadTime none = false
    simp [tripLevel]
  case refine_13 => rw [hentry, freshDeadTime, State.setSq_feeder_same]
  case refine_14 => rw [enterPhase_feeder_ne _ _ _ he, freshDeadTime, State.setSq_feeder_ne _ _ he]
  case refine_15 => rw [State.port, hports]; rfl
  case refine_4 => rw [hsq]; exact id
  case refine_10 => rw [hsq]; exact id
  case refine_11 => rw [hsq]; exact id
  all_goals rw [hsq]; rfl

/-- Row 6: the wait for the far end, which a DOWN tie ends at once (R104). -/
theorem enterFarEnd_ends (hs : (c.sq f).state ≠ .deadTime) :
    let u := enterFarEnd f (freshDeadTime f c)
    TripEnded f c u ∧ (tieDown c f = false →
      (u.sq f).state = .deadTime ∧ (u.sq f).phase = some .awaitingFarEnd
        ∧ (u.sq f).dead = some ((c.feeder f).row.test.tFollow * 1000)) := by
  have hrow : ((freshDeadTime f c).feeder f).row = (c.feeder f).row := by
    rw [freshDeadTime, State.setSq_feeder_same]
  have hdown : tieDown (enterFarEndWait f (freshDeadTime f c)) f = tieDown c f := by
    obtain ⟨-, -, hties⟩ := enterPhase_beside f .awaitingFarEnd
      (some (((freshDeadTime f c).feeder f).row.test.tFollow * 1000)) (freshDeadTime f c)
    exact tieDown_congr (by simp [freshDeadTime]) hties
  obtain ⟨hended, -, hstate, hphase, hdead⟩ := enterPhase_ends (ph := .awaitingFarEnd)
    (timer := some (((freshDeadTime f c).feeder f).row.test.tFollow * 1000)) hs
  dsimp only
  cases h : tieDown c f with
  | false =>
    have heq : enterFarEnd f (freshDeadTime f c) = enterFarEndWait f (freshDeadTime f c) := by
      rw [enterFarEnd]
      simp [hdown, h]
    rw [heq]
    exact ⟨hended, fun _ => ⟨hstate, hphase, hdead.trans (by rw [hrow])⟩⟩
  | true =>
    obtain ⟨hdevice, hasked⟩ := enterFarEnd_of_down (f := f) (s := freshDeadTime f c) (by rw [hdown, h])
    refine ⟨⟨hdevice.breaker.trans hended.breaker, hdevice.contactor.trans hended.contactor,
      hdevice.spring.trans hended.spring, fun ho => hdevice.openTimer.trans (hended.openTimer ho),
      hdevice.tripLine hended.tripLine, .inr hasked, fun k _ hl => ?_⟩, fun hup => by cases hup⟩
    obtain hd | ⟨hd, -⟩ := hasked
    · rw [hl] at hd; cases hd
    · rw [hl] at hd; cases hd

/-! Table 5-4 -/

/-- The rows of Table 5-4, in order, for a trip with a primary cause. -/
def AfterTripRow (f : FeederId) (cause : TripCause) (c u : State) : Prop :=
  if (c.sq f).sotfMark = true then (u.sq f).state = .lockout ∧ (u.sq f).lockoutCause = some .switchOntoFault
  else if cause.locksOut = true then (u.sq f).state = .lockout ∧ (u.sq f).lockoutCause = some (.trip cause)
  else if (c.sq f).intertripFailed = true then
    (u.sq f).state = .lockout ∧ (u.sq f).lockoutCause = some .intertripFailed
  else if (c.feeder f).row.intake.policy = .latch then
    (u.sq f).state = .lockout ∧ (u.sq f).lockoutCause = some (.trip cause)
  else if cause = .thermal then
    (u.sq f).state = .deadTime ∧ (u.sq f).phase = some .cooling ∧ (u.sq f).shotCount = (c.sq f).shotCount
  else if cause = .intertrip ∧ isFollower c f = true then
    tieDown c f = false →
      (u.sq f).state = .deadTime ∧ (u.sq f).phase = some .awaitingFarEnd
        ∧ (u.sq f).dead = some ((c.feeder f).row.test.tFollow * 1000)
  else if (c.sq f).shotCount < (c.feeder f).row.test.shots then
    (u.sq f).state = .deadTime ∧ (u.sq f).phase = some .timing
      ∧ (u.sq f).dead = some (deadTime (c.feeder f).row.test ((c.sq f).shotCount + 1) * 1000)
  else (u.sq f).state = .lockout ∧ (u.sq f).lockoutCause = some .shotsExhausted

/-- What follows a trip is the first row that applies; it concerns the feeder alone, but for a follower's test
request (R85, R91). -/
theorem afterTrip_ends {cause : TripCause} (hs : (c.sq f).state = .tripping ∨ (c.sq f).state = .closed)
    (hm : c.mode ≠ .replay) (hp : (c.sq f).primary.getD .externalOpen = cause) (hu : afterTrip f c = u) :
    TripEnded f c u ∧ AfterTripRow f cause c u ∧ (cause ≠ .intertrip → TripAlone f c u) := by
  have htest : (c.sq f).state ≠ .testing := by obtain h | h := hs <;> simp [h]
  have hdead : (c.sq f).state ≠ .deadTime := by obtain h | h := hs <;> simp [h]
  have hlocked : ∀ κ : LockoutCause, κ ≠ .breakerFailure → lockout f κ false c = u →
      TripEnded f c u ∧ TripAlone f c u ∧ (u.sq f).state = .lockout ∧ (u.sq f).lockoutCause = some κ :=
    fun κ hκ h => h ▸ lockout_ends htest hm hκ
  have hphased : ∀ ph timer, enterPhase f ph timer (freshDeadTime f c) = u →
      TripEnded f c u ∧ TripAlone f c u ∧ (u.sq f).state = .deadTime ∧ (u.sq f).phase = some ph
        ∧ (u.sq f).dead = timer := fun ph timer h => h ▸ enterPhase_ends hdead
  unfold afterTrip at hu
  dsimp only at hu
  rw [hp] at hu
  unfold AfterTripRow
  by_cases hsotf : (c.sq f).sotfMark = true
  · rw [if_pos hsotf] at hu ⊢
    obtain ⟨hended, halone, hrow⟩ := hlocked _ (by simp) hu
    exact ⟨hended, hrow, fun _ => halone⟩
  rw [if_neg hsotf] at hu ⊢
  by_cases hlocks : cause.locksOut = true
  · rw [if_pos hlocks] at hu ⊢
    obtain ⟨hended, halone, hrow⟩ := hlocked _ (by simp) hu
    exact ⟨hended, hrow, fun _ => halone⟩
  rw [if_neg hlocks] at hu ⊢
  by_cases hfailed : (c.sq f).intertripFailed = true
  · rw [if_pos hfailed] at hu ⊢
    obtain ⟨hended, halone, hrow⟩ := hlocked _ (by simp) hu
    exact ⟨hended, hrow, fun _ => halone⟩
  rw [if_neg hfailed] at hu ⊢
  by_cases hlatch : (c.feeder f).row.intake.policy = .latch
  · rw [if_pos hlatch] at hu ⊢
    obtain ⟨hended, halone, hrow⟩ := hlocked _ (by simp) hu
    exact ⟨hended, hrow, fun _ => halone⟩
  rw [if_neg hlatch] at hu ⊢
  by_cases hthermal : cause = .thermal
  · rw [if_pos hthermal] at hu ⊢
    obtain ⟨hended, halone, hstate, hphase, -⟩ := hphased _ _ hu
    exact ⟨hended, ⟨hstate, hphase, halone.shotCount⟩, fun _ => halone⟩
  rw [if_neg hthermal] at hu ⊢
  by_cases hfollows : cause = .intertrip ∧ isFollower c f = true
  · rw [if_pos hfollows] at hu ⊢
    obtain ⟨hended, hrow⟩ := enterFarEnd_ends (f := f) hdead
    rw [hu] at hended hrow
    exact ⟨hended, hrow, fun hn => absurd hfollows.1 hn⟩
  rw [if_neg hfollows] at hu ⊢
  by_cases hshots : (c.sq f).shotCount < (c.feeder f).row.test.shots
  · rw [if_pos hshots] at hu ⊢
    obtain ⟨hended, halone, hstate, hphase, htimer⟩ := hphased _ _ hu
    refine ⟨hended, ⟨hstate, hphase, htimer.trans ?_⟩, fun _ => halone⟩
    rw [freshDeadTime, State.setSq_feeder_same, State.setSq_sq_same]
    rfl
  · rw [if_neg hshots] at hu ⊢
    obtain ⟨hended, halone, hrow⟩ := hlocked _ (by simp) hu
    exact ⟨hended, hrow, fun _ => halone⟩

end
end Sys2Proof.Machine
end

section
/-! PROOF. A confirmation of breaker OPEN in TRIPPING, CLOSED and OPENING, and in SHADOW (R53, R69, R85, R86, R88,
R91, R97, R156). -/

namespace Sys2Proof.Machine

set_option Elab.async false

section

variable {f : FeederId} {fr : RxFrame} {x : BreakerStatus} {b c s u : State}

/-! The confirmation, by state -/

theorem TripCause.locksOut_iff (cause : TripCause) :
    cause.locksOut = true ↔
      cause = .blind ∨ cause = .frozen ∨ cause = .emergency ∨ cause = .uncommandedClose := by
  cases cause <;> simp [TripCause.locksOut]

/-- What a confirmed trip goes on from (R85). -/
def confirmedFrom (f : FeederId) (b : State) : State :=
  reportOpened f (b.sq f).primary (b.setSq f { b.sq f with openTimer := none })

/-- The record of an external opening (R91). -/
def externalRecord (r : FeederRec) : FeederRec :=
  { r with
    tripCauses := TripCauses.single .externalOpen
    primary := some .externalOpen
    sotfMark := r.sotf.isSome
    sotf := none
    reclaim := none }

/-- What an external opening goes on from (R91). -/
def externalFrom (f : FeederId) (b : State) : State :=
  submit .externalOpen (.feeder f) none (lastCurrent b f) none (b.setSq f (externalRecord (b.sq f)))

theorem confirmOpen_of_tripping (hs : (b.sq f).state = .tripping) :
    confirmOpen f b = afterTrip f (confirmedFrom f b) := by
  simp only [confirmOpen, hs]
  rfl

theorem confirmOpen_of_closed_service (hs : (b.sq f).state = .closed) (hm : b.mode = .service) :
    confirmOpen f b = afterTrip f (externalFrom f b) := by
  simp only [confirmOpen, hs, hm]
  rfl

/-- OPEN entered from a record, with the report of the opening (R88, R97). -/
def openedFrom (f : FeederId) (cause : Option TripCause) (r : FeederRec) (b : State) : State :=
  reportOpened f cause (enterCore f .opened none (b.setSq f r))

theorem confirmOpen_of_opening (hs : (b.sq f).state = .opening) :
    confirmOpen f b = openedFrom f none { b.sq f with openTimer := none } b := by
  rw [openedFrom,
    ← enterState_of_not_testing (f := f) (s := b.setSq f { b.sq f with openTimer := none }) (by simp [hs])]
  have hserved : confirmOpen f b = openingConfirmed f b := by simp only [confirmOpen, hs]
  rw [hserved]
  rfl

theorem confirmOpen_of_closed_shadow (hs : (b.sq f).state = .closed) (hm : b.mode = .shadow) :
    confirmOpen f b = openedFrom f (b.sq f).primary (b.sq f) b := by
  rw [openedFrom, State.setSq_self, ← enterState_of_not_testing (f := f) (s := b) (by simp [hs])]
  simp only [confirmOpen, hs, hm]

theorem openedFrom_leaves (f : FeederId) (cause : Option TripCause) (r : FeederRec) (b : State) :
    (openedFrom f cause r b).sq f = r.entered b.mode .opened none
      ∧ (∀ e, e ≠ f → (openedFrom f cause r b).feeder e = b.feeder e)
      ∧ (b.reports.length < 64 →
          Reported (openedFrom f cause r b) .breakerOpened (.feeder f) (cause.map TripCause.cause) none none) := by
  refine ⟨?_, fun e he => ?_, fun h => ?_⟩
  · rw [openedFrom, reportOpened, submit_sq, enterCore_sq, State.setSq_sq_same]; rfl
  · rw [openedFrom, reportOpened, submit_feeder, enterCore_feeder_ne _ _ _ he, State.setSq_feeder_ne _ _ he]
  · exact reported_submit .breakerOpened (.feeder f) (cause.map TripCause.cause) none none
      (s := enterCore f .opened none (b.setSq f r)) (by rw [enterCore_reports]; exact h)

/-- The mirror of an opening in SHADOW puts protection at rest (R53, R69, R97). -/
theorem openedFrom_prot (hs : (b.sq f).state = .closed) (hm : b.mode = .shadow) (cause : Option TripCause) :
    ((openedFrom f cause (b.sq f) b).feeder f).prot =
      { (b.feeder f).prot with iocCount := 0, ddl := Ddl.rest, hold := false } := by
  have harmed : (armed b.mode (b.sq f).state && !(armed b.mode .opened)) = true := by rw [hs, hm]; rfl
  rw [openedFrom, reportOpened, submit_feeder, State.setSq_self, enterCore]
  dsimp only
  rw [disarmIfLeft, if_pos (by split <;> exact harmed), State.setProt_feeder_same]
  rw [State.setSq_feeder_same]
  split <;> rfl

/-! From the STATUS to what follows the trip -/

/-- A state that what follows a trip goes on from: the positions recorded, the record changed and a report
made. -/
structure TripFrom (f : FeederId) (x : BreakerStatus) (r : FeederRec) (s c : State) : Prop where
  sq : c.sq f = r
  unit : c.feeder f = { s.feeder f with sq := r }
  others : ∀ e, e ≠ f → c.feeder e = s.feeder e
  fixed : c.fixed = s.fixed
  ties : ∀ k : Tie, c.tie k = s.tie k
  tiePort : ∀ k : Tie, c.port k.port = s.port k.port
  urgent : (c.port .fp).urgent = (s.port .fp).urgent

theorem tripFrom_submit {r : FeederRec} {kind : ReportKind} {src : Source} {cause : Option Cause} {v w : Option Int} :
    TripFrom f x r s (submit kind src cause v w ((positionsTaken f x s).setSq f r)) where
  sq := by rw [submit_sq, State.setSq_sq_same]
  unit := by rw [submit_feeder, State.setSq_feeder_same, positionsTaken_feeder]
  others e he := by rw [submit_feeder, State.setSq_feeder_ne _ _ he, positionsTaken_feeder_ne he]
  fixed := by rw [submit_fixed, State.setSq_fixed, positionsTaken_fixed]
  ties k := by rw [submit_tie]; exact positionsTaken_tie f x s k
  tiePort k := by
    rw [submit_port]
    exact positionsTaken_port_ne (f := f) (x := x) (by cases k <;> simp [Tie.port])
  urgent := by rw [submit_port]; exact positionsTaken_urgent f x s .fp

theorem TripFrom.row {r : FeederRec} (h : TripFrom f x r s c) : (c.feeder f).row = (s.feeder f).row := by
  rw [h.unit]

theorem TripFrom.section_ {r : FeederRec} (h : TripFrom f x r s c) :
    (c.feeder f).section_ = (s.feeder f).section_ := by rw [h.unit]

theorem TripFrom.isFollower {r : FeederRec} (h : TripFrom f x r s c) : isFollower c f = isFollower s f := by
  simp only [Machine.isFollower, h.section_]

theorem TripFrom.tieDown {r : FeederRec} (h : TripFrom f x r s c) : tieDown c f = tieDown s f := by
  simp only [Machine.tieDown, sectionTie, h.section_, h.ties]

/-- What follows a trip, its units left by the rest of the STATUS. -/
theorem TripEnded.last (h : TripEnded f c u) (hm : s.mode ≠ .replay) (hopened : x.breaker = .opened)
    (hnot : (s.sq f).breaker ≠ .opened) (hcontactor : (c.sq f).contactor = x.contactor)
    (hu : confirmOpen f (positionsTaken f x s) = u) : BreakerLast u (afterStatus f fr x s) := by
  have hchanged : breakerChanged f x.breaker (positionsTaken f x s) = u := by rw [hopened, breakerChanged, hu]
  have hlast := breakerChange_last (fr := fr) (f := f) (x := x) hm (by rw [hopened]; exact hnot.symm)
  rw [hchanged] at hlast
  refine hlast ?_
  obtain hs | hs | hs := h.state
  · exact .inl (by simp [hs])
  · exact .inl (by simp [hs])
  · have hsame := contactorChanged_of_checking hs
    rw [h.contactor, hcontactor] at hsame
    exact .inr hsame

/-- The section message after a trip, at the end of the STATUS (R86, R156). -/
theorem TripEnded.section_last {r : FeederRec} {t : State} (h : TripEnded f c u) (hc : TripFrom f x r s c)
    (hlast : BreakerLast u t) {k : Tie} (hk : (s.feeder f).section_.tie = some k) (hl : (t.sq f).state = .lockout) :
    ((t.sq f).lockoutCause = some .switchOntoFault ∨ (t.sq f).lockoutCause = some .shotsExhausted →
        (s.port k.port).urgent.length < 24 →
        TieOffered t k (.sectionHold (BitVec.ofNat 8 (s.feeder f).section_.sectionId)))
      ∧ ((t.sq f).lockoutCause ≠ some .switchOntoFault → (t.sq f).lockoutCause ≠ some .shotsExhausted →
          t.port k.port = s.port k.port) := by
  rw [hlast.sq f] at hl ⊢
  obtain ⟨hheld, hnone⟩ := h.holds k (by rw [hc.section_]; exact hk) hl
  rw [hc.tiePort, hc.section_] at hheld
  refine ⟨fun hcause hroom => hlast.tieOffered (hheld hcause hroom), fun hsotf hshots => ?_⟩
  rw [hlast.tiePort, hnone hsotf hshots, hc.tiePort]

end

/-- Settles O30: the confirmation by the feeder's state, what follows a trip by Table 5-4, then the rest of the
STATUS. -/
theorem tripConfirmedOpen : Obligations.TripConfirmedOpen := by
  refine ⟨fun f bytes fr x cause s hfield hkind hread hopened hnot hs hprimary => ?_,
    fun f bytes fr x s htakes hopened hnot hs hm hroom => ?_,
    fun f bytes fr x s htakes hopened hnot hroom => ?_⟩
  · have htakes : TakesStatus f bytes fr x s := ⟨hfield, hkind, hread⟩
    have hbs : ((positionsTaken f x s).sq f).state = .tripping := by rw [positionsTaken_sq]; exact hs
    have hfrom : TripFrom f x { (positionsTaken f x s).sq f with openTimer := none } s
        (confirmedFrom f (positionsTaken f x s)) := tripFrom_submit
    have hsq := hfrom.sq
    rw [positionsTaken_sq] at hsq
    obtain ⟨hended, hrow, -⟩ := afterTrip_ends (f := f) (c := confirmedFrom f (positionsTaken f x s)) (cause := cause)
      (.inl (by rw [hsq]; exact hs)) (by rw [mode_of_fixed hfrom.fixed]; exact htakes.mode_ne)
      (by rw [hsq]; exact congrArg (fun p : Option TripCause => p.getD .externalOpen) hprimary) rfl
    have hlast := hended.last (fr := fr) htakes.mode_ne hopened hnot (by rw [hsq]) (confirmOpen_of_tripping hbs)
    refine ⟨afterStatus f fr x s, exec_breakerStatus htakes, ?_⟩
    dsimp only
    refine ⟨?_, ?_, ?_, ?_, ?_, ?_, ?_, fun k hk hl => hended.section_last hfrom hlast hk hl⟩
    all_goals rw [hlast.sq f]
    · exact hended.openTimer (by rw [hsq])
    · exact hended.tripLine
    · rw [hended.breaker, hsq, hopened]
    · rw [hended.contactor, hsq]
    · rw [hended.spring, hsq]
    · obtain h | h | ⟨h, -⟩ := hended.state <;> simp [h]
    · simp only [AfterTripRow, hsq, hfrom.row, hfrom.isFollower, hfrom.tieDown, TripCause.locksOut_iff] at hrow
      exact hrow
  · have hbs : ((positionsTaken f x s).sq f).state = .closed := by rw [positionsTaken_sq]; exact hs
    have hbm := (positionsTaken_mode f x s).trans hm
    have hfrom : TripFrom f x (externalRecord ((positionsTaken f x s).sq f)) s
        (externalFrom f (positionsTaken f x s)) := tripFrom_submit
    have hsq := hfrom.sq
    rw [positionsTaken_sq] at hsq
    obtain ⟨hended, hrow, halone⟩ := afterTrip_ends (f := f) (c := externalFrom f (positionsTaken f x s))
      (cause := .externalOpen) (.inr (by rw [hsq]; exact hs))
      (by rw [mode_of_fixed hfrom.fixed]; exact htakes.mode_ne) (by rw [hsq]; rfl) rfl
    have halone := halone (by simp)
    have hconfirmed := confirmOpen_of_closed_service hbs hbm
    have hlast := hended.last (fr := fr) htakes.mode_ne hopened hnot (by rw [hsq]; rfl) hconfirmed
    obtain ⟨-, hlength⟩ := positionsTaken_reports f x s
    refine ⟨afterStatus f fr x s, exec_breakerStatus htakes, ?_⟩
    dsimp only
    refine ⟨?_, ?_, ?_, ?_, ?_, ?_, ?_, ?_, ?_, fun hcontactor => ?_, ?_, fun e he => ?_, ?_,
      fun k hk hl => hended.section_last hfrom hlast hk hl⟩
    case refine_9 =>
      have hreported : Reported (externalFrom f (positionsTaken f x s)) .externalOpen (.feeder f) none
          (lastCurrent (positionsTaken f x s) f) none := reported_submit _ _ _ _ _
        (s := (positionsTaken f x s).setSq f (externalRecord ((positionsTaken f x s).sq f)))
        (show (positionsTaken f x s).reports.length < 64 by omega)
      have hcurrent : lastCurrent (positionsTaken f x s) f = (s.feeder f).intake.lastAccepted.map Prod.fst := by
        rw [lastCurrent, positionsTaken_feeder]
      rw [hcurrent] at hreported
      exact (hreported.mono UnitActs.refl.afterTrip.reports).mono hlast.reports
    case refine_10 =>
      obtain ⟨p, hp⟩ := statusPassedOn_eq fr s (breakerStatus f x (goodFrame .fp s))
      have hfp : (afterStatus f fr x s).port .fp = (breakerStatus f x (goodFrame .fp s)).port .fp := by
        rw [afterStatus, hp]; rfl
      rw [hfp, breakerStatus_of_change (by rw [hopened]; exact hnot.symm), if_pos hcontactor, hopened, breakerChanged,
        hconfirmed, halone.fieldPort, hfrom.urgent]
    case refine_11 => rw [hlast.feeder, halone.entry, hfrom.unit]
    case refine_12 => rw [hlast.feeder, halone.others e he, hfrom.others e he]
    all_goals rw [hlast.sq f]
    · rw [halone.causes, hsq]; rfl
    · rw [halone.primary, hsq]; rfl
    · rw [halone.sotfMark, hsq]; rfl
    · exact halone.sotf (by rw [hsq]; rfl)
    · exact halone.reclaim (by rw [hsq]; rfl)
    · exact hended.tripLine
    · rw [halone.shotCount, hsq]; rfl
    · rw [hended.breaker, hsq]; exact hopened
    · simpa [AfterTripRow, hsq, externalRecord, TripCause.locksOut, hfrom.row, Option.isSome_iff_ne_none] using hrow
  · have hbs : ((positionsTaken f x s).sq f).state = (s.sq f).state := by rw [positionsTaken_sq]
    have hbm := positionsTaken_mode f x s
    obtain ⟨-, hlength⟩ := positionsTaken_reports f x s
    have hopens : ∀ cause r, confirmOpen f (positionsTaken f x s) = openedFrom f cause r (positionsTaken f x s) →
        BreakerLast (openedFrom f cause r (positionsTaken f x s)) (afterStatus f fr x s) := by
      intro cause r heq
      obtain ⟨hsq, -⟩ := openedFrom_leaves f cause r (positionsTaken f x s)
      have hlast := breakerChange_last (fr := fr) (f := f) (x := x) htakes.mode_ne (by rw [hopened]; exact hnot.symm)
      rw [hopened, breakerChanged, heq] at hlast
      exact hlast (.inl (by rw [hsq]; simp))
    have hleaves : ∀ cause r, r.breaker = .opened → r.shotCount = (s.sq f).shotCount →
        confirmOpen f (positionsTaken f x s) = openedFrom f cause r (positionsTaken f x s) →
        ((afterStatus f fr x s).sq f).state = .opened ∧ ((afterStatus f fr x s).sq f).breaker = .opened
          ∧ ((afterStatus f fr x s).sq f).tripCauses = TripCauses.empty
          ∧ ((afterStatus f fr x s).sq f).primary = none ∧ ((afterStatus f fr x s).sq f).tripLine = false
          ∧ ((afterStatus f fr x s).sq f).shotCount = (s.sq f).shotCount
          ∧ (∀ e, e ≠ f → (afterStatus f fr x s).feeder e = s.feeder e) := by
      intro cause r hbreaker hcount heq
      have hlast := hopens cause r heq
      obtain ⟨hsq, hothers, -⟩ := openedFrom_leaves f cause r (positionsTaken f x s)
      rw [hlast.sq f, hsq]
      refine ⟨rfl, hbreaker, rfl, rfl, ?_, hcount, fun e he => ?_⟩
      · show tripLevel _ .opened none = false
        simp [tripLevel]
      · rw [hlast.feeder, hothers e he, positionsTaken_feeder_ne he]
    refine ⟨afterStatus f fr x s, exec_breakerStatus htakes, fun hs => ?_, fun hs => ?_, fun hs hm => ?_⟩
    · obtain hs | ⟨hs, hm⟩ := hs
      · exact hleaves _ _ (by rw [positionsTaken_sq]; exact hopened) (by rw [positionsTaken_sq])
          (confirmOpen_of_opening (hbs.trans hs))
      · exact hleaves _ _ (by rw [positionsTaken_sq]; exact hopened) (by rw [positionsTaken_sq])
          (confirmOpen_of_closed_shadow (hbs.trans hs) (hbm.trans hm))
    · have hlast := hopens _ _ (confirmOpen_of_opening (hbs.trans hs))
      obtain ⟨hsq, -, hreported⟩ := openedFrom_leaves f none
        { (positionsTaken f x s).sq f with openTimer := none } (positionsTaken f x s)
      exact ⟨by rw [hlast.sq f, hsq]; rfl, (hreported (by omega)).mono hlast.reports⟩
    · have hlast := hopens _ _ (confirmOpen_of_closed_shadow (hbs.trans hs) (hbm.trans hm))
      obtain ⟨-, -, hreported⟩ := openedFrom_leaves f ((positionsTaken f x s).sq f).primary
        ((positionsTaken f x s).sq f) (positionsTaken f x s)
      have hprimary : ((positionsTaken f x s).sq f).primary = (s.sq f).primary := by rw [positionsTaken_sq]
      rw [hlast.feeder, openedFrom_prot (hbs.trans hs) (hbm.trans hm), positionsTaken_feeder, ← hprimary]
      exact ⟨(hreported (by omega)).mono hlast.reports, rfl⟩

end Sys2Proof.Machine
end

section
/-! PROOF. What a fault of the group leaves of a feeder in LOCKOUT and of the ties, while the tests of the others
are aborted (R101, R104, R115, R116, R134, R139). -/

namespace Sys2Proof.Machine

set_option Elab.async false

/-- What a service leaves of a feeder that it is not for: its record and its entry, the ties and their ports,
and a command to a breaker that stands; at most `n` records are added. -/
structure Bystander (f : FeederId) (n : Nat) (s t : State) : Prop where
  sq : t.sq f = s.sq f
  entry : (t.feeder f).entry = (s.feeder f).entry
  ties : t.ties = s.ties
  ports : ∀ p, p ≠ .fp → t.port p = s.port p
  reports : t.reports.length ≤ s.reports.length + n
  commanded : ∀ {e b}, Commanded s (.breaker e b) → Commanded t (.breaker e b)

namespace Bystander

variable {f g : FeederId} {n m : Nat} {s t u : State} {c : FieldCommand}

theorem refl : Bystander f 0 s s := ⟨rfl, rfl, rfl, fun _ _ => rfl, le_rfl, id⟩

theorem trans (h : Bystander f n s t) (h' : Bystander f m t u) : Bystander f (n + m) s u :=
  ⟨h'.sq.trans h.sq, h'.entry.trans h.entry, h'.ties.trans h.ties,
    fun p hp => (h'.ports p hp).trans (h.ports p hp), by have := h.reports; have := h'.reports; omega,
    fun hc => h'.commanded (h.commanded hc)⟩

theorem mono (h : Bystander f n s t) (hn : n ≤ m) : Bystander f m s t :=
  ⟨h.sq, h.entry, h.ties, h.ports, h.reports.trans (by omega), h.commanded⟩

theorem ite {cond : Prop} {dec : Decidable cond} (ht : Bystander f n s t) (hu : Bystander f n s u) :
    Bystander f n s (if cond then t else u) := by split <;> assumption

/-- A step that reaches no unit, no port and no report. -/
theorem still (h : Bystander f n s t) (hf : u.feeders = t.feeders := by rfl) (hp : u.ports = t.ports := by rfl)
    (ht : u.ties = t.ties := by rfl) (hr : u.reports = t.reports := by rfl) : Bystander f n s u := by
  refine h.trans (m := 0) ⟨sq_of_feeders hf f, ?_, ht, fun p _ => ?_, by rw [hr]; exact le_rfl, fun hc => ?_⟩
  · rw [State.feeder, hf]; rfl
  · rw [State.port, hp]; rfl
  · rw [Commanded, State.port, hp]; exact hc

theorem setRect {r : RectRec} (h : Bystander f n s t) : Bystander f n s (t.setRect r) := h.still

theorem setSq {r : FeederRec} (h : Bystander f n s t) (hg : f ≠ g) : Bystander f n s (t.setSq g r) :=
  h.trans (m := 0) ⟨congrArg FeederUnit.sq (State.setSq_feeder_ne _ _ hg),
    congrArg FeederUnit.entry (State.setSq_feeder_ne _ _ hg), rfl, fun _ _ => rfl, le_rfl, id⟩

theorem submit {kind : ReportKind} {src : Source} {x : Option Cause} {v w : Option Int} (h : Bystander f n s t) :
    Bystander f (n + 1) s (submit kind src x v w t) :=
  h.trans ⟨submit_sq .., congrArg FeederUnit.entry (submit_feeder ..), submit_ties .., fun _ _ => submit_port ..,
    submit_adds_one .., fun hc => by simpa [Commanded] using hc⟩

/-- A command to no other breaker. -/
theorem offerField (h : Bystander f n s t) (hc : ∀ e b, sameClass c (.breaker e b) = true → c = .breaker e b) :
    Bystander f n s (offerField c t) :=
  h.trans (m := 0) ⟨offerField_sq .., offerField_entry .., offerField_ties .., fun _ hp => offerField_port_ne _ _ hp,
    by rw [offerField_reports]; exact le_rfl, fun {e b} hs => hs.offerField (hc e b)⟩

theorem offerSeq (h : Bystander f n s t)
    (hc : ∀ e b, sameClass c (.breaker e b) = true → c = .breaker e b := by simp [sameClass]) :
    Bystander f n s (offerSeq c t) := ite h (h.offerField hc)

theorem offerRect {force : Bool} (h : Bystander f n s t)
    (hc : ∀ e b, sameClass c (.breaker e b) = true → c = .breaker e b := by simp [sameClass]) :
    Bystander f n s (offerRect force c t) := ite h (h.offerField hc)

theorem offerBlocked {force : Bool} (h : Bystander f n s t) : Bystander f n s (offerBlocked force t) := by
  unfold Machine.offerBlocked
  exact (h.still (u := { t with freeCount := _ })).offerRect

theorem enterCore {new : FeederState} {cause : Option LockoutCause} (h : Bystander f n s t) (hg : f ≠ g) :
    Bystander f n s (enterCore g new cause t) :=
  h.trans (m := 0) ⟨congrArg FeederUnit.sq (enterCore_feeder_ne _ _ _ hg),
    congrArg FeederUnit.entry (enterCore_feeder_ne _ _ _ hg), enterCore_ties ..,
    fun p _ => by rw [State.port, enterCore_ports]; rfl, by rw [enterCore_reports]; exact le_rfl,
    fun hc => by rw [Commanded, State.port, enterCore_ports]; exact hc⟩

theorem enterPhase {ph : Phase} {timer : Timer} (h : Bystander f n s t) (hg : f ≠ g) :
    Bystander f (n + 1) s (enterPhase g ph timer t) := by
  have hentered : Bystander f n s (if (t.sq g).state = .deadTime then t else Machine.enterCore g .deadTime none t) :=
    ite h (h.enterCore hg)
  exact ite ((hentered.setSq hg).mono (by omega)) (hentered.setSq hg).submit

theorem giveShotBack (h : Bystander f n s t) (hg : f ≠ g) : Bystander f n s (giveShotBack g t) :=
  ite (h.setSq hg) h

theorem returnAfterFlag (h : Bystander f n s t) (hg : f ≠ g) : Bystander f (n + 1) s (returnAfterFlag g t) := by
  unfold Machine.returnAfterFlag
  dsimp only
  split
  · exact (h.giveShotBack hg).enterPhase hg
  split <;> exact h.enterPhase hg

theorem abortEffects {reason : AbortReason} {uAvg ubAvg : Option Nat} (h : Bystander f n s t) (hg : f ≠ g) :
    Bystander f (n + 1) s (abortEffects g reason uAvg ubAvg t) :=
  ((ite (h.setSq hg).offerSeq (h.setSq hg)).setSq hg).submit

theorem abortUnstarted {reason : AbortReason} {origin : TestOrigin} (h : Bystander f n s t) (hg : f ≠ g) :
    Bystander f (n + 2) s (abortUnstarted g reason origin t) :=
  ((h.setSq hg).abortEffects hg).returnAfterFlag hg

end Bystander

/-! The group FAULTED, no test served -/

/-- A bystander's view of a service that changes no more of the group than its latched tests. -/
structure Aside (f : FeederId) (n : Nat) (s t : State) : Prop extends Bystander f n s t where
  rect : { t.rect with latched := s.rect.latched } = s.rect

namespace Aside

variable {f g : FeederId} {n m : Nat} {s t u : State}

theorem of_rect (h : Bystander f n s t) (hr : t.rect = s.rect) : Aside f n s t := ⟨h, by rw [hr]⟩

theorem refl : Aside f 0 s s := of_rect .refl rfl

theorem trans (h : Aside f n s t) (h' : Aside f m t u) : Aside f (n + m) s u :=
  ⟨h.toBystander.trans h'.toBystander, by rw [← h.rect, ← h'.rect]⟩

theorem mono (h : Aside f n s t) (hn : n ≤ m) : Aside f m s t := ⟨h.toBystander.mono hn, h.rect⟩

theorem ite {cond : Prop} {dec : Decidable cond} (ht : Aside f n s t) (hu : Aside f n s u) :
    Aside f n s (if cond then t else u) := by split <;> assumption

theorem keeps (h : Aside f n s t) :
    t.rect.state = s.rect.state ∧ t.rect.testers = s.rect.testers ∧ t.rect.faults = s.rect.faults
      ∧ t.rect.firstFault = s.rect.firstFault ∧ t.rect.acTrip = s.rect.acTrip := by
  rw [← h.rect]
  exact ⟨rfl, rfl, rfl, rfl, rfl⟩

theorem enterCore {new : FeederState} {cause : Option LockoutCause} (hg : f ≠ g) :
    Aside f 0 s (enterCore g new cause s) :=
  ⟨Bystander.refl.enterCore hg, by rw [enterCore_rect]; split <;> rfl⟩

/-- A request latched while the group is FAULTED starts nothing (R106, R131). -/
theorem latchTest (hs : s.rect.state = .faulted) : Aside f 0 s (latchTest g s) := by
  unfold Machine.latchTest
  dsimp only
  split
  · exact refl
  · rw [if_neg (by simp [hs])]
    exact ⟨Bystander.refl.setRect, rfl⟩

theorem testRequest {origin : TestOrigin} (hs : s.rect.state = .faulted) (hg : f ≠ g) :
    Aside f 2 s (testRequest g origin s) := by
  have habort : ∀ reason, Aside f 2 s (abortUnstarted g reason origin s) := fun reason =>
    of_rect (Bystander.refl.abortUnstarted hg)
      (by rw [abortUnstarted, OthersKept.returnAfterFlag_rect, abortEffects_rect, State.setSq_rect])
  have hcool : Aside f 2 s (coolFirst g origin s) :=
    (of_rect ((Bystander.refl.enterPhase hg).setSq hg) (OthersKept.enterPhase_rect ..) : Aside f 1 s _).mono (by decide)
  have hawait : Aside f 2 s (awaitSupply g origin s) := by
    have hphase : Aside f 1 s ((enterPhase g .awaitingSupply none s).setSq g
        { (enterPhase g .awaitingSupply none s).sq g with
          pendingTest := true
          test := { ((enterPhase g .awaitingSupply none s).sq g).test with
                    kind := some .auto, origin := some origin } }) :=
      of_rect ((Bystander.refl.enterPhase hg).setSq hg) (OthersKept.enterPhase_rect ..)
    obtain ⟨hstate, -⟩ := hphase.keeps
    exact (hphase.trans (latchTest (hstate.trans hs))).mono (by decide)
  unfold Machine.testRequest
  simp only [hs]
  exact ite (habort _) (ite (habort _) (ite hcool hawait))

theorem enterFarEnd (hs : s.rect.state = .faulted) (hg : f ≠ g) : Aside f 4 s (enterFarEnd g s) := by
  have hwait : Aside f 1 s (enterFarEndWait g s) :=
    of_rect (Bystander.refl.enterPhase hg) (OthersKept.enterPhase_rect ..)
  have hstopped : Aside f 1 s ((enterFarEndWait g s).setSq g { (enterFarEndWait g s).sq g with dead := none }) :=
    hwait.trans (of_rect (Bystander.refl.setSq hg) rfl)
  obtain ⟨hstate, -⟩ := hstopped.keeps
  have hasked := hstopped.trans (testRequest (origin := .awaitingFarEnd) (hstate.trans hs) hg)
  exact ite (hasked.trans (of_rect Bystander.refl.submit (submit_rect ..))) (hwait.mono (by decide))

theorem enterState {new : FeederState} {cause : Option LockoutCause} (ht : s.rect.testers.get g = false) (hg : f ≠ g) :
    Aside f 0 s (enterState g new cause s) := by
  rw [Machine.enterState, leaveTesting_of_no_tester ht, ite_self]
  exact enterCore hg

/-- A test that loses its supply in a group that serves none (R115, R116, R134). -/
theorem abortTest {reason : AbortReason} (hs : s.rect.state = .faulted) (ht : s.rect.testers.get g = false)
    (hg : f ≠ g) : Aside f 5 s (abortTest g reason none none s) := by
  have habort : Aside f 1 s (abortTesting g reason none none s) := by
    rw [abortTesting, leaveTesting_of_no_tester (by rw [abortEffects_rect]; exact ht)]
    exact of_rect (Bystander.refl.abortEffects hg) (abortEffects_rect ..)
  obtain ⟨hstate, htesters, -⟩ := habort.keeps
  refine habort.trans (m := 4) ?_
  rw [Machine.abortTest]
  generalize abortTesting g reason none none s = a at hstate htesters
  have ha : a.rect.testers.get g = false := by rw [htesters]; exact ht
  unfold abortReturn
  dsimp only
  split
  · refine ite ((of_rect (Bystander.refl.setSq hg) rfl : Aside f 0 a _).mono (by decide)) ?_
    exact ((enterState ha hg).trans (of_rect Bystander.refl.submit (submit_rect ..))).mono (by decide)
  · exact ite (enterFarEnd (hstate.trans hs) hg)
      ((of_rect (Bystander.refl.returnAfterFlag hg) (OthersKept.returnAfterFlag_rect ..) : Aside f 1 a _).mono
        (by decide))

/-- The feeders of a list lose their supply in turn; the bystander is in LOCKOUT (R134). -/
theorem supplyLost_list (served : PerFeeder Bool) (hs : s.rect.state = .faulted)
    (ht : s.rect.testers = PerFeeder.const false) (hf : (s.sq f).state = .lockout) (fs : List FeederId) :
    Aside f (5 * fs.length) s (fs.foldl (fun a g => supplyLostFor served g a) s) := by
  induction fs generalizing s with
  | nil => exact refl
  | cons g fs ih =>
    have hstep : Aside f 5 s (supplyLostFor served g s) := by
      unfold supplyLostFor
      by_cases hg : f = g
      · subst hg
        rw [if_neg (by simp [hf])]
        exact refl.mono (by decide)
      · exact ite (abortTest hs (by rw [ht]; cases g <;> rfl) hg) (refl.mono (by decide))
    obtain ⟨hstate, htesters, -⟩ := hstep.keeps
    rw [List.foldl_cons]
    exact (hstep.trans (ih (hstate.trans hs) (htesters.trans ht) (by rw [hstep.sq]; exact hf))).mono
      (by rw [List.length_cons]; omega)

theorem supplyLost (hs : s.rect.state = .faulted) (hf : (s.sq f).state = .lockout) :
    Aside f 40 (s.setRect { s.rect with testers := PerFeeder.const false }) (supplyLost s) :=
  supplyLost_list s.rect.testers (s := s.setRect { s.rect with testers := PerFeeder.const false }) hs rfl hf
    FeederId.all

end Aside

section

variable {f : FeederId} {s : State} {cause : FaultCause}

/-- A fault of the group, seen from a feeder in LOCKOUT (R139). -/
theorem rectFault_aside (hf : (s.sq f).state = .lockout) :
    Bystander f 41 s (rectFault cause s) ∧ (rectFault cause s).rect.state = .faulted
      ∧ (∃ x : FaultCauses, (rectFault cause s).rect.faults = x.add cause)
      ∧ (s.rect.state ≠ .faulted →
          (rectFault cause s).rect.acTrip = (s.mode != .replay) ∧ (rectFault cause s).rect.firstFault = some cause) := by
  by_cases hs : s.rect.state = .faulted
  · rw [rectFault_of_faulted hs, submit_rect]
    exact ⟨(Bystander.refl.setRect.submit).mono (by decide), hs, ⟨_, rfl⟩, fun h => absurd hs h⟩
  · have hentered : Bystander f 0 s (faultEntered cause s) :=
      (Bystander.refl.setRect.offerRect (c := .acBreaker false)).setRect.offerBlocked
    have hrect := faultEntered_rect cause s
    have hlost := Aside.supplyLost (f := f) (s := faultEntered cause s) (by rw [hrect]; rfl)
      (by rw [hentered.sq]; exact hf)
    have hall := (hentered.setRect.trans hlost.toBystander).submit (kind := .rectFault) (src := .rect)
      (x := some cause.cause) (v := some (faultEntered cause s).rect.acPos.code) (w := none)
    obtain ⟨hstate, -, hfaults, hfirst, htrip⟩ := hlost.keeps
    rw [rectFault_of_entry hs, submit_rect]
    exact ⟨hall, hstate.trans (congrArg RectRec.state hrect), ⟨_, hfaults.trans (congrArg RectRec.faults hrect)⟩,
      fun _ => ⟨htrip.trans (congrArg RectRec.acTrip hrect), hfirst.trans (congrArg RectRec.firstFault hrect)⟩⟩

end
end Sys2Proof.Machine
end

section
/-! PROOF. The open timer: the breaker-failure lockout, its intertrip by the state of the link, and the fault of
the group (R86, R87, R150, R153, R156). -/

namespace Sys2Proof.Machine

set_option Elab.async false

section

variable {f : FeederId} {k l : Tie} {m : TieMsg} {cause : InterCause} {c s t u : State}

/-! Frames on a tie port (R14) -/

theorem offeredTie_length_le_succ {frame : Frame} {q : List Frame} :
    (offeredTie m frame q).length ≤ q.length + 1 := by
  unfold offeredTie
  split
  · next r hr => rw [replaceFirst_length hr]; exact Nat.le_succ _
  split
  · simp
  split
  · exact Nat.le_succ _
  split
  · next r hr => have := removeFirst_length hr; simp; omega
  split
  · next r hr => have := removeFirst_length hr; simp; omega
  · exact Nat.le_succ _

/-- A message offered keeps the port's state and takes at most one place. -/
theorem offerTie_port (k l : Tie) (m : TieMsg) (s : State) :
    ((offerTie l m s).port k.port).state = (s.port k.port).state
      ∧ ((offerTie l m s).port k.port).urgent.length ≤ (s.port k.port).urgent.length + 1 := by
  rw [offerTie_eq]
  by_cases hk : k = l
  · subst hk
    rw [State.setPort_port_same, PortRec.arbitrate_state]
    exact ⟨rfl, (PortRec.arbitrate_urgent_sublist _).length_le.trans offeredTie_length_le_succ⟩
  · have hport : k.port ≠ l.port := by cases k <;> cases l <;> simp_all [Tie.port]
    rw [State.setPort_port_ne _ _ hport]
    exact ⟨rfl, Nat.le_succ _⟩

/-- A section message leaves the links, and takes at most one place on a tie port; in REPLAY none (R156, R159). -/
theorem sendSection_link (f : FeederId) (hold : Bool) (s : State) :
    (sendSection f hold s).ties = s.ties
      ∧ (∀ k : Tie, ((sendSection f hold s).port k.port).state = (s.port k.port).state
          ∧ ((sendSection f hold s).port k.port).urgent.length ≤ (s.port k.port).urgent.length + 1)
      ∧ (s.mode = .replay → ∀ k : Tie, (sendSection f hold s).port k.port = s.port k.port) := by
  have hnone : ∀ k : Tie, (s.port k.port).state = (s.port k.port).state
      ∧ (s.port k.port).urgent.length ≤ (s.port k.port).urgent.length + 1 := fun _ => ⟨rfl, Nat.le_succ _⟩
  unfold sendSection
  split
  · exact ⟨rfl, hnone, fun _ _ => rfl⟩
  · split
    · exact ⟨rfl, hnone, fun _ _ => rfl⟩
    · next hm => exact ⟨by rw [offerTie_eq]; rfl, fun k => offerTie_port .., fun h => absurd h hm⟩

/-- A section message that stands outlasts a TRIP_REQ offered with room in the queue (R14). -/
theorem TieOffered.offerRequest {id sec tag : Byte} (h : TieOffered s k (.sectionHold id))
    (hroom : (s.port k.port).urgent.length < 24) :
    TieOffered (offerTie k (.tripReq sec cause tag) s) k (.sectionHold id) := by
  obtain ⟨x, hx, hpayload⟩ := h
  rw [TieOffered, offerTie_eq, State.setPort_port_same]
  refine ⟨x, PortRec.arbitrate_stands ?_, hpayload⟩
  obtain hx | hx := List.mem_append.mp hx
  · refine List.mem_append_left _ ?_
    unfold offeredTie
    split
    · next r hr =>
      obtain ⟨a, old, b, hq, hold, rfl⟩ := replaceFirst_eq_some hr
      rw [hq] at hx
      have hne : x ≠ old := fun h => by subst h; simp [replacesTie, hpayload] at hold
      simp only [List.mem_append, List.mem_cons] at hx ⊢
      obtain hx | hx | hx := hx
      · exact .inl hx
      · exact absurd hx hne
      · exact .inr (.inr hx)
    · rw [if_pos (show _ < Config.urgentCapacity from hroom)]
      exact List.mem_append_left _ hx
  · exact List.mem_append_right _ hx

/-! The intertrip of a feeder in LOCKOUT (R150, R153) -/

theorem entryMade_made (f : FeederId) (k : Tie) (cause : InterCause) (timer : Nat) (c : State) :
    ((entryMade f k cause timer c).feeder f).entry =
        some { tie := k, sectionId := (c.feeder f).section_.sectionId, cause := cause
               tag := (c.tie k).tag, sends := 1, timer := timer }
      ∧ (entryMade f k cause timer c).tie k = { c.tie k with tag := (c.tie k).tag + 1#8 }
      ∧ (entryMade f k cause timer c).ports = c.ports
      ∧ (entryMade f k cause timer c).reports = c.reports := by
  refine ⟨?_, ?_, rfl, rfl⟩ <;> simp [entryMade, setEntry, advanceTag]

/-- What the request leaves of the feeder's record, of the group, of the field port and of a section message that
stands. -/
structure RequestLeaves (f : FeederId) (c t : State) : Prop where
  sq : t.sq f = c.sq f
  rect : t.rect = c.rect
  fieldPort : t.port .fp = c.port .fp
  reports : t.reports.length ≤ c.reports.length + 2
  held : ∀ (k : Tie) (id : Byte), (c.feeder f).section_.tie = some k → (c.port k.port).urgent.length < 24 →
    TieOffered c k (.sectionHold id) → TieOffered t k (.sectionHold id)

namespace RequestLeaves

theorem refl : RequestLeaves f c c := ⟨rfl, rfl, rfl, Nat.le_add_right _ _, fun _ _ _ _ h => h⟩

theorem submit {kind : ReportKind} {src : Source} {x : Option Cause} {v w : Option Int}
    (h : RequestLeaves f c t) (hr : t.reports.length ≤ c.reports.length + 1) :
    RequestLeaves f c (submit kind src x v w t) :=
  ⟨(submit_sq ..).trans h.sq, (submit_rect ..).trans h.rect, (submit_port ..).trans h.fieldPort,
    (submit_adds_one ..).trans (by omega), fun k id hk hroom hc => by
      rw [TieOffered, submit_port]; exact h.held k id hk hroom hc⟩

theorem entryMade (k : Tie) (timer : Nat) : RequestLeaves f c (entryMade f k cause timer c) := by
  refine ⟨?_, rfl, rfl, Nat.le_add_right _ _, fun _ _ _ _ h => h⟩
  simp [Machine.entryMade, setEntry, advanceTag, State.sq]

theorem offerRequest {sec tag : Byte} (h : RequestLeaves f c t) (hk : (c.feeder f).section_.tie = some k)
    (hports : t.ports = c.ports) : RequestLeaves f c (offerTie k (.tripReq sec cause tag) t) := by
  have heq := offerTie_eq k (.tripReq sec cause tag) t
  refine ⟨by rw [heq]; exact h.sq, by rw [heq]; exact h.rect, ?_, by rw [heq]; exact h.reports,
    fun l id hl hroom hc => ?_⟩
  · rw [heq, ← h.fieldPort]; cases k <;> rfl
  · obtain rfl := Option.some.inj (hk.symm.trans hl)
    exact (h.held k id hk hroom hc).offerRequest (by rw [State.port, hports]; exact hroom)

/-- A request that has failed is told to no one: the feeder is in LOCKOUT (R95, R153). -/
theorem failReported {sec : Nat} {why : InterFail} (h : RequestLeaves f c t)
    (hr : t.reports.length ≤ c.reports.length + 1) : RequestLeaves f c (failReported f cause sec why t) := by
  have hcleared : RequestLeaves f c (t.setFeeder f { t.feeder f with entry := none }) :=
    ⟨by rw [← h.sq]; simp [State.sq], h.rect, h.fieldPort, h.reports, h.held⟩
  exact hcleared.submit hr

end RequestLeaves

/-- A failed request leaves no entry and reports the failure (R153). -/
theorem failReported_leaves {sec : Nat} (hroom : t.reports.length < 64) :
    ((failReported f cause sec .linkDown t).feeder f).entry = none
      ∧ Reported (failReported f cause sec .linkDown t) .intertripFailed (.feeder f) (some cause.cause) (some sec)
          (some 2)
      ∧ (failReported f cause sec .linkDown t).ties = t.ties ∧ (failReported f cause sec .linkDown t).ports = t.ports
      ∧ t.reports <+: (failReported f cause sec .linkDown t).reports := by
  refine ⟨?_, ?_, ?_, ?_, ?_⟩
  · rw [failReported, submit_feeder]; simp
  · exact reported_submit .intertripFailed (.feeder f) (some cause.cause) (some sec) (some 2)
      (s := t.setFeeder f { t.feeder f with entry := none }) hroom
  · rw [failReported, submit_ties]; rfl
  · rw [failReported, submit_ports]; rfl
  · exact submit_reports_prefix (s := t.setFeeder f { t.feeder f with entry := none }) ..

/-- A TRIP_REQ sent and reported: the tag taken, the request on the port (R150). -/
theorem requestSent_leaves {a : State} (hports : a.ports = c.ports) (hreports : a.reports = c.reports)
    (htie : a.tie k = { c.tie k with tag := (c.tie k).tag + 1#8 })
    (hroom : c.reports.length < 64) (hurgent : (c.port k.port).urgent.length < 24) :
    let sec := (c.feeder f).section_.sectionId
    let t := reportSent f cause sec (c.tie k).tag (offerTie k (.tripReq (BitVec.ofNat 8 sec) cause (c.tie k).tag) a)
    t.tie k = { c.tie k with tag := (c.tie k).tag + 1#8 }
      ∧ Reported t .intertripSent (.feeder f) (some cause.cause) (some sec) (some (c.tie k).tag.toNat)
      ∧ TieOffered t k (.tripReq (BitVec.ofNat 8 sec) cause (c.tie k).tag) := by
  have hoffer := offerTie_eq k (.tripReq (BitVec.ofNat 8 (c.feeder f).section_.sectionId) cause (c.tie k).tag) a
  dsimp only
  refine ⟨?_, ?_, ?_⟩
  · rw [reportSent, submit_tie, hoffer]; exact htie
  · exact reported_submit _ _ _ _ _ (by rw [hoffer, State.setPort_reports, hreports]; exact hroom)
  · rw [reportSent, TieOffered, submit_port]
    exact offerTie_stands (by rw [State.port, hports]; exact hurgent)

theorem sentInVain_length (f : FeederId) (k : Tie) (cause : InterCause) (c : State) :
    (sentInVain f k cause c).reports.length ≤ c.reports.length + 1 := by
  refine (submit_adds_one ..).trans ?_
  rw [offerTie_eq]
  exact le_rfl

theorem sentInVain_request (htie : (c.feeder f).section_.tie = some k) :
    RequestLeaves f c (sentInVain f k cause c) := by
  have hadvanced : RequestLeaves f c (advanceTag k c) := ⟨rfl, rfl, rfl, Nat.le_add_right _ _, fun _ _ _ _ h => h⟩
  refine (hadvanced.offerRequest htie rfl).submit ?_
  rw [offerTie_eq]
  exact Nat.le_succ _

/-- The request of a feeder in LOCKOUT, whatever the link. -/
theorem intertripRequest_leaves (hs : (c.sq f).state = .lockout) :
    RequestLeaves f c (intertripRequest f cause c) := by
  cases htie : (c.feeder f).section_.tie with
  | none => rw [intertripRequest_of_none htie]; exact .refl
  | some k =>
    by_cases hm : c.mode = .replay
    · rw [intertripRequest_of_replay htie hm]
      exact (RequestLeaves.entryMade k 5000).submit (Nat.le_succ _)
    cases hup : (c.tie k).up with
    | true =>
      rw [intertripRequest_of_up htie hm hup]
      refine ((RequestLeaves.entryMade k 10000).offerRequest htie rfl).submit ?_
      rw [offerTie_eq]
      exact Nat.le_succ _
    | false =>
      rw [intertripRequest_of_down htie hm hup]
      split
      · rw [intertripFail_of_lockout hs]
        exact RequestLeaves.refl.failReported (Nat.le_succ _)
      · have hsent := sentInVain_request (cause := cause) htie
        rw [intertripFail_of_lockout (by rw [hsent.sq]; exact hs)]
        exact hsent.failReported (sentInVain_length ..)

/-- On a DOWN link the request fails at once, its TRIP_REQ sent where the port is not LOST (R153). -/
theorem intertripRequest_down (htie : (c.feeder f).section_.tie = some k) (hm : c.mode ≠ .replay)
    (hup : (c.tie k).up = false) (hs : (c.sq f).state = .lockout) (hroom : c.reports.length < 60)
    (hurgent : (c.port k.port).urgent.length < 24) :
    let sec := (c.feeder f).section_.sectionId
    let tag := (c.tie k).tag
    let t := intertripRequest f cause c
    (t.feeder f).entry = none
      ∧ Reported t .intertripFailed (.feeder f) (some cause.cause) (some sec) (some 2)
      ∧ ((c.port k.port).state = .lost → t.tie k = c.tie k)
      ∧ ((c.port k.port).state ≠ .lost →
          t.tie k = { c.tie k with tag := tag + 1#8 }
            ∧ Reported t .intertripSent (.feeder f) (some cause.cause) (some sec) (some tag.toNat)
            ∧ TieOffered t k (.tripReq (BitVec.ofNat 8 sec) cause tag)) := by
  dsimp only
  rw [intertripRequest_of_down htie hm hup]
  by_cases hlost : (c.port k.port).state = .lost
  · rw [if_pos hlost, intertripFail_of_lockout hs]
    obtain ⟨hentry, hfailed, hties, -⟩ := failReported_leaves (f := f) (cause := cause)
      (sec := (c.feeder f).section_.sectionId) (t := c) (by omega)
    refine ⟨hentry, hfailed, fun _ => ?_, fun h => absurd hlost h⟩
    rw [State.tie, hties]
    rfl
  · have hadvanced : (advanceTag k c).tie k = { c.tie k with tag := (c.tie k).tag + 1#8 } := by simp [advanceTag]
    obtain ⟨htag, hsent, hoffered⟩ := requestSent_leaves (f := f) (cause := cause) (c := c)
      (a := advanceTag k c) rfl rfl hadvanced (by omega) hurgent
    rw [if_neg hlost, intertripFail_of_lockout (by rw [(sentInVain_request htie).sq]; exact hs)]
    obtain ⟨hentry, hfailed, hties, hports, hprefix⟩ := failReported_leaves (f := f) (cause := cause)
      (sec := (c.feeder f).section_.sectionId) (t := sentInVain f k cause c)
      (lt_of_le_of_lt (sentInVain_length ..) (by omega))
    refine ⟨hentry, hfailed, fun h => absurd h hlost, fun _ => ⟨?_, hsent.mono hprefix, ?_⟩⟩
    · rw [State.tie, hties]; exact htag
    · rw [TieOffered, State.port, hports]; exact hoffered

/-- On an UP link an entry is made and the TRIP_REQ sent (R150). -/
theorem intertripRequest_up (htie : (c.feeder f).section_.tie = some k) (hm : c.mode ≠ .replay)
    (hup : (c.tie k).up = true) (hroom : c.reports.length < 60) (hurgent : (c.port k.port).urgent.length < 24) :
    let sec := (c.feeder f).section_.sectionId
    let tag := (c.tie k).tag
    let t := intertripRequest f cause c
    (t.feeder f).entry =
        some { tie := k, sectionId := sec, cause := cause, tag := tag, sends := 1, timer := 10000 }
      ∧ t.tie k = { c.tie k with tag := tag + 1#8 }
      ∧ Reported t .intertripSent (.feeder f) (some cause.cause) (some sec) (some tag.toNat)
      ∧ TieOffered t k (.tripReq (BitVec.ofNat 8 sec) cause tag) := by
  obtain ⟨hentry, hadvanced, hports, hreports⟩ := entryMade_made f k cause 10000 c
  obtain ⟨htag, hsent, hoffered⟩ := requestSent_leaves (f := f) (cause := cause) hports hreports hadvanced
    (by omega) hurgent
  dsimp only
  rw [intertripRequest_of_up htie hm hup]
  refine ⟨?_, htag, hsent, hoffered⟩
  rw [reportSent, submit_feeder, offerTie_eq]
  exact hentry

/-- In REPLAY an entry is made with its simulation timer, and no frame is sent (R159). -/
theorem intertripRequest_replay (htie : (c.feeder f).section_.tie = some k) (hm : c.mode = .replay)
    (hroom : c.reports.length < 60) :
    let sec := (c.feeder f).section_.sectionId
    let tag := (c.tie k).tag
    let t := intertripRequest f cause c
    (t.feeder f).entry =
        some { tie := k, sectionId := sec, cause := cause, tag := tag, sends := 1, timer := 5000 }
      ∧ t.tie k = { c.tie k with tag := tag + 1#8 }
      ∧ Reported t .intertripSent (.feeder f) (some cause.cause) (some sec) (some tag.toNat)
      ∧ t.port k.port = c.port k.port := by
  obtain ⟨hentry, hadvanced, -, hreports⟩ := entryMade_made f k cause 5000 c
  dsimp only
  rw [intertripRequest_of_replay htie hm]
  refine ⟨?_, ?_, ?_, ?_⟩
  · rw [reportSent, submit_feeder]; exact hentry
  · rw [reportSent, submit_tie]; exact hadvanced
  · exact reported_submit _ _ _ _ _ (by rw [hreports]; omega)
  · rw [reportSent, submit_port]; rfl

theorem intertripRequest_of_lockout (hs : (c.sq f).state = .lockout) (hroom : c.reports.length < 60)
    (hurgent : ∀ k : Tie, (c.port k.port).urgent.length < 24) :
    Intertripped f cause c (intertripRequest f cause c) := by
  cases htie : (c.feeder f).section_.tie with
  | none =>
    rw [intertripRequest_of_none htie]
    exact ⟨fun _ => ⟨rfl, rfl⟩, fun k hk => by rw [htie] at hk; cases hk⟩
  | some k =>
    refine ⟨fun h => (by rw [htie] at h; cases h), fun l hl => ?_⟩
    obtain rfl := Option.some.inj (htie.symm.trans hl)
    refine ⟨fun hm => ?_, fun hm hup => ?_, fun hm hup hport => ?_, fun hm hup hport => ?_⟩
    · obtain ⟨hentry, htag, hsent, hkept⟩ := intertripRequest_replay (cause := cause) htie hm hroom
      exact ⟨hentry, ⟨htag, hsent⟩, hkept⟩
    · obtain ⟨hentry, htag, hsent, hoffered⟩ := intertripRequest_up (cause := cause) htie hm hup hroom (hurgent k)
      exact ⟨hentry, ⟨htag, hsent⟩, hoffered⟩
    · obtain ⟨hentry, hfailed, -, hsent⟩ := intertripRequest_down (cause := cause) htie hm hup hs hroom (hurgent k)
      obtain ⟨htag, hreported, hoffered⟩ := hsent hport
      exact ⟨⟨hentry, hfailed⟩, ⟨htag, hreported⟩, hoffered⟩
    · obtain ⟨hentry, hfailed, hlost, -⟩ := intertripRequest_down (cause := cause) htie hm hup hs hroom (hurgent k)
      exact ⟨⟨hentry, hfailed⟩, hlost hport⟩

/-- An intertrip is what it is seen from any state with the same link, entry and section. -/
theorem Intertripped.of_before (h : Intertripped f cause c t) (hm : c.mode = s.mode)
    (hsection : (c.feeder f).section_ = (s.feeder f).section_) (hentry : (c.feeder f).entry = (s.feeder f).entry)
    (hties : c.ties = s.ties) (hstate : ∀ k : Tie, (c.port k.port).state = (s.port k.port).state)
    (hports : s.mode = .replay → ∀ k : Tie, c.port k.port = s.port k.port) : Intertripped f cause s t := by
  have htie : ∀ k, c.tie k = s.tie k := fun k => by rw [State.tie, hties]; rfl
  obtain ⟨hnone, hsome⟩ := h
  rw [hsection] at hnone hsome
  refine ⟨fun h => ?_, fun k hk => ?_⟩
  · rw [← hentry, ← hties]; exact hnone h
  · have hk' := hsome k hk
    simp only [hm, htie, hstate] at hk'
    obtain ⟨hreplay, hrest⟩ := hk'
    refine ⟨fun hm' => ?_, hrest⟩
    have hr := hreplay hm'
    rw [hports hm' k] at hr
    exact hr

/-- A report made after an intertrip changes nothing of it. -/
theorem Intertripped.submit {kind : ReportKind} {src : Source} {x : Option Cause} {v w : Option Int}
    (h : Intertripped f cause s t) : Intertripped f cause s (submit kind src x v w t) := by
  have hmono : ∀ {k src' c' v' w'}, Reported t k src' c' v' w' →
      Reported (Machine.submit kind src x v w t) k src' c' v' w' := fun h => h.mono (submit_reports_prefix ..)
  obtain ⟨hnone, hsome⟩ := h
  unfold Intertripped TieOffered
  simp only [submit_feeder, submit_ties, submit_tie, submit_port]
  refine ⟨hnone, fun k hk => ?_⟩
  obtain ⟨hreplay, hup, hdown, hlost⟩ := hsome k hk
  refine ⟨fun hm => ?_, fun hm hl => ?_, fun hm hl hp => ?_, fun hm hl hp => ?_⟩
  · obtain ⟨hentry, ⟨htag, hsent⟩, hport⟩ := hreplay hm
    exact ⟨hentry, ⟨htag, hmono hsent⟩, hport⟩
  · obtain ⟨hentry, ⟨htag, hsent⟩, hoffered⟩ := hup hm hl
    exact ⟨hentry, ⟨htag, hmono hsent⟩, hoffered⟩
  · obtain ⟨⟨hentry, hfailed⟩, ⟨htag, hsent⟩, hoffered⟩ := hdown hm hl hp
    exact ⟨⟨hentry, hmono hfailed⟩, ⟨htag, hmono hsent⟩, hoffered⟩
  · obtain ⟨⟨hentry, hfailed⟩, htag⟩ := hlost hm hl hp
    exact ⟨⟨hentry, hmono hfailed⟩, htag⟩

/-! The lockout for a breaker failure (R86, R87) -/

/-- What a lockout from TRIPPING or OPENING with SECTION_HOLD leaves beside the record. -/
structure HeldLockout (f : FeederId) (c a : State) : Prop where
  entry : (a.feeder f).entry = (c.feeder f).entry
  fixed : a.fixed = c.fixed
  ties : a.ties = c.ties
  group : a.rect.state = c.rect.state
  reports : a.reports.length ≤ c.reports.length + 1
  fieldPort : a.port .fp = c.port .fp
  tiePort : ∀ k : Tie, (a.port k.port).state = (c.port k.port).state
    ∧ (a.port k.port).urgent.length ≤ (c.port k.port).urgent.length + 1
  replay : c.mode = .replay → ∀ k : Tie, a.port k.port = c.port k.port
  held : ∀ k : Tie, (c.feeder f).section_.tie = some k → c.mode ≠ .replay → (c.port k.port).urgent.length < 24 →
    TieOffered a k (.sectionHold (BitVec.ofNat 8 (c.feeder f).section_.sectionId))

theorem breakerFailureLockout (hs : (c.sq f).state ≠ .testing) :
    HeldLockout f c (lockout f .breakerFailure false c) := by
  have heq := lockout_eq f .breakerFailure false c
  rw [lockoutLeft_of_not_testing hs, if_pos (show LockoutCause.breakerFailure.holds = true from rfl)] at heq
  obtain ⟨-, hrect, hreports⟩ := sendSection_beside f true (lockedOut f .breakerFailure c)
  obtain ⟨hlinks, hkept, hreplay⟩ := sendSection_link f true (lockedOut f .breakerFailure c)
  have hport : ∀ p, (lockedOut f .breakerFailure c).port p = c.port p := fun p => by
    rw [State.port, lockedOut_ports]; rfl
  have hties : (lockedOut f .breakerFailure c).ties = c.ties := by
    rw [lockedOut, submit_ties]; exact enterCore_ties ..
  have hmode : (lockedOut f .breakerFailure c).mode = c.mode := mode_of_fixed (by simp [lockedOut])
  refine ⟨lockout_entry hs, lockout_fixed .., ?_, ?_, ?_, lockout_port_fp hs, fun k => ?_, fun hm k => ?_,
    fun k hk hm hroom => ?_⟩
  · rw [heq]; exact hlinks.trans hties
  · rw [heq, hrect, lockedOut, submit_rect, State.setSq_rect, enterCore_rect]
    split <;> rfl
  · rw [heq, hreports, lockedOut]
    refine (submit_adds_one ..).trans ?_
    rw [State.setSq_reports, enterCore_reports]
  · rw [heq, ← hport]; exact hkept k
  · rw [heq, ← hport]; exact hreplay (hmode.trans hm) k
  · obtain ⟨hheld, -⟩ := lockout_section (cause := .breakerFailure) hs hm hk
    exact hheld rfl hroom

/-! The breaker failure (R87) -/

/-- The lockout, with TRIP offered to the breaker of a feeder that was OPENING. -/
def failureTripped (f : FeederId) (c : State) : State :=
  let a := lockout f .breakerFailure false c
  if (c.sq f).state = .opening then offerSeq (.breaker f .trip) a else a

/-- The fault of the group and the intertrip, the failure not yet reported. -/
def failureServed (f : FeederId) (c : State) : State :=
  intertripRequest f .backup (rectFault .backup (failureTripped f c))

theorem breakerFailure_eq (f : FeederId) (c : State) :
    breakerFailure f c =
      submit .breakerFailure (.feeder f)
        (if (c.sq f).state = .opening then none else (c.sq f).primary.map TripCause.cause)
        (some (c.feeder f).row.brk.tOpenMax) (some (c.sq f).breaker.code) (failureServed f c) := by
  simp only [breakerFailure, failureServed, failureTripped, beq_iff_eq]

/-- The record and the links as the group and the intertrip find them. -/
theorem failureTripped_leaves (hs : (c.sq f).state ≠ .testing) :
    let a := failureTripped f c
    HeldLockout f c (lockout f .breakerFailure false c)
      ∧ a.sq f = ((c.sq f).entered c.mode .lockout (some .breakerFailure)).stopTimers
      ∧ (a.feeder f).entry = (c.feeder f).entry ∧ a.fixed = c.fixed ∧ a.ties = c.ties
      ∧ a.rect.state = c.rect.state ∧ a.reports.length ≤ c.reports.length + 1
      ∧ (∀ k : Tie, a.port k.port = (lockout f .breakerFailure false c).port k.port)
      ∧ ((c.sq f).state = .opening → c.mode = .service → (findNode c .breaker (some f)).isSome = true →
          (c.port .fp).urgent.length < 24 → Commanded a (.breaker f .trip)) := by
  have hheld := breakerFailureLockout (f := f) hs
  have hsq := lockout_sq f .breakerFailure false c
  rw [lockoutLeft_of_not_testing hs] at hsq
  dsimp only [failureTripped]
  by_cases hopening : (c.sq f).state = .opening
  · rw [if_pos hopening]
    refine ⟨hheld, (offerSeq_sq ..).trans hsq, ?_, ?_, ?_, ?_, ?_, fun k => ?_, fun _ hm hnode hroom => ?_⟩
    · unfold offerSeq
      split
      · exact hheld.entry
      · rw [offerField_entry]; exact hheld.entry
    · rw [offerSeq_fixed]; exact hheld.fixed
    · unfold offerSeq
      split
      · exact hheld.ties
      · rw [offerField_ties]; exact hheld.ties
    · rw [offerSeq_rect]; exact hheld.group
    · rw [offerSeq_reports]; exact hheld.reports
    · unfold offerSeq
      split
      · rfl
      · exact offerField_port_ne _ _ (by cases k <;> simp [Tie.port])
    · have hmode : (lockout f .breakerFailure false c).mode = .service := (mode_of_fixed hheld.fixed).trans hm
      rw [offerSeq, if_neg (by simp [hmode])]
      refine offerField_commanded (by simp [hmode]) ?_ (by rw [hheld.fieldPort]; exact hroom)
      rw [commandNode, findNode_of_fixed hheld.fixed]
      exact hnode
  · rw [if_neg hopening]
    exact ⟨hheld, hsq, hheld.entry, hheld.fixed, hheld.ties, hheld.group, hheld.reports, fun _ => rfl,
      fun h => absurd h hopening⟩

/-- The record and the group after a breaker failure (R86, R87, R139). -/
theorem failureServed_faults (hs : (c.sq f).state ≠ .testing) :
    let t := failureServed f c
    t.sq f = ((c.sq f).entered c.mode .lockout (some .breakerFailure)).stopTimers
      ∧ t.rect.state = .faulted ∧ t.rect.faults.backup = true
      ∧ (c.rect.state ≠ .faulted → t.rect.acTrip = (c.mode != .replay) ∧ t.rect.firstFault = some .backup) := by
  obtain ⟨-, hsq, -, hfixed, -, hgroup, -⟩ := failureTripped_leaves (f := f) hs
  have hlocked : ((failureTripped f c).sq f).state = .lockout := by rw [hsq]; rfl
  obtain ⟨hbeside, hfaulted, ⟨x, hfaults⟩, hentry⟩ := rectFault_aside (cause := .backup) hlocked
  have hasked := intertripRequest_leaves (f := f) (cause := .backup)
    (c := rectFault .backup (failureTripped f c)) (by rw [hbeside.sq]; exact hlocked)
  rw [hgroup, mode_of_fixed hfixed] at hentry
  dsimp only
  rw [failureServed, hasked.sq, hasked.rect, hbeside.sq]
  exact ⟨hsq, hfaulted, by rw [hfaults]; rfl, hentry⟩

/-- The far end, the section and the breaker after a breaker failure, where the queues have room (R86, R87, R150,
R153, R156). -/
theorem failureServed_tells (hs : (c.sq f).state ≠ .testing) (hroom : c.reports.length < 10)
    (hurgent : ∀ k : Tie, (c.port k.port).urgent.length < 20) :
    let t := failureServed f c
    Intertripped f .backup c t ∧ t.reports.length < 64
      ∧ (∀ k, (c.feeder f).section_.tie = some k → c.mode ≠ .replay →
          TieOffered t k (.sectionHold (BitVec.ofNat 8 (c.feeder f).section_.sectionId)))
      ∧ ((c.sq f).state = .opening → c.mode = .service → (findNode c .breaker (some f)).isSome = true →
          (c.port .fp).urgent.length < 24 → Commanded t (.breaker f .trip)) := by
  obtain ⟨hheld, hsq, hentry, hfixed, hties, -, hlength, hports, hcommanded⟩ := failureTripped_leaves (f := f) hs
  have hlocked : ((failureTripped f c).sq f).state = .lockout := by rw [hsq]; rfl
  obtain ⟨hbeside, -⟩ := rectFault_aside (cause := .backup) hlocked
  have hallfixed : (rectFault .backup (failureTripped f c)).fixed = c.fixed := (rectFault_fixed ..).trans hfixed
  obtain ⟨-, -, hsection⟩ := settings_of_fixed hallfixed f
  have hport : ∀ k : Tie, (rectFault .backup (failureTripped f c)).port k.port
      = (lockout f .breakerFailure false c).port k.port := fun k =>
    (hbeside.ports _ (by cases k <;> simp [Tie.port])).trans (hports k)
  have hlimit : ∀ k : Tie, ((rectFault .backup (failureTripped f c)).port k.port).urgent.length < 24 := fun k => by
    have := (hheld.tiePort k).2
    have := hurgent k
    rw [hport]
    omega
  have hreports := hbeside.reports
  have hlockedAfter : ((rectFault .backup (failureTripped f c)).sq f).state = .lockout := by
    rw [hbeside.sq]; exact hlocked
  have hasked := intertripRequest_leaves (cause := .backup) hlockedAfter
  have hintertripped := intertripRequest_of_lockout (cause := .backup) hlockedAfter (by omega) hlimit
  have htotal := hasked.reports
  refine ⟨?_, ?_, fun k hk hm => ?_, fun hopening hm hnode hfp => ?_⟩
  · refine hintertripped.of_before (mode_of_fixed hallfixed) hsection (hbeside.entry.trans hentry)
      (hbeside.ties.trans hties) (fun k => ?_) fun hm k => ?_
    · rw [hport]; exact (hheld.tiePort k).1
    · rw [hport]; exact hheld.replay hm k
  · show (intertripRequest f .backup (rectFault .backup (failureTripped f c))).reports.length < 64
    omega
  · refine hasked.held k _ (by rw [hsection]; exact hk) (hlimit k) ?_
    rw [TieOffered, hport]
    exact hheld.held k hk hm (lt_trans (hurgent k) (by decide))
  · rw [Commanded, failureServed, hasked.fieldPort]
    exact hbeside.commanded (hcommanded hopening hm hnode hfp)

end

/-- Settles O33: the failure from the record with its timer stopped, by what the lockout, the group and the
intertrip leave. -/
theorem openTimerExpiry : Obligations.OpenTimerExpiry := by
  intro f s hreset hsome
  have hsq : (s.setSq f { s.sq f with openTimer := none }).sq f = { s.sq f with openTimer := none } :=
    State.setSq_sq_same ..
  have hfails : ((s.sq f).state = .tripping ∨ (s.sq f).state = .opening) → (s.sq f).breaker ≠ .opened →
      openExpired f s = breakerFailure f (s.setSq f { s.sq f with openTimer := none })
        ∧ ((s.setSq f { s.sq f with openTimer := none }).sq f).state ≠ .testing := fun hs hb => by
    refine ⟨by simp [openExpired, hsome, hs, hb], ?_⟩
    rw [hsq]
    obtain h | h := hs <;> simp [h]
  refine ⟨openExpired f s, outOfReset_eq hreset, fun hs hb hm => ?_, fun hs hb hroom hurgent => ?_, fun h => ?_⟩
  · obtain ⟨heq, htest⟩ := hfails hs hb
    obtain ⟨hrecord, hfaulted, hbackup, hfirst⟩ := failureServed_faults htest
    rw [heq, breakerFailure_eq, submit_sq, submit_rect, hrecord]
    have hlocked : ((failureServed f (s.setSq f { s.sq f with openTimer := none })).sq f).state = .lockout := by
      rw [hrecord]; rfl
    refine ⟨rfl, rfl, ?_, rfl, hfaulted, hbackup, fun hn => ?_, ?_⟩
    · show tripLevel s.mode .lockout (some .breakerFailure) = true
      simp [tripLevel, hm]
    · obtain ⟨htrip, hcause⟩ := hfirst hn
      exact ⟨htrip.trans (by simpa using hm), hcause⟩
    · exact (summaryAlarm_iff _).mpr (.inl ⟨f, by rw [submit_sq]; exact hlocked⟩)
  · obtain ⟨heq, htest⟩ := hfails hs hb
    obtain ⟨hintertripped, hlength, hheld, hcommanded⟩ := failureServed_tells htest hroom hurgent
    have hfeeder : (s.setSq f { s.sq f with openTimer := none }).feeder f =
        { s.feeder f with sq := { s.sq f with openTimer := none } } := State.setSq_feeder_same ..
    rw [hfeeder] at hheld
    rw [hsq] at hcommanded
    rw [heq, breakerFailure_eq, hsq, hfeeder]
    refine ⟨reported_submit _ _ _ _ _ hlength, ?_, fun k hk hm => ?_, fun hopening hm hnode hfp => ?_⟩
    · have hseen := hintertripped.of_before (s := s) rfl (by rw [hfeeder]) (by rw [hfeeder]) rfl (fun _ => rfl)
        fun _ _ => rfl
      exact hseen.submit
    · rw [TieOffered, submit_port]; exact hheld k hk hm
    · rw [Commanded, submit_port]; exact hcommanded hopening hm hnode (lt_trans hfp (by decide))
  · have hnot : ¬ (((s.sq f).state = .tripping ∨ (s.sq f).state = .opening) ∧ (s.sq f).breaker ≠ .opened) := by
      obtain ⟨htripping, hopening⟩ | h := h
      · exact fun hc => hc.1.elim htripping hopening
      · exact fun hc => hc.2 h
    simp [openExpired, hsome, hnot]

end Sys2Proof.Machine
end

section
/-! PROOF. An automatic test request by its rows (R101): what a flag, a warm line, a group that supplies and a
group that does not make of it; and the section message that ends a wait for the far end (R104, R105, R157). -/

namespace Sys2Proof.Machine

set_option Elab.async false

/-! A feeder whose test starts (R107) -/

/-- The record with which a test starts: at the live check where the contactor is OPEN, else waiting for its
confirmation with the close timer (R107). -/
def FeederRec.checking (m : Mode) (kind : TestKind) (origin : Option TestOrigin) (timer : Timer)
    (r : FeederRec) : FeederRec :=
  { r.entered m .testing none with
    closeTimer := if r.contactor = .opened then r.closeTimer else timer
    test :=
      { r.test.ended with
        kind := some kind, origin := origin
        step := some (if r.contactor = .opened then .liveCheck else .contactorCheck) } }

section

variable {f : FeederId} {s t : State} {kind : TestKind} {origin : Option TestOrigin}

theorem startTest_record (kind : TestKind) (origin : Option TestOrigin) (s : State) :
    (startTest f kind origin s).sq f =
      (s.sq f).checking s.mode kind origin (some ((s.feeder f).row.brk.tCloseMax * 1000)) := by
  have hrow : ((offerSeq (.testContactor f false) (enterTesting f kind origin (addTester f s))).feeder f).row =
      (s.feeder f).row := (settings_of_fixed (s := s) (by simp) f).1
  by_cases hc : (s.sq f).contactor = .opened
  · obtain ⟨hsq, -⟩ := startTest_of_open_contactor kind origin hc
    rw [hsq, FeederRec.checking, if_pos hc, if_pos hc]
    rfl
  · have hnot : ¬ ((enterTesting f kind origin (addTester f s)).sq f).contactor = .opened := by
      rw [enterTesting_sq]; exact hc
    rw [startTest, beginContactorCheck]
    dsimp only
    rw [if_neg hnot, startCloseTimer, State.setSq_sq_same, offerSeq_sq, enterTesting_sq, hrow, FeederRec.checking,
      if_neg hc, if_neg hc]
    rfl

/-- A test that starts joins the testers, and the group keeps its state and what it has pending (R132). -/
theorem startTest_rect (f : FeederId) (kind : TestKind) (origin : Option TestOrigin) (s : State) :
    let r' := (startTest f kind origin s).rect
    r'.state = s.rect.state ∧ r'.testers.get f = true ∧ r'.probeTarget = s.rect.probeTarget
      ∧ r'.runPending = s.rect.runPending := by
  dsimp only
  rw [startTest, OthersKept.beginContactorCheck_rect, enterTesting, reportFeederState, submit_rect,
    State.setSq_rect, enterCore_rect]
  split <;> simp [addTester]

theorem beginContactorCheck_feeder_ne {e : FeederId} (he : e ≠ f) :
    (beginContactorCheck f s).feeder e = s.feeder e := by
  have hother : (FieldCommand.testContactor f false).feeder? ≠ some e := fun h => he (Option.some.inj h).symm
  unfold beginContactorCheck startCloseTimer
  dsimp only
  split
  · exact State.setSq_feeder_ne _ _ he
  · rw [State.setSq_feeder_ne _ _ he, offerSeq_feeder_ne hother]

theorem startTest_feeder_ne {e : FeederId} (he : e ≠ f) : (startTest f kind origin s).feeder e = s.feeder e := by
  rw [startTest, beginContactorCheck_feeder_ne he, enterTesting_feeder_ne he]
  rfl

/-! The group that serves a request at once (R101, R133) -/

/-- The group as it takes a tester: from HOLD it enters PROBE first (R101, R133). -/
def supplied (s : State) : State := if s.rect.state = .hold then probeFromHold s else s

theorem supplied_feeders (s : State) : (supplied s).feeders = s.feeders := by
  unfold supplied
  split
  · exact rectMove_feeders ..
  · rfl

theorem supplied_mode (s : State) : (supplied s).mode = s.mode := by
  unfold supplied
  split
  · exact mode_of_fixed (probeFromHold_fixed s)
  · rfl

theorem supplied_state (s : State) :
    (supplied s).rect.state = if s.rect.state = .hold then .probe else s.rect.state := by
  unfold supplied
  split
  · simp [probeFromHold, RectRec.entered]
  · rfl

theorem supplied_of_hold (h : s.rect.state = .hold) :
    (supplied s).rect.probeTarget = .hold ∧ (supplied s).rect.runPending = false := by
  rw [supplied, if_pos h]
  exact ⟨rfl, rfl⟩

/-- The group can serve a test (rows 3 and 4 of R101). -/
def Supplies (s : State) : Prop := s.rect.state = .running ∨ s.rect.state = .probe ∨ s.rect.state = .hold

/-- The group cannot serve a test (row 5 of R101). -/
def SuppliesNot (s : State) : Prop :=
  s.rect.state = .parked ∨ s.rect.state = .starting ∨ s.rect.state = .faulted

end

/-! The rows of a request (R101) -/

section

variable {f : FeederId} {s : State} {origin : TestOrigin}

/-- No flag stands on the feeder (row 1 of R101). -/
def FeederRec.Unflagged (r : FeederRec) : Prop := r.blind = false ∧ r.frozen = false

theorem FeederRec.unflagged_iff {r : FeederRec} : r.Unflagged ↔ ¬ (r.blind = true ∨ r.frozen = true) := by
  simp [FeederRec.Unflagged]

theorem testRequest_of_flag (h : (s.sq f).blind = true ∨ (s.sq f).frozen = true) :
    testRequest f origin s = abortUnstarted f (if (s.sq f).blind = true then .blind else .frozen) origin s := by
  unfold testRequest
  dsimp only
  by_cases hb : (s.sq f).blind = true
  · rw [if_pos hb, if_pos hb]
  · rw [if_neg hb, if_neg hb, if_pos (h.resolve_left hb)]

theorem testRequest_of_hot (h : (s.sq f).Unflagged) (hhot : thetaReclose s f < (s.feeder f).prot.theta)
    (ho : origin ≠ .cooling) : testRequest f origin s = coolFirst f origin s := by
  obtain ⟨hb, hf⟩ := h
  simp [testRequest, hb, hf, hhot, ho]

theorem testRequest_of_supplies (h : (s.sq f).Unflagged)
    (hcool : ¬ (thetaReclose s f < (s.feeder f).prot.theta ∧ origin ≠ .cooling)) (hr : Supplies s) :
    testRequest f origin s = startTest f .auto (some origin) (supplied s) := by
  obtain ⟨hb, hf⟩ := h
  unfold testRequest
  dsimp only
  rw [hb, hf, if_neg (by simp), if_neg (by simp), if_neg hcool]
  obtain hr | hr | hr := hr <;> simp [supplied, hr]

theorem testRequest_of_no_supply (h : (s.sq f).Unflagged)
    (hcool : ¬ (thetaReclose s f < (s.feeder f).prot.theta ∧ origin ≠ .cooling)) (hr : SuppliesNot s) :
    testRequest f origin s = awaitSupply f origin s := by
  obtain ⟨hb, hf⟩ := h
  unfold testRequest
  dsimp only
  rw [hb, hf, if_neg (by simp), if_neg (by simp), if_neg hcool]
  obtain hr | hr | hr := hr <;> simp [hr]

/-! What each row leaves -/

/-- A request recorded of its feeder, its shot as it was and no timer of the dead time running (R101, R106). -/
structure FeederRec.Asked (origin : TestOrigin) (r r' : FeederRec) : Prop where
  kind : r'.test.kind = some .auto
  origin : r'.test.origin = some origin
  dead : r'.dead = none
  shotCount : r'.shotCount = r.shotCount
  shotTaken : r'.shotTaken = r.shotTaken

theorem FeederRec.Asked.fields {r r' : FeederRec} (h : r.Asked origin r') :
    r'.test.kind = some .auto ∧ r'.test.origin = some origin ∧ r'.dead = none ∧ r'.shotCount = r.shotCount
      ∧ r'.shotTaken = r.shotTaken := ⟨h.kind, h.origin, h.dead, h.shotCount, h.shotTaken⟩

/-- The request's test starts (rows 3 and 4 of R101). -/
structure RequestStarts (f : FeederId) (origin : TestOrigin) (s t : State) : Prop where
  record : t.sq f =
    (s.sq f).checking s.mode .auto (some origin) (some ((s.feeder f).row.brk.tCloseMax * 1000))
  tester : t.rect.testers.get f = true
  state : t.rect.state = if s.rect.state = .hold then .probe else s.rect.state
  probe : s.rect.state = .hold → t.rect.probeTarget = .hold ∧ t.rect.runPending = false

theorem RequestStarts.asked {t : State} (h : RequestStarts f origin s t) : (s.sq f).Asked origin (t.sq f) := by
  rw [h.record]
  exact ⟨rfl, rfl, rfl, rfl, rfl⟩

theorem testRequest_starts (h : (s.sq f).Unflagged)
    (hcool : ¬ (thetaReclose s f < (s.feeder f).prot.theta ∧ origin ≠ .cooling)) (hr : Supplies s) :
    RequestStarts f origin s (testRequest f origin s) := by
  obtain ⟨hstate, htester, htarget, hpending⟩ := startTest_rect f .auto (some origin) (supplied s)
  have hfeeder : (supplied s).feeder f = s.feeder f := congrArg (·.get f) (supplied_feeders s)
  rw [testRequest_of_supplies h hcool hr]
  refine ⟨?_, htester, hstate.trans (supplied_state s), fun hhold => ?_⟩
  · rw [startTest_record, supplied_mode, State.sq, hfeeder]
    rfl
  · obtain ⟨ht, hp⟩ := supplied_of_hold hhold
    exact ⟨htarget.trans ht, hpending.trans hp⟩

/-- The request waits in COOLING (row 2 of R101). -/
theorem coolFirst_leaves (hs : (s.sq f).state = .deadTime) :
    let t := coolFirst f origin s
    (t.sq f).state = .deadTime ∧ (t.sq f).phase = some .cooling ∧ (s.sq f).Asked origin (t.sq f)
      ∧ t.rect = s.rect := by
  have hsq : (enterCooling f s).sq f =
      { s.sq f with phase := some .cooling, dead := none, test := (s.sq f).test.ended } := by
    rw [enterCooling, enterPhase_sq_eq, if_pos hs]
  dsimp only
  rw [coolFirst, State.setSq_sq_same, State.setSq_rect, enterCooling, OthersKept.enterPhase_rect, ← enterCooling,
    hsq]
  exact ⟨hs, rfl, ⟨rfl, rfl, rfl, rfl, rfl⟩, rfl⟩

theorem enterStarting_feeders (s : State) : (enterStarting s).feeders = s.feeders := by
  have hoffer : ∀ a : State, (offerRect false (.acBreaker true) a).feeders = a.feeders :=
    offerRect_feeders false rfl
  unfold enterStarting beginCrossingWait
  dsimp only
  split <;> simp only [State.setRect_feeders, rectMove_feeders, hoffer]

theorem latchTest_feeders (f : FeederId) (s : State) : (latchTest f s).feeders = s.feeders := by
  unfold latchTest
  split
  · rfl
  dsimp only
  split
  · exact enterStarting_feeders _
  · rfl

theorem latchTest_latched (f : FeederId) (s : State) : (latchTest f s).rect.latched.get f = true := by
  unfold latchTest
  split
  · next h => exact h
  dsimp only
  split
  · rw [enterStarting_rect]
    dsimp only
    split <;> simp
  · simp

/-- The request is latched in AWAITING_SUPPLY (row 5 of R101, R106). -/
theorem awaitSupply_leaves (hs : (s.sq f).state = .deadTime) :
    let t := awaitSupply f origin s
    (t.sq f).state = .deadTime ∧ (t.sq f).phase = some .awaitingSupply ∧ (t.sq f).pendingTest = true
      ∧ (s.sq f).Asked origin (t.sq f) ∧ t.rect.latched.get f = true := by
  have hsq : (enterPhase f .awaitingSupply none s).sq f =
      { s.sq f with phase := some .awaitingSupply, dead := none, test := (s.sq f).test.ended } := by
    rw [enterPhase_sq_eq, if_pos hs]
  dsimp only
  rw [awaitSupply, latchTest_sq, State.setSq_sq_same, hsq]
  exact ⟨hs, rfl, rfl, ⟨rfl, rfl, rfl, rfl, rfl⟩, latchTest_latched ..⟩

/-- A feeder back in a phase of DEAD_TIME with the result of a test that did not run (R116). -/
structure FeederRec.Resumed (reason : AbortReason) (ph : Phase) (timer : Timer) (count : Nat) (r' : FeederRec) :
    Prop where
  state : r'.state = .deadTime
  phase : r'.phase = some ph
  dead : r'.dead = timer
  shotCount : r'.shotCount = count
  shotTaken : r'.shotTaken = false
  farClear : r'.farClear = false
  last : r'.test.last = some (abortResult reason none none)

variable {reason : AbortReason}

/-- The record of a request that is served as an aborted test, before its feeder returns (R107, R115). -/
def FeederRec.unstarted (reason : AbortReason) (origin : TestOrigin) (r : FeederRec) : FeederRec :=
  { r with
    farClear := false
    test := { r.test with kind := some .auto, origin := some origin } }.aborted reason none none

/-- The request aborted and reported, its feeder not yet returned (R115). -/
def unstartedAbort (f : FeederId) (reason : AbortReason) (origin : TestOrigin) (s : State) : State :=
  abortEffects f reason none none
    (s.setSq f
      { s.sq f with
        farClear := false
        test := { (s.sq f).test with kind := some .auto, origin := some origin } })

theorem abortUnstarted_eq : abortUnstarted f reason origin s = returnAfterFlag f (unstartedAbort f reason origin s) :=
  rfl

theorem unstartedAbort_sq : (unstartedAbort f reason origin s).sq f = (s.sq f).unstarted reason origin := by
  rw [unstartedAbort, abortEffects_sq, State.setSq_sq_same]
  rfl

theorem unstartedAbort_row : ((unstartedAbort f reason origin s).feeder f).row = (s.feeder f).row :=
  (settings_of_fixed (by simp [unstartedAbort]) f).1

/-- With its shot taken, the feeder dead-times for the shot given back (R102, R115, R116). -/
theorem abortUnstarted_of_shot (hs : (s.sq f).state = .deadTime) (hshot : (s.sq f).shotTaken = true) :
    ((abortUnstarted f reason origin s).sq f).Resumed reason .timing
      (some (deadTime (s.feeder f).row.test ((s.sq f).shotCount - 1 + 1) * 1000)) ((s.sq f).shotCount - 1) := by
  have hsq := unstartedAbort_sq (f := f) (s := s) (reason := reason) (origin := origin)
  have htaken : ((unstartedAbort f reason origin s).sq f).shotTaken = true := by rw [hsq]; exact hshot
  have hdead : ((unstartedAbort f reason origin s).sq f).state = .deadTime := by rw [hsq]; exact hs
  have hrow : ((giveShotBack f (unstartedAbort f reason origin s)).feeder f).row = (s.feeder f).row :=
    (settings_of_fixed (giveShotBack_fixed ..) f).1.trans unstartedAbort_row
  rw [abortUnstarted_eq, returnAfterFlag, if_pos htaken, enterTiming, enterPhase_sq_eq,
    if_pos (by rw [giveShotBack_sq_state]; exact hdead), hrow, giveShotBack_sq, if_pos htaken, hsq]
  exact ⟨hs, rfl, rfl, rfl, rfl, rfl, rfl⟩

/-- A wait for the far end that took no shot runs again (R104, R116). -/
theorem abortUnstarted_of_wait (hs : (s.sq f).state = .deadTime) (hshot : (s.sq f).shotTaken = false) :
    ((abortUnstarted f reason .awaitingFarEnd s).sq f).Resumed reason .awaitingFarEnd
      (some ((s.feeder f).row.test.tFollow * 1000)) (s.sq f).shotCount := by
  have hsq := unstartedAbort_sq (f := f) (s := s) (reason := reason) (origin := .awaitingFarEnd)
  have htaken : ¬ ((unstartedAbort f reason .awaitingFarEnd s).sq f).shotTaken = true := by
    rw [hsq]
    exact Bool.eq_false_iff.mp hshot
  have horigin : ((unstartedAbort f reason .awaitingFarEnd s).sq f).test.origin = some .awaitingFarEnd := by
    rw [hsq]; rfl
  have hdead : ((unstartedAbort f reason .awaitingFarEnd s).sq f).state = .deadTime := by rw [hsq]; exact hs
  rw [abortUnstarted_eq, returnAfterFlag, if_neg htaken, horigin, enterFarEndWait, enterPhase_sq_eq, if_pos hdead,
    unstartedAbort_row, hsq]
  exact ⟨hs, rfl, rfl, rfl, hshot, rfl, rfl⟩

theorem abortUnstarted_rect : (abortUnstarted f reason origin s).rect = s.rect := by
  rw [abortUnstarted_eq, OthersKept.returnAfterFlag_rect, unstartedAbort, abortEffects_rect]
  rfl

theorem abortUnstarted_reported (hroom : s.reports.length < 64) :
    Reported (abortUnstarted f reason origin s) .lineTest (.feeder f) (some reason.cause) none none :=
  (abortEffects_reported (f := f) (uAvg := none) (ubAvg := none) (by simpa using hroom)).mono
    UnitActs.refl.returnAfterFlag.reports

/-! A request reaches no other feeder -/

theorem abortEffects_feeder_ne {uAvg ubAvg : Option Nat} {e : FeederId} (he : e ≠ f) :
    (abortEffects f reason uAvg ubAvg s).feeder e = s.feeder e := by
  have hother : (FieldCommand.testContactor f false).feeder? ≠ some e := fun h => he (Option.some.inj h).symm
  rw [abortEffects_eq, submit_feeder, State.setSq_feeder_ne _ _ he, abortOffered]
  dsimp only
  split
  · rw [offerSeq_feeder_ne hother, State.setSq_feeder_ne _ _ he]
  · exact State.setSq_feeder_ne _ _ he

theorem returnAfterFlag_feeder_ne {e : FeederId} (he : e ≠ f) : (returnAfterFlag f s).feeder e = s.feeder e := by
  unfold returnAfterFlag
  dsimp only
  split
  · rw [enterTiming, enterPhase_feeder_ne _ _ _ he, giveShotBack_feeder_ne _ he]
  split <;> exact enterPhase_feeder_ne _ _ _ he

theorem testRequest_feeder_ne {e : FeederId} (he : e ≠ f) : (testRequest f origin s).feeder e = s.feeder e := by
  have habort : ∀ reason, (abortUnstarted f reason origin s).feeder e = s.feeder e := fun reason => by
    rw [abortUnstarted_eq, returnAfterFlag_feeder_ne he, unstartedAbort, abortEffects_feeder_ne he,
      State.setSq_feeder_ne _ _ he]
  have hstart : ∀ a : State, a.feeders = s.feeders → (startTest f .auto (some origin) a).feeder e = s.feeder e :=
    fun a ha => (startTest_feeder_ne he).trans (congrArg (·.get e) ha)
  unfold testRequest
  dsimp only
  split
  · exact habort _
  split
  · exact habort _
  split
  · rw [coolFirst, State.setSq_feeder_ne _ _ he, enterCooling, enterPhase_feeder_ne _ _ _ he]
  cases s.rect.state with
  | running | probe => exact hstart _ rfl
  | hold => exact hstart _ (rectMove_feeders ..)
  | parked | starting | faulted =>
    exact (congrArg (·.get e) (latchTest_feeders ..)).trans
      ((State.setSq_feeder_ne _ _ he).trans (enterPhase_feeder_ne _ _ _ he))

end

/-! A section message (R105, R157) -/

section

variable {k : Tie} {bytes : List Byte} {fr : RxFrame} {sec : Byte} {hold : Bool} {f : FeederId} {s a : State}

/-- A section message as it is heard: the silence timer restarted and the message reported (R145, R157). -/
def sectionHeard (k : Tie) (hold : Bool) (sec : Byte) (s : State) : State :=
  submit .sectionMsg (.tie k) none (some sec.toNat) (some (if hold then 2 else 1))
    (restartSilence k (goodFrame k.port s))

theorem restartSilence_beside (k : Tie) (s : State) :
    (restartSilence k s).feeders = s.feeders ∧ (restartSilence k s).rect = s.rect := by
  unfold restartSilence
  dsimp only
  split <;> exact ⟨rfl, rfl⟩

/-- The feeders, the group and the mode as a message that is heard leaves them. -/
theorem sectionHeard_beside (k : Tie) (hold : Bool) (sec : Byte) (s : State) :
    (sectionHeard k hold sec s).feeders = s.feeders ∧ (sectionHeard k hold sec s).rect = s.rect
      ∧ (sectionHeard k hold sec s).mode = s.mode := by
  obtain ⟨hfeeders, hrect⟩ := restartSilence_beside k (goodFrame k.port s)
  obtain ⟨hgood, -⟩ := goodFrame_keeps k.port s
  refine ⟨?_, ?_, mode_of_fixed (by simp [sectionHeard])⟩
  · rw [sectionHeard, submit_feeders, hfeeders, goodFrame_feeders]
  · rw [sectionHeard, submit_rect, hrect, hgood]

theorem mappedFeeder_of_feeders (h : a.feeders = s.feeders) (k : Tie) (sec : Byte) :
    mappedFeeder a k sec = mappedFeeder s k sec := by
  simp only [mappedFeeder, State.feeder, h]

/-- The feeder serves the section messages that come for `sec` on tie `k` (R157). -/
def SectionServed (s : State) (k : Tie) (sec : Byte) (f : FeederId) : Prop :=
  mappedFeeder s k sec = some f ∧ s.mode = .service ∧ isFollower s f = true ∧ (s.sq f).state = .deadTime

theorem receiveSection_of_served (h : SectionServed s k sec f) :
    receiveSection k hold sec s =
      (if hold then lockout f .farLockout false else followerClear f)
        (submit .sectionMsg (.tie k) none (some sec.toNat) (some (if hold then 2 else 1)) s) := by
  obtain ⟨hmap, hserves⟩ := h
  simp only [receiveSection, hmap]
  rw [if_pos hserves]
  cases hold <;> rfl

theorem receiveSection_of_unserved (h : ∀ f, ¬ SectionServed s k sec f) :
    receiveSection k hold sec s =
      submit .sectionMsg (.tie k) none (some sec.toNat) (some (if hold then 2 else 1)) s := by
  unfold receiveSection
  dsimp only
  split
  · rfl
  · next f hmap => rw [if_neg fun hserves => h f ⟨hmap, hserves⟩]

theorem sectionServed_of_feeders (hfeeders : a.feeders = s.feeders) (hmode : a.mode = s.mode) :
    SectionServed a k sec f ↔ SectionServed s k sec f := by
  simp only [SectionServed, mappedFeeder_of_feeders hfeeders, isFollower, State.sq, State.feeder, hfeeders, hmode]

theorem exec_sectionMessage (h : Arrives k.port bytes fr s) (hkind : fr.kind = .tie)
    (hread : readTie fr.payload = some (if hold then .sectionHold sec else .sectionClear sec)) :
    exec (if hold then .sectionHoldReceived k bytes else .sectionClearReceived k bytes) s =
      .next (receiveSection k hold sec (restartSilence k (goodFrame k.port s))) := by
  have hframe : switchTie k fr (goodFrame k.port s) =
      receiveSection k hold sec (restartSilence k (goodFrame k.port s)) := by
    rw [switchTie, if_pos hkind, tieFrame]
    simp only [hread]
    cases hold <;> rfl
  have hreceive : ∀ stamp, receive k.port stamp bytes s =
      receiveSection k hold sec (restartSilence k (goodFrame k.port s)) := fun stamp => by
    rw [h.receive_eq, ← hframe]
    cases k <;> rfl
  cases hold
  · exact congrArg _ (hreceive _)
  · exact congrArg _ (hreceive _)

/-- The message served by a feeder, and by none (R157). -/
theorem exec_sectionMessage_cases (h : Arrives k.port bytes fr s) (hkind : fr.kind = .tie)
    (hread : readTie fr.payload = some (if hold then .sectionHold sec else .sectionClear sec)) :
    ∃ t, exec (if hold then .sectionHoldReceived k bytes else .sectionClearReceived k bytes) s = .next t
      ∧ ((∀ f, ¬ SectionServed s k sec f) → t = sectionHeard k hold sec s)
      ∧ (∀ f, SectionServed s k sec f →
          (hold = true → t = lockout f .farLockout false (sectionHeard k true sec s))
            ∧ (hold = false → t = followerClear f (sectionHeard k false sec s))) := by
  obtain ⟨hfeeders, -⟩ := restartSilence_beside k (goodFrame k.port s)
  have hserved : ∀ f, SectionServed (restartSilence k (goodFrame k.port s)) k sec f ↔ SectionServed s k sec f :=
    fun f => sectionServed_of_feeders (hfeeders.trans (goodFrame_feeders ..)) (mode_of_fixed (by simp))
  refine ⟨_, exec_sectionMessage h hkind hread, fun hnone => ?_, fun f hf => ⟨?_, ?_⟩⟩
  · exact receiveSection_of_unserved fun f hf => hnone f ((hserved f).mp hf)
  · rintro rfl
    exact receiveSection_of_served ((hserved f).mpr hf)
  · rintro rfl
    exact receiveSection_of_served ((hserved f).mpr hf)

/-! SECTION_HOLD (R105) -/

/-- The lockout of a feeder in DEAD_TIME withdraws its latched test (R86, R100). -/
theorem farLockout_leaves (hs : (s.sq f).state = .deadTime) :
    let t := lockout f .farLockout false s
    (t.sq f).state = .lockout ∧ (t.sq f).lockoutCause = some .farLockout ∧ (t.sq f).dead = none
      ∧ (t.sq f).phase = none ∧ (t.sq f).farClear = false
      ∧ t.rect.latched.get f = (s.rect.latched.get f && !(s.sq f).pendingTest)
      ∧ (∀ e, e ≠ f → t.feeder e = s.feeder e) := by
  have hnot : (s.sq f).state ≠ .testing := by simp [hs]
  obtain ⟨hstate, hcause, -, -, -, -, hdead, -, hphase, -⟩ :=
    lockout_stopped (f := f) (offered := false) (s := s) (cause := .farLockout) (by decide)
  obtain ⟨hothers, -⟩ := lockout_of_not_testing (f := f) (cause := .farLockout) (offered := false) hnot
  obtain ⟨-, hrect, -⟩ := lockout_beside f .farLockout false s
  refine ⟨hstate, hcause, hdead, hphase, ?_, ?_, hothers⟩
  · rw [lockout_sq]; rfl
  · rw [hrect, lockoutLeft_of_not_testing hnot, lockedOut, submit_rect, State.setSq_rect, enterCore_rect]
    split
    · next hp => simp [hp.1]
    · next hp => simp [show (s.sq f).pendingTest = false by simpa using hp]

/-! SECTION_CLEAR in AWAITING_FAR_END (R101, R104) -/

/-- What SECTION_CLEAR makes of a feeder that waits for the far end, by the rows of R101. -/
structure WaitEnded (f : FeederId) (s t : State) : Prop where
  others : ∀ e, e ≠ f → t.feeder e = s.feeder e
  flagged : (s.sq f).blind = true ∨ (s.sq f).frozen = true →
    t.rect = s.rect
      ∧ ∃ reason, reason = (if (s.sq f).blind = true then AbortReason.blind else .frozen)
        ∧ (if (s.sq f).shotTaken = true then
            (t.sq f).Resumed reason .timing
              (some (deadTime (s.feeder f).row.test ((s.sq f).shotCount - 1 + 1) * 1000)) ((s.sq f).shotCount - 1)
           else
            (t.sq f).Resumed reason .awaitingFarEnd (some ((s.feeder f).row.test.tFollow * 1000))
              (s.sq f).shotCount)
  hot : (s.sq f).Unflagged → thetaReclose s f < (s.feeder f).prot.theta →
    (t.sq f).state = .deadTime ∧ (t.sq f).phase = some .cooling ∧ (s.sq f).Asked .awaitingFarEnd (t.sq f)
      ∧ t.rect = s.rect
  starts : (s.sq f).Unflagged → ¬ thetaReclose s f < (s.feeder f).prot.theta → Supplies s →
    (t.sq f).state = .testing ∧ (t.sq f).farClear = false ∧ (s.sq f).Asked .awaitingFarEnd (t.sq f)
      ∧ t.rect.testers.get f = true ∧ t.rect.state = (if s.rect.state = .hold then .probe else s.rect.state)
      ∧ (s.rect.state = .hold → t.rect.probeTarget = .hold ∧ t.rect.runPending = false)
  waits : (s.sq f).Unflagged → ¬ thetaReclose s f < (s.feeder f).prot.theta → SuppliesNot s →
    (t.sq f).state = .deadTime ∧ (t.sq f).phase = some .awaitingSupply ∧ (t.sq f).pendingTest = true
      ∧ (s.sq f).Asked .awaitingFarEnd (t.sq f) ∧ t.rect.latched.get f = true

/-- A request made with the wait still recorded, its timer running. -/
theorem testRequest_waitEnded (hs : (s.sq f).state = .deadTime) :
    WaitEnded f s (testRequest f .awaitingFarEnd s) where
  others := fun _ he => testRequest_feeder_ne he
  flagged := fun hflag => by
    rw [testRequest_of_flag hflag]
    refine ⟨abortUnstarted_rect, _, rfl, ?_⟩
    split
    · next hshot => exact abortUnstarted_of_shot hs hshot
    · next hshot => exact abortUnstarted_of_wait hs (Bool.eq_false_iff.mpr hshot)
  hot := fun hflag hhot => by
    rw [testRequest_of_hot hflag hhot (by decide)]
    exact coolFirst_leaves hs
  starts := fun hflag hcool hr => by
    have h := testRequest_starts (origin := .awaitingFarEnd) hflag (fun hh => hcool hh.1) hr
    refine ⟨?_, ?_, h.asked, h.tester, h.state, h.probe⟩ <;> rw [h.record] <;> rfl
  waits := fun hflag hcool hr => by
    rw [testRequest_of_no_supply hflag (fun hh => hcool hh.1) hr]
    exact awaitSupply_leaves hs

/-- The wait for the far end over, its request not yet made (R104). -/
def waitOver (f : FeederId) (s : State) : State := s.setSq f { s.sq f with dead := none }

theorem waitOver_sq : (waitOver f s).sq f = { s.sq f with dead := none } := State.setSq_sq_same ..

theorem waitOver_beside :
    (waitOver f s).rect = s.rect ∧ (waitOver f s).reports = s.reports
      ∧ ((waitOver f s).feeder f).row = (s.feeder f).row ∧ ((waitOver f s).feeder f).prot = (s.feeder f).prot
      ∧ thetaReclose (waitOver f s) f = thetaReclose s f
      ∧ ∀ e, e ≠ f → (waitOver f s).feeder e = s.feeder e :=
  ⟨rfl, rfl, by simp [waitOver], by simp [waitOver], by simp [waitOver, thetaReclose],
    fun _ he => State.setSq_feeder_ne _ _ he⟩

/-- SECTION_CLEAR stops the wait before the request (R104). -/
theorem followerClear_waitEnded (hs : (s.sq f).state = .deadTime) (hp : (s.sq f).phase = some .awaitingFarEnd) :
    WaitEnded f s (followerClear f s) := by
  have hclear : followerClear f s = testRequest f .awaitingFarEnd (waitOver f s) := by
    simp only [followerClear, hp, waitOver]
  obtain ⟨hrect, -, hrow, hprot, hreclose, hbeside⟩ := waitOver_beside (f := f) (s := s)
  obtain ⟨hothers, hflagged, hhot, hstarts, hwaits⟩ :=
    testRequest_waitEnded (f := f) (s := waitOver f s) (by rw [waitOver_sq]; exact hs)
  have hasked : ∀ r', FeederRec.Asked .awaitingFarEnd { s.sq f with dead := none } r' →
      (s.sq f).Asked .awaitingFarEnd r' := fun _ h => ⟨h.kind, h.origin, h.dead, h.shotCount, h.shotTaken⟩
  simp only [waitOver_sq, hrect, hrow, hprot, hreclose, Supplies, SuppliesNot] at hflagged hhot hstarts hwaits
  rw [hclear]
  refine ⟨fun e he => (hothers e he).trans (hbeside e he), hflagged, fun hu ht => ?_,
    fun hu ht hr => ?_, fun hu ht hr => ?_⟩
  · obtain ⟨h1, h2, h3, h4⟩ := hhot hu ht
    exact ⟨h1, h2, hasked _ h3, h4⟩
  · obtain ⟨h1, h2, h3, h4⟩ := hstarts hu ht hr
    exact ⟨h1, h2, hasked _ h3, h4⟩
  · obtain ⟨h1, h2, h3, h4, h5⟩ := hwaits hu ht hr
    exact ⟨h1, h2, h3, hasked _ h4, h5⟩

end

/-- Settles O46: a message is heard on its tie and served by one feeder or by none; each phase of that feeder
is a branch, and the wait for the far end makes one of the requests of R101. -/
theorem sectionMessageServed : Obligations.SectionMessageServed := by
  intro k bytes fr sec hold s harrives hkind hread
  obtain ⟨t, hexec, hnone, hserved⟩ := exec_sectionMessage_cases harrives hkind hread
  obtain ⟨hfeeders, hrect, -⟩ := sectionHeard_beside k hold sec s
  have hfeeder : ∀ e, (sectionHeard k hold sec s).feeder e = s.feeder e := fun e => congrArg (·.get e) hfeeders
  have hsq : ∀ e, (sectionHeard k hold sec s).sq e = s.sq e := fun e => congrArg FeederUnit.sq (hfeeder e)
  refine ⟨t, hexec, hnone, fun f hf hh hphase => ?_, fun f hf hh hphase => ?_, fun f hf hh hphase => ?_,
    fun f hf hh => ?_⟩
  all_goals
    obtain ⟨hheld, hcleared⟩ := hserved f hf
    obtain ⟨-, -, -, hdeadTime⟩ := hf
    subst hh
  · rw [hcleared rfl]
    simp only [followerClear, hsq, hphase]
    rfl
  · rw [hcleared rfl]
    obtain hphase | hphase := hphase <;> simp only [followerClear, hsq, hphase] <;> rfl
  · obtain ⟨hothers, hflagged, hhot, hstarts, hwaits⟩ := followerClear_waitEnded (f := f)
      (s := sectionHeard k false sec s) (by rw [hsq]; exact hdeadTime) (by rw [hsq]; exact hphase)
    simp only [hsq, hrect, hfeeder, thetaReclose, Supplies, SuppliesNot] at hothers hflagged hhot hstarts hwaits
    rw [hcleared rfl]
    refine ⟨hothers, fun hflag => ?_, fun hflag hot => ?_, fun hflag hcool => ⟨fun hr => ?_, fun hr => ?_⟩⟩
    · obtain ⟨hrect', reason, rfl, hresumed⟩ := hflagged hflag
      split at hresumed
      · next hshot =>
        rw [if_pos hshot]
        exact ⟨hrect', hresumed.state, hresumed.farClear, hresumed.last, hresumed.phase, hresumed.shotCount,
          hresumed.dead⟩
      · next hshot =>
        rw [if_neg hshot]
        exact ⟨hrect', hresumed.state, hresumed.farClear, hresumed.last, hresumed.phase, hresumed.shotCount,
          hresumed.dead⟩
    · obtain ⟨hstate, hcooling, hasked, hrect'⟩ := hhot (FeederRec.unflagged_iff.mpr hflag) hot
      exact ⟨hstate, hcooling, hasked.fields, hrect'⟩
    · obtain ⟨hstate, hfar, hasked, htester, hgroup, hprobe⟩ :=
        hstarts (FeederRec.unflagged_iff.mpr hflag) hcool hr
      exact ⟨hstate, hfar, hasked.fields, htester, hgroup, hprobe⟩
    · obtain ⟨hstate, hawaits, hpending, hasked, hlatched⟩ :=
        hwaits (FeederRec.unflagged_iff.mpr hflag) hcool hr
      exact ⟨hstate, hawaits, hasked.fields, hpending, hlatched⟩
  · have hl := farLockout_leaves (f := f) (s := sectionHeard k true sec s) (by rw [hsq]; exact hdeadTime)
    simp only [hsq, hrect, hfeeder] at hl
    rw [hheld rfl]
    exact hl


end Sys2Proof.Machine
end

section
/-! PROOF. An accepted sample on its way to the sequence unit of a feeder that is neither armed nor CLOSED (R41,
R52), and the ends of the dead time, of the wait for the far end and of COOLING (R101 to R104). -/

namespace Sys2Proof.Machine

set_option Elab.async false

/-! A sample on its way to the sequence unit (R41, R52) -/

/-- From `s` to `t` nothing happens but to feeder records, capture slots and the station port, and at most `n`
reports are made. -/
structure Quiet (n : Nat) (s t : State) : Prop where
  rect : t.rect = s.rect
  ties : t.ties = s.ties
  fieldPort : (t.port .fp).urgent = (s.port .fp).urgent
  reports : t.reports.length ≤ s.reports.length + n

namespace Quiet

variable {n m : Nat} {f : FeederId} {s t u : State}

theorem refl : Quiet 0 s s := ⟨rfl, rfl, rfl, le_rfl⟩

theorem trans (h : Quiet n s t) (h' : Quiet m t u) : Quiet (n + m) s u :=
  ⟨h'.rect.trans h.rect, h'.ties.trans h.ties, h'.fieldPort.trans h.fieldPort, by
    have := h.reports; have := h'.reports; omega⟩

theorem mono (h : Quiet n s t) (hn : n ≤ m := by omega) : Quiet m s t :=
  { h with reports := h.reports.trans (by omega) }

theorem setFeeder {v : FeederUnit} (h : Quiet n s t) : Quiet n s (t.setFeeder f v) :=
  ⟨h.rect, h.ties, h.fieldPort, h.reports⟩

theorem setSlot {k : SlotId} {c : Slot} (h : Quiet n s t) : Quiet n s (t.setSlot k c) :=
  ⟨h.rect, h.ties, h.fieldPort, h.reports⟩

theorem setStationPort {r : PortRec} (h : Quiet n s t) : Quiet n s (t.setPort .sp r) :=
  ⟨h.rect, h.ties, h.fieldPort, h.reports⟩

theorem submit {kind : ReportKind} {src : Source} {x : Option Cause} {v w : Option Int} (h : Quiet n s t) :
    Quiet (n + 1) s (submit kind src x v w t) :=
  ⟨by rw [submit_rect]; exact h.rect, by rw [submit_ties]; exact h.ties, by rw [submit_port]; exact h.fieldPort,
    (submit_adds_one ..).trans (by have := h.reports; omega)⟩

theorem ite {cond : Prop} {dec : Decidable cond} (ht : Quiet n s t) (hu : Quiet n s u) :
    Quiet n s (if cond then t else u) := by split <;> assumption

theorem goodFrame (p : Port) (s : State) : Quiet 1 s (goodFrame p s) := by
  obtain ⟨hrect, hties, hurgent, -, hreports⟩ := goodFrame_keeps p s
  exact ⟨hrect, hties, hurgent .fp, hreports⟩

theorem fillCapture {k : Nat} {x : Point} : Quiet 1 s (fillCapture f k x s) := by
  unfold Machine.fillCapture
  split
  · exact refl.mono
  · exact ite refl.setSlot.mono refl.setSlot.submit

theorem decimate {fr : RxFrame} : Quiet 0 s (decimate f fr s) := by
  unfold Machine.decimate
  refine ite refl (ite ?_ refl.setFeeder)
  rw [offerForwarded_eq]
  exact refl.setFeeder.setStationPort

theorem sampleRecorded {q : Byte} {x : FeederTaken} {fr : RxFrame} :
    Quiet 1 s (sampleRecorded f q x (some fr) s) :=
  ((refl.setFeeder.trans fillCapture).trans decimate).mono

theorem watchSample {q : Byte} : Quiet 1 s (watchSample f q s) :=
  ite refl.mono (ite refl.setFeeder.setFeeder.submit refl.setFeeder.mono)

theorem thermalSample {i : Int} : Quiet 1 s (thermalSample f i s) :=
  ite (ite refl.setFeeder.submit (ite refl.setFeeder.submit refl.setFeeder.mono)) refl.mono

end Quiet

section

variable {f : FeederId} {bytes : List Byte} {fr : RxFrame} {x : FeederSample} {g : Nat} {y : FeederTaken}
  {s : State}

/-- A feeder that is neither armed nor CLOSED, whose samples its sequence unit may take (R52). -/
def Idle (f : FeederId) (s : State) : Prop := (s.sq f).state = .deadTime ∨ (s.sq f).state = .testing

/-- Frozen supervision of such a feeder moves its counts and can only clear the flag (R45, R46). -/
theorem frozenSample_of_idle (h : Idle f s) :
    Quiet 1 s (frozenSample f y s)
      ∧ ∃ k z, (frozenSample f y s).feeder f =
          { s.feeder f with intake := k, sq := { (s.feeder f).sq with frozen := z } }
        ∧ ((s.feeder f).sq.frozen = false → z = false) := by
  obtain ⟨a, b, hf⟩ | ⟨hclear, -⟩ | hf := frozenSample_cases f y s
  · rw [hf]
    exact ⟨Quiet.refl.setFeeder.mono, _, (s.feeder f).sq.frozen, State.setIntake_feeder_same .., id⟩
  · have hno : repeats s f y = false := by
      obtain h | h := h <;> simp [repeats, h]
    rw [frozenSample_of_clear hclear, detectFrozen, hno]
    exact ⟨Quiet.refl.setFeeder.mono, _, (s.feeder f).sq.frozen, State.setIntake_feeder_same .., id⟩
  · rw [hf]
    refine ⟨Quiet.refl.setFeeder.submit, { (s.feeder f).intake with clearingCount := 0 }, false, ?_, fun _ => rfl⟩
    rw [submit_feeder, State.setFeeder_feeder_same]

/-- Protection of such a feeder runs the thermal image alone (R52, R63). -/
theorem protectionSample_of_idle (h : Idle f s) : protectionSample f y s = thermalSample f y.i s := by
  unfold protectionSample
  rw [if_neg]
  obtain h | h := h <;> cases hm : s.mode <;> simp [armed, h]

/-- θ of a feeder after a sample of current `i` (R63). -/
def FeederUnit.heated (u : FeederUnit) (i : Int) : Nat :=
  if u.valid then thermalNext u.row.prot.k i u.prot.theta else u.prot.theta

theorem thermalSample_heated (i : Int) (s : State) :
    ∃ p, (thermalSample f i s).feeder f = { s.feeder f with prot := p } ∧ p.theta = (s.feeder f).heated i := by
  cases hv : (s.feeder f).valid with
  | false => exact ⟨_, by rw [thermalSample_of_invalid hv], by simp [FeederUnit.heated, hv]⟩
  | true => exact ⟨_, thermalSample_feeder_of_valid hv, by simp [FeederUnit.heated, FeederUnit.warmed, hv]⟩

/-- The state in which the sequence unit of an idle feeder takes a sample of current `i`: BLIND is over, and
FROZEN and θ are as their units leave them. -/
structure SampleHanded (f : FeederId) (i : Int) (s t : State) : Prop where
  fixed : t.fixed = s.fixed
  quiet : Quiet 5 s t
  record : ∃ z, t.sq f = { s.sq f with blind := false, frozen := z } ∧ ((s.sq f).frozen = false → z = false)
  theta : (t.feeder f).prot.theta = (s.feeder f).heated i

/-- The sample recorded, watched, protected and supervised, at an idle feeder (R41). -/
theorem serveSample_handed (q : Byte) (h : Idle f s) :
    ∃ t, serveSample f q y (sampleRecorded f q y (some fr) s) = sequenceSample f y t ∧ t.fixed = s.fixed
      ∧ Quiet 4 s t
      ∧ (∃ z, t.sq f = { s.sq f with blind := false, frozen := z } ∧ ((s.sq f).frozen = false → z = false))
      ∧ (t.feeder f).prot.theta = (s.feeder f).heated y.i := by
  have hout : (s.sq f).state ≠ .out := by obtain h | h := h <;> simp [h]
  obtain ⟨⟨d, hrecorded⟩, -⟩ := sampleRecorded_unit f q y (some fr) s
  have hwatched := watchSample_unit f q (sampleRecorded f q y (some fr) s)
  rw [hrecorded, if_neg (show (s.feeder f).sq.state ≠ .out from hout)] at hwatched
  have hidle : Idle f (watchSample f q (sampleRecorded f q y (some fr) s)) := by
    rw [Idle, State.sq, hwatched]; exact h
  obtain ⟨p, hheated, htheta⟩ :=
    thermalSample_heated (f := f) y.i (watchSample f q (sampleRecorded f q y (some fr) s))
  rw [hwatched] at hheated htheta
  have hidle' : Idle f (thermalSample f y.i (watchSample f q (sampleRecorded f q y (some fr) s))) := by
    rw [Idle, State.sq, hheated]; exact h
  obtain ⟨hquiet, k, z, hfrozen, hclear⟩ := frozenSample_of_idle (y := y) hidle'
  rw [hheated] at hfrozen hclear
  refine ⟨_, ?_, ?_, ((Quiet.sampleRecorded.trans Quiet.watchSample).trans Quiet.thermalSample).trans hquiet,
    ⟨z, ?_, hclear⟩, ?_⟩
  · rw [serveSample, protectionSample_of_idle hidle]
  · rw [frozenSample_fixed, thermalSample_fixed, watchSample_fixed]
    unfold sampleRecorded
    simp
  · rw [State.sq, hfrozen]; rfl
  · rw [hfrozen]; exact htheta

theorem handOn_congr {t : State} (hfeeder : t.feeder f = s.feeder f) (hrect : t.rectIntake = s.rectIntake) :
    handOn t f g x = handOn s f g x := by
  simp only [handOn, hfeeder, hrect]

/-- A sample of an idle feeder reaches its sequence unit (R41, R52). -/
theorem exec_feederSample_of_idle (htakes : TakesSample f bytes fr x g s) (h : Idle f s) :
    ∃ t, exec (.feederSampleReceived bytes) s = .next (sequenceSample f (handOn s f g x) t)
      ∧ SampleHanded f (handOn s f g x).i s t := by
  obtain ⟨⟨harrives, hrole, hbinding, hside, hm⟩, hkind, hx, hg, hfault⟩ := htakes
  have hgood := goodFrame_fixed .fp s
  have hfeeder : (goodFrame .fp s).feeder f = s.feeder f := goodFrame_feeder ..
  have hsq : (goodFrame .fp s).sq f = s.sq f := congrArg FeederUnit.sq hfeeder
  have hhanded : handOn (goodFrame .fp s) f g x = handOn s f g x := handOn_congr hfeeder (rectIntake_of_fixed hgood)
  obtain ⟨t, ht, hfixed, hquiet, hrecord, htheta⟩ := serveSample_handed (f := f) (fr := fr) (y := handOn s f g x)
    (s := goodFrame .fp s) fr.seq (by rw [Idle, hsq]; exact h)
  rw [hsq] at hrecord
  rw [hfeeder] at htheta
  refine ⟨t, ?_, hfixed.trans hgood, (Quiet.goodFrame .fp s).trans hquiet, hrecord, htheta⟩
  rw [exec_feederSample harrives hrole hbinding hside hkind,
    feederSample_of_taken (by rwa [mode_of_fixed hgood]) hx (by rwa [hfeeder]), takeFeeder,
    if_neg (by simp [hfault]), ← ht, ← hhanded]
  rfl

end

/-! The end of the dead time and of the wait for the far end (R102, R104) -/

section

variable {f : FeederId} {s : State} {origin : TestOrigin}

theorem supplies_or_not (s : State) : Supplies s ∨ SuppliesNot s := by
  unfold Supplies SuppliesNot
  cases s.rect.state <;> simp

/-- A request that no flag aborts is recorded, wherever it waits or starts (R101). -/
theorem testRequest_asks (hs : (s.sq f).state = .deadTime) (hu : (s.sq f).Unflagged) :
    (s.sq f).Asked origin ((testRequest f origin s).sq f) := by
  by_cases hhot : thetaReclose s f < (s.feeder f).prot.theta ∧ origin ≠ .cooling
  · obtain ⟨ht, ho⟩ := hhot
    obtain ⟨-, -, hasked, -⟩ := coolFirst_leaves (origin := origin) hs
    rwa [testRequest_of_hot hu ht ho]
  obtain hr | hr := supplies_or_not s
  · exact (testRequest_starts hu hhot hr).asked
  · obtain ⟨-, -, -, hasked, -⟩ := awaitSupply_leaves (origin := origin) hs
    rwa [testRequest_of_no_supply hu hhot hr]

/-- The dead time has run out: the shot counted and its mark set (R102). -/
def shotCounted (f : FeederId) (s : State) : State :=
  s.setSq f { s.sq f with dead := none, shotCount := (s.sq f).shotCount + 1, shotTaken := true }

theorem shotCounted_sq : (shotCounted f s).sq f =
    { s.sq f with dead := none, shotCount := (s.sq f).shotCount + 1, shotTaken := true } :=
  State.setSq_sq_same ..

/-- Whether the feeder waits for the far end (R102). -/
def WaitsForFarEnd (s : State) (f : FeederId) : Prop := isFollower s f = true ∧ (s.sq f).farClear = false

theorem deadTimeExpired_of_wait (hd : (s.sq f).dead ≠ none) (hp : (s.sq f).phase = some .timing)
    (hw : WaitsForFarEnd s f) : deadTimeExpired f s = enterFarEnd f (shotCounted f s) := by
  unfold deadTimeExpired
  dsimp only
  rw [if_neg (by simp [hd, hp])]
  exact if_pos hw

theorem deadTimeExpired_of_request (hd : (s.sq f).dead ≠ none) (hp : (s.sq f).phase = some .timing)
    (hw : ¬ WaitsForFarEnd s f) : deadTimeExpired f s = testRequest f .timing (shotCounted f s) := by
  unfold deadTimeExpired
  dsimp only
  rw [if_neg (by simp [hd, hp])]
  exact if_neg hw

theorem enterFarEndWait_sq (hs : (s.sq f).state = .deadTime) :
    (enterFarEndWait f s).sq f =
      { s.sq f with phase := some .awaitingFarEnd, dead := some ((s.feeder f).row.test.tFollow * 1000)
                    test := (s.sq f).test.ended } := by
  rw [enterFarEndWait, enterPhase_sq_eq, if_pos hs]
  rfl

/-- A wait that a DOWN tie ends at once asks for its test with the shot as it was counted (R104). -/
theorem enterFarEnd_shotCount (hs : (s.sq f).state = .deadTime) (hu : (s.sq f).Unflagged) :
    ((enterFarEnd f s).sq f).shotCount = (s.sq f).shotCount := by
  have hwait := enterFarEndWait_sq hs
  unfold enterFarEnd
  dsimp only
  split
  · have hasked := testRequest_asks (f := f) (origin := .awaitingFarEnd)
      (s := (enterFarEndWait f s).setSq f { (enterFarEndWait f s).sq f with dead := none })
      (by rw [State.setSq_sq_same, hwait]; exact hs) (by rw [State.setSq_sq_same, hwait]; exact hu)
    rw [farEndDown, submit_sq, hasked.shotCount, State.setSq_sq_same, hwait]
  · rw [hwait]

theorem enterFarEnd_of_up (hup : tieDown s f = false) :
    enterFarEnd f s = enterFarEndWait f s := by
  obtain ⟨-, -, hties⟩ := enterPhase_beside f .awaitingFarEnd
    (some ((s.feeder f).row.test.tFollow * 1000)) s
  have hdown : tieDown (enterFarEndWait f s) f = false :=
    (tieDown_congr (enterFarEndWait_fixed f s) hties).trans hup
  rw [enterFarEnd, if_neg (by simp [hdown])]

theorem shotCounted_beside :
    (shotCounted f s).rect = s.rect ∧ (shotCounted f s).feeder f = { s.feeder f with sq := (shotCounted f s).sq f }
      ∧ thetaReclose (shotCounted f s) f = thetaReclose s f
      ∧ ∀ e, e ≠ f → (shotCounted f s).feeder e = s.feeder e := by
  refine ⟨rfl, ?_, ?_, fun e he => State.setSq_feeder_ne _ _ he⟩
  · rw [shotCounted_sq]; exact State.setSq_feeder_same ..
  · simp [thetaReclose, shotCounted]

/-! The expiry in TIMING (R101, R102) -/

variable (hd : (s.sq f).dead ≠ none) (hp : (s.sq f).phase = some .timing) (hs : (s.sq f).state = .deadTime)
include hd hp hs

theorem deadTimeExpired_shotCount (hu : (s.sq f).Unflagged) :
    ((deadTimeExpired f s).sq f).shotCount = (s.sq f).shotCount + 1 := by
  have hs' : ((shotCounted f s).sq f).state = .deadTime := by rw [shotCounted_sq]; exact hs
  have hu' : ((shotCounted f s).sq f).Unflagged := by rw [shotCounted_sq]; exact hu
  by_cases hw : WaitsForFarEnd s f
  · rw [deadTimeExpired_of_wait hd hp hw, enterFarEnd_shotCount hs' hu', shotCounted_sq]
  · rw [deadTimeExpired_of_request hd hp hw, (testRequest_asks hs' hu').shotCount, shotCounted_sq]

theorem deadTimeExpired_waits (hw : WaitsForFarEnd s f) (hup : tieDown s f = false) :
    let t := deadTimeExpired f s
    let r' := t.sq f
    r'.state = .deadTime ∧ r'.phase = some .awaitingFarEnd ∧ r'.shotTaken = true
      ∧ r'.dead = some ((s.feeder f).row.test.tFollow * 1000) ∧ (∀ e, e ≠ f → t.feeder e = s.feeder e) := by
  obtain ⟨-, hfeeder, -, hothers⟩ := shotCounted_beside (f := f) (s := s)
  have hs' : ((shotCounted f s).sq f).state = .deadTime := by rw [shotCounted_sq]; exact hs
  have hup' : tieDown (shotCounted f s) f = false := (tieDown_congr (State.setSq_fixed ..) rfl).trans hup
  dsimp only
  rw [deadTimeExpired_of_wait hd hp hw, enterFarEnd_of_up hup', enterFarEndWait_sq hs', hfeeder, shotCounted_sq]
  exact ⟨hs, rfl, rfl, rfl, fun e he => (enterPhase_feeder_ne _ _ _ he).trans (hothers e he)⟩

theorem deadTimeExpired_of_hot (hu : (s.sq f).Unflagged) (hw : ¬ WaitsForFarEnd s f)
    (hhot : thetaReclose s f < (s.feeder f).prot.theta) :
    let r' := (deadTimeExpired f s).sq f
    r'.state = .deadTime ∧ r'.phase = some .cooling ∧ r'.dead = none ∧ r'.test.kind = some .auto
      ∧ r'.test.origin = some .timing ∧ r'.shotTaken = true := by
  obtain ⟨-, hfeeder, hreclose, -⟩ := shotCounted_beside (f := f) (s := s)
  have hu' : ((shotCounted f s).sq f).Unflagged := by rw [shotCounted_sq]; exact hu
  obtain ⟨hstate, hphase, hasked, -⟩ := coolFirst_leaves (f := f) (origin := .timing) (s := shotCounted f s)
    (by rw [shotCounted_sq]; exact hs)
  dsimp only
  rw [deadTimeExpired_of_request hd hp hw,
    testRequest_of_hot hu' (by rw [hreclose, hfeeder]; exact hhot) (by decide)]
  exact ⟨hstate, hphase, hasked.dead, hasked.kind, hasked.origin, hasked.shotTaken.trans (by rw [shotCounted_sq])⟩

omit hs in
theorem deadTimeExpired_starts (hu : (s.sq f).Unflagged) (hw : ¬ WaitsForFarEnd s f)
    (hcool : ¬ thetaReclose s f < (s.feeder f).prot.theta) (hr : s.rect.state = .running ∨ s.rect.state = .probe) :
    let t := deadTimeExpired f s
    let r' := t.sq f
    r'.state = .testing ∧ r'.test.kind = some .auto ∧ r'.test.origin = some .timing
      ∧ t.rect.testers.get f = true ∧ r'.shotTaken = true
      ∧ (r'.contactor = .opened → r'.test.step = some .liveCheck)
      ∧ (r'.contactor ≠ .opened →
          r'.test.step = some .contactorCheck
            ∧ r'.closeTimer = some ((s.feeder f).row.brk.tCloseMax * 1000)) := by
  obtain ⟨hrect, hfeeder, hreclose, -⟩ := shotCounted_beside (f := f) (s := s)
  have hu' : ((shotCounted f s).sq f).Unflagged := by rw [shotCounted_sq]; exact hu
  have hstarts := testRequest_starts (f := f) (origin := .timing) (s := shotCounted f s) hu'
    (by rw [hreclose, hfeeder]; exact fun h => hcool h.1) (by rw [Supplies, hrect]; tauto)
  have htester := hstarts.tester
  have hrecord := hstarts.record
  rw [hfeeder, shotCounted_sq] at hrecord
  dsimp only
  rw [deadTimeExpired_of_request hd hp hw, hrecord]
  refine ⟨rfl, rfl, rfl, htester, rfl, fun hc => ?_, fun hc => ⟨?_, ?_⟩⟩
  · exact congrArg some (if_pos hc)
  · exact congrArg some (if_neg hc)
  · exact if_neg hc

theorem deadTimeExpired_of_flag (hflag : (s.sq f).blind = true ∨ (s.sq f).frozen = true)
    (hw : ¬ WaitsForFarEnd s f) (hroom : s.reports.length < 64) :
    let t := deadTimeExpired f s
    let reason : AbortReason := if (s.sq f).blind = true then .blind else .frozen
    (t.sq f).Resumed reason .timing
        (some (deadTime (s.feeder f).row.test ((s.sq f).shotCount + 1) * 1000)) (s.sq f).shotCount
      ∧ Reported t .lineTest (.feeder f) (some reason.cause) none none
      ∧ t.rect = s.rect ∧ (∀ e, e ≠ f → t.feeder e = s.feeder e) := by
  obtain ⟨hrect, hfeeder, -, hothers⟩ := shotCounted_beside (f := f) (s := s)
  have hsq := shotCounted_sq (f := f) (s := s)
  have hflag' : ((shotCounted f s).sq f).blind = true ∨ ((shotCounted f s).sq f).frozen = true := by
    rw [hsq]; exact hflag
  have hresumed := abortUnstarted_of_shot (f := f) (s := shotCounted f s) (origin := .timing)
    (reason := if (s.sq f).blind = true then .blind else .frozen) (by rw [hsq]; exact hs) (by rw [hsq])
  rw [hfeeder, hsq] at hresumed
  have hrequest := testRequest_of_flag (origin := .timing) hflag'
  rw [hsq] at hrequest
  dsimp only
  rw [deadTimeExpired_of_request hd hp hw, hrequest]
  exact ⟨hresumed, abortUnstarted_reported hroom, abortUnstarted_rect.trans hrect,
    fun e he => hrequest ▸ (testRequest_feeder_ne he).trans (hothers e he)⟩

end

/-! The expiry in AWAITING_FAR_END (R101, R104) -/

section

variable {f : FeederId} {s : State}

/-- A test that starts makes one report and offers at most one command. -/
theorem Grows.startTest (kind : TestKind) (origin : Option TestOrigin) (s : State) :
    Grows 1 1 s (startTest f kind origin s) := Grows.refl.setRect.enterTesting.beginContactorCheck

theorem followExpired_starts (hd : (s.sq f).dead ≠ none) (hp : (s.sq f).phase = some .awaitingFarEnd)
    (hu : (s.sq f).Unflagged) (hcool : (s.feeder f).prot.theta ≤ thetaReclose s f)
    (hr : s.rect.state = .running ∨ s.rect.state = .probe) (hroom : s.reports.length < 60) :
    let t := followExpired f s
    (t.sq f).state = .testing ∧ (s.sq f).Asked .awaitingFarEnd (t.sq f) ∧ t.rect.testers.get f = true
      ∧ (∃ q, t.reports.getLast? = some q ∧ q.record.kind = .actingMaster ∧ q.record.source = .feeder f
          ∧ q.record.value1 = some 1)
      ∧ (∀ e, e ≠ f → t.feeder e = s.feeder e) := by
  have heq : followExpired f s =
      submit .actingMaster (.feeder f) none (some 1) none (testRequest f .awaitingFarEnd (waitOver f s)) := by
    unfold followExpired
    dsimp only
    rw [if_neg (by simp [hd, hp]), waitOver]
  obtain ⟨hrect, hreports, -, hprot, hreclose, hbeside⟩ := waitOver_beside (f := f) (s := s)
  have hu' : ((waitOver f s).sq f).Unflagged := by rw [waitOver_sq]; exact hu
  have hcool' : ¬ (thetaReclose (waitOver f s) f < ((waitOver f s).feeder f).prot.theta
      ∧ TestOrigin.awaitingFarEnd ≠ .cooling) := by
    rw [hreclose, hprot]; exact fun h => Nat.not_lt.mpr hcool h.1
  have hsupplies : Supplies (waitOver f s) := by rw [Supplies, hrect]; tauto
  have hstarts := testRequest_starts (origin := .awaitingFarEnd) hu' hcool' hsupplies
  have hrecord := hstarts.record
  have hasked := hstarts.asked
  rw [waitOver_sq] at hrecord hasked
  have hnear : supplied (waitOver f s) = waitOver f s :=
    if_neg (by rw [hrect]; obtain hr | hr := hr <;> simp [hr])
  have hgrows : Grows 1 1 (waitOver f s) (testRequest f .awaitingFarEnd (waitOver f s)) := by
    rw [testRequest_of_supplies hu' hcool' hsupplies, hnear]
    exact .startTest ..
  have hfull : (testRequest f .awaitingFarEnd (waitOver f s)).reports.length < 64 := by
    have := hgrows.reports
    rw [hreports] at this
    omega
  obtain ⟨hlast, -⟩ := submit_of_room .actingMaster (.feeder f) none (some 1) none hfull
  dsimp only
  rw [heq]
  refine ⟨?_, ?_, ?_, ?_, fun e he => ?_⟩
  · rw [submit_sq, hrecord]; rfl
  · rw [submit_sq]; exact ⟨hasked.kind, hasked.origin, hasked.dead, hasked.shotCount, hasked.shotTaken⟩
  · rw [submit_rect]; exact hstarts.tester
  · rw [hlast, List.getLast?_concat]; exact ⟨_, rfl, rfl, rfl, rfl⟩
  · rw [submit_feeder, testRequest_feeder_ne he, hbeside e he]

/-! The end of COOLING (R64, R103) -/

variable {y : FeederTaken}

theorem sequenceSample_of_cooling (hs : (s.sq f).state = .deadTime) (hp : (s.sq f).phase = some .cooling) :
    sequenceSample f y s =
      if (s.sq f).frozen = false ∧ (s.feeder f).prot.theta ≤ thetaReclose s f then testRequest f .cooling s
      else s := by
  unfold sequenceSample
  dsimp only
  rw [hs]
  simp only [hp, if_true, coolingSample]

/-- The request made at the end of COOLING, BLIND having ended with the sample (R101, R103). -/
theorem coolingEnds (hs : (s.sq f).state = .deadTime) (hu : (s.sq f).Unflagged) :
    let t := testRequest f .cooling s
    (s.sq f).Asked .cooling (t.sq f)
      ∧ (Supplies s → (t.sq f).state = .testing ∧ t.rect.testers.get f = true
          ∧ t.rect.state = (if s.rect.state = .hold then .probe else s.rect.state))
      ∧ (SuppliesNot s → (t.sq f).state = .deadTime ∧ (t.sq f).phase = some .awaitingSupply
          ∧ (t.sq f).pendingTest = true ∧ t.rect.latched.get f = true) := by
  refine ⟨testRequest_asks hs hu, fun hr => ?_, fun hr => ?_⟩
  · have h := testRequest_starts (origin := .cooling) hu (by simp) hr
    exact ⟨by rw [h.record]; rfl, h.tester, h.state⟩
  · obtain ⟨hstate, hphase, hpending, -, hlatched⟩ := awaitSupply_leaves (origin := .cooling) hs
    rw [testRequest_of_no_supply hu (by simp) hr]
    exact ⟨hstate, hphase, hpending, hlatched⟩

/-- A sample in COOLING makes the request or leaves all as it is (R103). -/
theorem coolingServed (hs : (s.sq f).state = .deadTime) (hp : (s.sq f).phase = some .cooling)
    (hb : (s.sq f).blind = false) :
    let t := sequenceSample f y s
    let cool := (s.feeder f).prot.theta ≤ thetaReclose s f
    (t.feeder f).prot.theta = (s.feeder f).prot.theta ∧ (t.sq f).shotCount = (s.sq f).shotCount
      ∧ (t.sq f).shotTaken = (s.sq f).shotTaken
      ∧ ((s.sq f).frozen = false → cool → t = testRequest f .cooling s)
      ∧ (¬ cool ∨ (t.sq f).frozen = true → t = s) := by
  obtain ⟨hintake, himage⟩ := sequenceSample_kept f y s
  have hfrozen : ((sequenceSample f y s).sq f).frozen = (s.sq f).frozen := (hintake f).frozen
  have hserved := sequenceSample_of_cooling (y := y) hs hp
  by_cases hends : (s.sq f).frozen = false ∧ (s.feeder f).prot.theta ≤ thetaReclose s f
  · obtain ⟨hf, hcool⟩ := hends
    have hasked := testRequest_asks (origin := .cooling) hs ⟨hb, hf⟩
    rw [if_pos ⟨hf, hcool⟩] at hserved
    refine ⟨(himage f).theta, hserved ▸ hasked.shotCount, hserved ▸ hasked.shotTaken, fun _ _ => hserved,
      fun hstays => ?_⟩
    rw [hfrozen, hf] at hstays
    exact absurd hcool (hstays.resolve_right (by decide))
  · rw [if_neg hends] at hserved
    dsimp only
    rw [hserved]
    exact ⟨rfl, rfl, rfl, fun hf hcool => absurd ⟨hf, hcool⟩ hends, fun _ => rfl⟩

end

/-- Settles O35: the expiry in TIMING by its three ways on, the expiry of t_follow, the request that a flag
aborts, and the sample that ends COOLING. -/
theorem deadTimeEnds : Obligations.DeadTimeEnds := by
  refine ⟨fun f s hr hs hp hd _ hb hf => ?_, fun f s hr hs hp hd _ hb hf hcool hgroup hroom => ?_,
    fun f s hr hs hp hd _ hflag hw hroom => ?_, fun f bytes fr x g s htakes hs hp _ => ?_⟩
  · refine ⟨deadTimeExpired f s, outOfReset_eq hr, deadTimeExpired_shotCount hd hp hs ⟨hb, hf⟩,
      fun hw hup => ?_, fun hw hhot => ?_, fun hw hhot hgroup => ?_⟩
    · exact deadTimeExpired_waits hd hp hs hw hup
    · exact deadTimeExpired_of_hot hd hp hs ⟨hb, hf⟩ hw hhot
    · exact deadTimeExpired_starts hd hp ⟨hb, hf⟩ hw hhot hgroup
  · obtain ⟨hstate, hasked, htester, hlast, hothers⟩ :=
      followExpired_starts hd hp ⟨hb, hf⟩ hcool hgroup hroom
    exact ⟨followExpired f s, outOfReset_eq hr, hstate, hasked.kind, hasked.origin, hasked.dead, hasked.shotCount,
      htester, hlast, hothers⟩
  · obtain ⟨hresumed, hreported, hrect, hothers⟩ := deadTimeExpired_of_flag hd hp hs hflag hw (by omega)
    exact ⟨deadTimeExpired f s, outOfReset_eq hr, hresumed.state, hresumed.phase, hresumed.shotCount,
      hresumed.shotTaken, hresumed.farClear, hresumed.dead, hresumed.last, hreported, hrect, hothers⟩
  · obtain ⟨u, hexec, hhanded⟩ := exec_feederSample_of_idle htakes (.inl hs)
    obtain ⟨z, hrecord, hclear⟩ := hhanded.record
    have hrect : u.rect = s.rect := hhanded.quiet.rect
    have hreclose : thetaReclose u f = thetaReclose s f := by
      rw [thetaReclose, (settings_of_fixed hhanded.fixed f).1]; rfl
    have hs' : (u.sq f).state = .deadTime := by rw [hrecord]; exact hs
    have hp' : (u.sq f).phase = some .cooling := by rw [hrecord]; exact hp
    have hb' : (u.sq f).blind = false := by rw [hrecord]
    obtain ⟨htheta, hcount, htaken, hends, hstays⟩ := coolingServed (y := handOn s f g x) hs' hp' hb'
    rw [hhanded.theta] at htheta hends hstays
    rw [hreclose] at hends hstays
    rw [hrecord] at hcount htaken hends
    refine ⟨_, hexec, htheta, hcount, htaken, fun hf hcool => ?_, fun hwaits => ?_⟩
    · have hu : (u.sq f).Unflagged := by rw [hrecord]; exact ⟨rfl, hclear hf⟩
      obtain ⟨hasked, hstarts, hawaits⟩ := coolingEnds hs' hu
      rw [Supplies, hrect] at hstarts
      rw [SuppliesNot, hrect] at hawaits
      rw [hends (hclear hf) hcool]
      exact ⟨hasked.kind, hasked.origin, hstarts, hawaits⟩
    · rw [hstays hwaits, hrecord]
      exact ⟨hs, hp, rfl, rfl, hrect⟩

end Sys2Proof.Machine
end

section
/-! PROOF. The line test (R107 to R115): how a feeder leaves TESTING and the group with it (R132, R133), its
results, its contactor's confirmations and its samples, by step. -/

namespace Sys2Proof.Machine

set_option Elab.async false

/-! The group as a feeder leaves TESTING (R107, R132, R133) -/

section

variable {f : FeederId} {s t u : State}

theorem anyFeeder_eq_false {v : PerFeeder Bool} : anyFeeder v = false ↔ ∀ e, v.get e = false := by
  refine ⟨fun h e => ?_, fun h => ?_⟩
  · simpa using List.any_eq_false.mp h e (by cases e <;> decide)
  · exact List.any_eq_false.mpr fun e _ => by simp [h e]

theorem dropTester_empties (h : ∀ e, s.rect.testers.get e = true → e = f) (e : FeederId) :
    (dropTester f s).rect.testers.get e = false := by
  by_cases he : e = f
  · subst he; simp [dropTester]
  · have hno : s.rect.testers.get e = false := Bool.eq_false_iff.mpr fun ht => he (h e ht)
    simpa [dropTester, PerFeeder.get_set_ne _ _ he] using hno

/-- The start of the latched tests leaves a group RUNNING (R132). -/
theorem startAllLatched_running (h : s.rect.state = .running) : (startAllLatched s).rect.state = .running :=
  forFeeders_induct (P := fun t => t.rect.state = .running)
    (fun _ _ ht => (FeederServed.refl.startLatched.running ht).1) h

/-- PROBE as its last tester leaves it: RUNNING with run pending, else at rest with no tester (R133). -/
structure ProbeEnded (s t : State) : Prop where
  runs : s.rect.runPending = true → t.rect.state = .running
  rests : s.rect.runPending = false →
    t.rect.cause = .rest ∧ (∀ e, t.rect.testers.get e = false)
      ∧ t.rect.state = (match s.rect.probeTarget with | .hold => .hold | .parked => .parked)

theorem probeEnd_ends (h : ∀ e, s.rect.testers.get e = false) : ProbeEnded s (probeEnd s) where
  runs := fun hp => by
    rw [probeEnd, if_pos hp]
    exact startAllLatched_running (by rw [rectMove_rect]; rfl)
  rests := fun hp => by
    rw [probeEnd, if_neg (by simp [hp])]
    cases s.rect.probeTarget with
    | hold => exact ⟨congrArg RectRec.cause (rectMove_rect ..), by simpa [enterRest] using h, by simp [enterRest]⟩
    | parked =>
      refine ⟨congrArg RectRec.cause (park_rect ..), fun e => ?_, congrArg RectRec.state (park_rect ..)⟩
      rw [enterRest, park_rect]
      exact h e

/-- From `s` to `t` the group has been told that the feeder left TESTING (R107). -/
structure TestLeft (f : FeederId) (s t : State) : Prop where
  tester : t.rect.testers.get f = false
  probe : s.rect.state = .probe → s.rect.testers.get f = true → (∀ e, s.rect.testers.get e = true → e = f) →
    ProbeEnded s t

theorem leaveTesting_left (hl : s.rect.latched.get f = false) : TestLeft f s (leaveTesting f s) where
  tester := leaveTesting_testers hl
  probe := fun hprobe htester honly => by
    have hends := probeEnd_ends (dropTester_empties honly)
    have heq : leaveTesting f s = probeEnd (dropTester f s) := by
      unfold leaveTesting
      dsimp only
      rw [if_pos htester, if_pos ⟨hprobe, anyFeeder_eq_false.mpr (dropTester_empties honly)⟩]
    exact heq ▸ ⟨hends.runs, hends.rests⟩

/-- The group's state, cause and testers are as they were. -/
structure GroupKept (s t : State) : Prop where
  state : t.rect.state = s.rect.state
  cause : t.rect.cause = s.rect.cause
  testers : t.rect.testers = s.rect.testers

theorem GroupKept.of_rect (h : t.rect = s.rect) : GroupKept s t := by constructor <;> rw [h]

theorem GroupKept.enterCore {new : FeederState} {cause : Option LockoutCause} :
    GroupKept s (enterCore f new cause s) := by
  constructor <;> rw [enterCore_rect] <;> split <;> rfl

theorem TestLeft.kept (h : TestLeft f s t) (hk : GroupKept t u) : TestLeft f s u where
  tester := hk.testers ▸ h.tester
  probe := fun hprobe htester honly => by
    obtain ⟨hruns, hrests⟩ := h.probe hprobe htester honly
    refine ⟨fun hp => hk.state.trans (hruns hp), fun hp => ?_⟩
    obtain ⟨hcause, hnone, hstate⟩ := hrests hp
    exact ⟨hk.cause.trans hcause, fun e => hk.testers ▸ hnone e, hk.state.trans hstate⟩

theorem TestLeft.of_rect {a : State} (h : TestLeft f a t) (hrect : a.rect = s.rect) : TestLeft f s t := by
  refine ⟨h.tester, fun hprobe htester honly => ?_⟩
  rw [← hrect] at hprobe htester honly
  obtain ⟨hruns, hrests⟩ := h.probe hprobe htester honly
  rw [hrect] at hruns hrests
  exact ⟨hruns, hrests⟩

/-! A state entered from TESTING -/

variable {new : FeederState} {cause : Option LockoutCause}

theorem enterState_of_testing (hs : (s.sq f).state = .testing) (hn : new ≠ .testing) :
    enterState f new cause s = enterCore f new cause (leaveTesting f s) := by
  rw [enterState, if_pos ⟨hs, hn⟩]

theorem enterState_left (hs : (s.sq f).state = .testing) (hl : s.rect.latched.get f = false) (hn : new ≠ .testing) :
    (enterState f new cause s).sq f = (s.sq f).entered s.mode new cause
      ∧ TestLeft f s (enterState f new cause s) ∧ Grows 22 8 s (enterState f new cause s) := by
  obtain ⟨-, hsq⟩ := leaveTesting_sq hl
  rw [enterState_of_testing hs hn]
  exact ⟨by rw [enterCore_sq, hsq, mode_of_fixed (leaveTesting_fixed ..)],
    (leaveTesting_left hl).kept .enterCore, (Grows.leaveTesting hl).enterCore⟩

/-- OPEN entered from TESTING, with its report (R73). -/
theorem openedFromTesting (hs : (s.sq f).state = .testing) (hl : s.rect.latched.get f = false)
    (hroom : s.reports.length + 22 < 64) :
    let t := reportFeederState f .opened .testing (enterState f .opened none s)
    t.sq f = (s.sq f).entered s.mode .opened none ∧ TestLeft f s t
      ∧ Reported t .feederState (.feeder f) none (some 2) (some 3) := by
  obtain ⟨hsq, hleft, hgrows⟩ := enterState_left (new := .opened) (cause := none) hs hl (by decide)
  have hreports := hgrows.reports
  refine ⟨?_, hleft.kept (.of_rect (submit_rect ..)),
    reported_submit .feederState (.feeder f) none _ _ (by omega)⟩
  rw [reportFeederState, submit_sq, hsq]

/-- A lockout entered from TESTING (R86, R107). -/
theorem lockout_left {c : LockoutCause} {offered : Bool} (hs : (s.sq f).state = .testing)
    (hl : s.rect.latched.get f = false) (hroom : s.reports.length + 22 < 64) :
    let t := lockout f c offered s
    t.sq f = ((s.sq f).entered s.mode .lockout (some c)).stopTimers ∧ TestLeft f s t
      ∧ Reported t .lockout (.feeder f) (some c.cause) (some (s.sq f).shotCount) none := by
  obtain ⟨hsq, -, -⟩ := lockoutLeft_sq (offered := offered) hl
  obtain ⟨-, hrect, hreports⟩ := lockout_beside f c offered s
  have hoffer : ∃ a, lockoutLeft f offered s = leaveTesting f a ∧ a.rect = s.rect ∧ a.reports = s.reports := by
    refine ⟨_, if_pos ?_, ?_, ?_⟩ <;> split
    · rw [offerSeq_sq]; exact hs
    · exact hs
    · exact offerSeq_rect ..
    · rfl
    · exact offerSeq_reports ..
    · rfl
  obtain ⟨a, ha, harect, hareports⟩ := hoffer
  have hal : a.rect.latched.get f = false := by rw [harect]; exact hl
  have hgrows := (Grows.leaveTesting (t := a) hal).reports
  rw [hareports] at hgrows
  have hlocked : GroupKept (lockoutLeft f offered s) (lockedOut f c (lockoutLeft f offered s)) := by
    constructor <;> rw [lockedOut, submit_rect, State.setSq_rect]
    · exact GroupKept.enterCore.state
    · exact GroupKept.enterCore.cause
    · exact GroupKept.enterCore.testers
  have hreported : Reported (lockedOut f c (lockoutLeft f offered s)) .lockout (.feeder f) (some c.cause)
      (some (s.sq f).shotCount) none := by
    rw [lockedOut, enterCore_sq, hsq]
    exact reported_submit _ _ _ _ _ (by rw [State.setSq_reports, enterCore_reports, ha]; omega)
  refine ⟨?_, ?_, hreported.mono (by rw [hreports])⟩
  · rw [lockout_sq, hsq]
  · have hleft : TestLeft f s (lockoutLeft f offered s) := ha ▸ (leaveTesting_left hal).of_rect harect
    exact (hleft.kept hlocked).kept (.of_rect hrect)

end

/-! Results (R112, R113) -/

section

variable {f : FeederId} {s : State}

/-- The way of a command of the test to the breaker unit, open at a port with room (R13, R75). -/
def Reaches (f : FeederId) (s : State) : Prop :=
  s.mode = .service ∧ (findNode s .breaker (some f)).isSome = true ∧ (s.port .fp).urgent.length < 10

/-- CLOSING entered from TESTING, with its CLOSE and its timers (R89). -/
theorem enterClosing_left (hs : (s.sq f).state = .testing) (hl : s.rect.latched.get f = false) :
    let t := enterClosing f s
    t.sq f =
        { (s.sq f).entered s.mode .closing none with
          closeTimer := some ((s.feeder f).row.brk.tCloseMax * 1000)
          sotf := some ((s.feeder f).row.brk.tSotf * 1000) }
      ∧ TestLeft f s t
      ∧ (Reaches f s → Commanded t (.breaker f .close)) := by
  obtain ⟨hsq, hleft, hgrows⟩ := enterState_left (new := .closing) (cause := none) hs hl (by decide)
  have hfixed : (reportFeederState f .closing (s.sq f).state (enterState f .closing none s)).fixed = s.fixed := by
    simp
  obtain ⟨hrow, -⟩ := settings_of_fixed ((offerSeq_fixed (.breaker f .close) _).trans hfixed) f
  dsimp only
  refine ⟨?_, hleft.kept (.of_rect ?_), fun ⟨hm, hnode, hroom⟩ => ?_⟩
  · rw [enterClosing, State.setSq_sq_same, hrow, offerSeq_sq, reportFeederState, submit_sq, hsq]
    rfl
  · rw [enterClosing, State.setSq_rect, offerSeq_rect, reportFeederState, submit_rect]
  · have hmode := (mode_of_fixed hfixed).trans hm
    have hurgent := hgrows.urgent
    show Commanded (offerSeq (.breaker f .close) _) _
    rw [offerSeq, if_neg (by simp [hmode])]
    refine offerField_commanded (by simp [hmode]) ?_ ?_
    · rw [commandNode, findNode_of_fixed hfixed]; exact hnode
    · rw [reportFeederState, submit_port]; omega

end

section

variable {f : FeederId} {x : LastResult} {s : State}

/-- A result recorded and reported, of a feeder that has left TESTING with its shot settled (R112, R117). -/
structure ResultServed (f : FeederId) (x : LastResult) (s t : State) : Prop where
  last : (t.sq f).test.last = some x
  reported : Reported t .lineTest (.feeder f) (some x.outcome.cause) (x.r.map Int.ofNat) (averages x.uAvg x.ubAvg)
  shotTaken : (t.sq f).shotTaken = false
  left : TestLeft f s t

theorem serveResult_acts (f : FeederId) (x : LastResult) (s : State) :
    UnitActs (recordResult f x s) (serveResult f x s) :=
  .ite (.ite UnitActs.refl.enterState.reportFeederState UnitActs.refl.serveShort) UnitActs.refl.enterClosing

theorem serveResult_reported (hroom : s.reports.length < 64) :
    Reported (serveResult f x s) .lineTest (.feeder f) (some x.outcome.cause) (x.r.map Int.ofNat)
      (averages x.uAvg x.ubAvg) := by
  obtain ⟨-, -, -, hreported⟩ := recordResult_sq f x s
  exact (hreported hroom).mono (serveResult_acts f x s).reports

theorem recordResult_testing (f : FeederId) (x : LastResult) (s : State) :
    ((recordResult f x s).sq f).state = (s.sq f).state
      ∧ (recordResult f x s).rect.latched = s.rect.latched := by
  obtain ⟨hsq, hrect, -⟩ := recordResult_sq f x s
  rw [hsq, hrect]
  exact ⟨rfl, rfl⟩

/-- The shots counted once a SHORT result of an automatic test has taken its own (R112). -/
def FeederRec.shotsUsed (row : TestSettings) (r : FeederRec) : Nat :=
  if r.shotTaken = true then r.shotCount else min row.shots (r.shotCount + 1)

/-- The shots counted, before the feeder leaves TESTING (R112). -/
def shotsSettled (f : FeederId) (count : Nat) (s : State) : State :=
  s.setSq f { s.sq f with shotCount := count, shotTaken := false }

theorem shotsSettled_sq (f : FeederId) (count : Nat) (s : State) :
    (shotsSettled f count s).sq f = { s.sq f with shotCount := count, shotTaken := false } := State.setSq_sq_same ..

theorem serveShort_eq (f : FeederId) (s : State) :
    let row := (s.feeder f).row.test
    let settled := shotsSettled f ((s.sq f).shotsUsed row) s
    serveShort f s =
      if (s.sq f).shotsUsed row < row.shots then enterTiming f (leaveTesting f settled)
      else lockout f .shotsExhausted false settled := rfl

variable (hs : (s.sq f).state = .testing) (hl : s.rect.latched.get f = false)
include hs hl

/-- A result that lets the feeder close (R89, R112, R113). -/
theorem serveResult_closes (hx : x.outcome ≠ .ratio .short) (hroom : s.reports.length < 64) :
    let t := serveResult f x s
    let brk := (s.feeder f).row.brk
    ResultServed f x s t ∧ (t.sq f).state = .closing ∧ (t.sq f).shotCount = (s.sq f).shotCount
      ∧ (t.sq f).closeTimer = some (brk.tCloseMax * 1000) ∧ (t.sq f).sotf = some (brk.tSotf * 1000)
      ∧ (Reaches f s → Commanded t (.breaker f .close)) := by
  obtain ⟨hrsq, hrrect, hrports, -⟩ := recordResult_sq f x s
  obtain ⟨hrstate, hrlatched⟩ := recordResult_testing f x s
  have hrfixed : (recordResult f x s).fixed = s.fixed := recordResult_fixed ..
  obtain ⟨hsq, hleft, hcommanded⟩ := enterClosing_left (s := recordResult f x s) (hrstate.trans hs)
    (by rw [hrlatched]; exact hl)
  rw [(settings_of_fixed hrfixed f).1, hrsq] at hsq
  rw [Reaches, mode_of_fixed hrfixed, findNode_of_fixed hrfixed, State.port, hrports] at hcommanded
  have hreported := serveResult_reported (f := f) (x := x) hroom
  have hresult : serveResult f x s = enterClosing f (recordResult f x s) := if_neg hx
  rw [hresult] at hreported
  dsimp only
  rw [hresult]
  refine ⟨⟨?_, hreported, ?_, hleft.of_rect hrrect⟩, ?_, ?_, ?_, ?_, hcommanded⟩ <;> rw [hsq] <;> rfl

/-- A SHORT result of a manual test (R113). -/
theorem serveResult_opens (hx : x.outcome = .ratio .short) (hk : (s.sq f).test.kind = some .manual)
    (hroom : s.reports.length + 23 < 64) :
    let t := serveResult f x s
    ResultServed f x s t ∧ (t.sq f).state = .opened ∧ (t.sq f).shotCount = (s.sq f).shotCount
      ∧ Reported t .feederState (.feeder f) none (some 2) (some 3) := by
  obtain ⟨hrsq, hrrect, -, -⟩ := recordResult_sq f x s
  obtain ⟨hrstate, hrlatched⟩ := recordResult_testing f x s
  have hgrows : (recordResult f x s).reports.length ≤ s.reports.length + 1 := submit_adds_one ..
  obtain ⟨hsq, hleft, hopened⟩ := openedFromTesting (s := recordResult f x s) (f := f)
    (hrstate.trans hs) (by rw [hrlatched]; exact hl) (by omega)
  have hreported := serveResult_reported (f := f) (x := x) (s := s) (by omega)
  have hresult : serveResult f x s =
      reportFeederState f .opened .testing (enterState f .opened none (recordResult f x s)) := by
    unfold serveResult
    dsimp only
    rw [if_pos hx, if_pos hk, hrstate, hs]
  rw [hresult] at hreported
  dsimp only
  rw [hresult]
  refine ⟨⟨?_, hreported, ?_, hleft.of_rect hrrect⟩, ?_, ?_, hopened⟩ <;> rw [hsq, hrsq] <;> rfl

/-- The shot of a SHORT result: another dead time, or the lockout of the last one (R86, R102, R112). -/
theorem serveShort_leaves (hroom : s.reports.length + 22 < 64) :
    let t := serveShort f s
    let row := (s.feeder f).row.test
    let count := (s.sq f).shotsUsed row
    (t.sq f).test.last = (s.sq f).test.last ∧ (t.sq f).shotTaken = false ∧ (t.sq f).shotCount = count
      ∧ TestLeft f s t
      ∧ (count < row.shots → (t.sq f).state = .deadTime ∧ (t.sq f).phase = some .timing
          ∧ (t.sq f).dead = some (deadTime row (count + 1) * 1000))
      ∧ (row.shots ≤ count → (t.sq f).state = .lockout ∧ (t.sq f).lockoutCause = some .shotsExhausted) := by
  dsimp only
  rw [serveShort_eq]
  generalize hcount : (s.sq f).shotsUsed (s.feeder f).row.test = count
  have hset := shotsSettled_sq f count s
  have hs1 : ((shotsSettled f count s).sq f).state = .testing := by rw [hset]; exact hs
  by_cases hmore : count < (s.feeder f).row.test.shots
  · obtain ⟨-, hsq⟩ := leaveTesting_sq (f := f) (s := shotsSettled f count s) hl
    have hleft : TestLeft f (shotsSettled f count s) _ := leaveTesting_left hl
    have hfixed : (leaveTesting f (shotsSettled f count s)).fixed = s.fixed := by simp [shotsSettled]
    have htiming : (enterTiming f (leaveTesting f (shotsSettled f count s))).sq f = _ :=
      enterPhase_sq_of_testing (by rw [hsq]; exact hs1) .timing _
    rw [if_pos hmore, htiming, (settings_of_fixed hfixed f).1, hsq, hset]
    exact ⟨rfl, rfl, rfl, (hleft.kept (.of_rect (OthersKept.enterPhase_rect ..))).of_rect rfl,
      fun _ => ⟨rfl, rfl, rfl⟩, fun h => absurd hmore (Nat.not_lt.mpr h)⟩
  · obtain ⟨hsq, hleft, -⟩ := lockout_left (c := .shotsExhausted) (offered := false) hs1 hl hroom
    rw [if_neg hmore, hsq, hset]
    exact ⟨rfl, rfl, rfl, hleft.of_rect rfl, fun h => absurd h hmore, fun _ => ⟨rfl, rfl⟩⟩

/-- A SHORT result of an automatic test (R112). -/
theorem serveResult_short (hx : x.outcome = .ratio .short) (hk : (s.sq f).test.kind ≠ some .manual)
    (hroom : s.reports.length + 23 < 64) :
    let t := serveResult f x s
    let row := (s.feeder f).row.test
    let count := (s.sq f).shotsUsed row
    ResultServed f x s t ∧ (t.sq f).shotCount = count
      ∧ (count < row.shots → (t.sq f).state = .deadTime ∧ (t.sq f).phase = some .timing
          ∧ (t.sq f).dead = some (deadTime row (count + 1) * 1000))
      ∧ (row.shots ≤ count → (t.sq f).state = .lockout ∧ (t.sq f).lockoutCause = some .shotsExhausted) := by
  obtain ⟨hrsq, hrrect, -, -⟩ := recordResult_sq f x s
  obtain ⟨hrstate, hrlatched⟩ := recordResult_testing f x s
  have hgrows : (recordResult f x s).reports.length ≤ s.reports.length + 1 := submit_adds_one ..
  obtain ⟨hlast, htaken, hcount, hleft, hmore, hdone⟩ := serveShort_leaves (s := recordResult f x s) (f := f)
    (hrstate.trans hs) (by rw [hrlatched]; exact hl) (by omega)
  rw [(settings_of_fixed (recordResult_fixed f x s) f).1, hrsq] at hcount hmore hdone
  rw [hrsq] at hlast
  have hreported := serveResult_reported (f := f) (x := x) (s := s) (by omega)
  have hresult : serveResult f x s = serveShort f (recordResult f x s) := by
    unfold serveResult
    dsimp only
    rw [if_pos hx, if_neg hk]
  rw [hresult] at hreported
  dsimp only
  rw [hresult]
  exact ⟨⟨hlast, hreported, htaken, hleft.of_rect hrrect⟩, hcount, hmore, hdone⟩

end

/-! Confirmations of the test contactor in TESTING (R107, R109, R111, R114) -/

section

variable {f : FeederId} {s : State}

/-- The record after a wait on the contactor that ends in step `step` (R107, R109). -/
def FeederRec.stepped (step : TestStep) (r : FeederRec) : FeederRec :=
  { r with closeTimer := none, test := { r.test with step := some step, count := 0 } }

/-- A position of the contactor that the step does not allow (R114). -/
def FeederRec.ContactorFails (r : FeederRec) : Prop :=
  (r.test.step = some .liveCheck ∧ r.contactor = .closed)
    ∨ ((r.test.step = some .settling ∨ r.test.step = some .summing) ∧ r.contactor = .opened)

/-- The five ways of a confirmation, by step and position (R107, R109, R111, R114). -/
structure ContactorServed (f : FeederId) (s t : State) : Prop where
  check : (s.sq f).test.step = some .contactorCheck → (s.sq f).contactor = .opened →
    t = s.setSq f ((s.sq f).stepped .liveCheck)
  wait : (s.sq f).test.step = some .contactorClosing → (s.sq f).contactor = .closed →
    t = s.setSq f ((s.sq f).stepped .settling)
  fails : (s.sq f).ContactorFails → t = contactorFailure f true s
  result : (s.sq f).test.step = some .contactorOpening → (s.sq f).contactor = .opened → t = servePending f s
  other : ¬ ((s.sq f).test.step = some .contactorCheck ∧ (s.sq f).contactor = .opened) →
    ¬ ((s.sq f).test.step = some .contactorClosing ∧ (s.sq f).contactor = .closed) →
    ¬ (s.sq f).ContactorFails →
    ¬ ((s.sq f).test.step = some .contactorOpening ∧ (s.sq f).contactor = .opened) → t = s

theorem contactorChanged_served (hs : (s.sq f).state = .testing) (ho : (s.sq f).openRequested = false) :
    ContactorServed f s (contactorChanged f (s.sq f).contactor s) := by
  have hconfirm : ∀ closed, confirmContactor f closed s = testContactor f closed s := fun closed => by
    simp [confirmContactor, hs, ho]
  refine ⟨fun hstep hc => ?_, fun hstep hc => ?_, fun hfails => ?_, fun hstep hc => ?_, fun h1 h2 h3 h4 => ?_⟩
  · rw [hc, contactorChanged, hconfirm]
    simp only [testContactor, hstep]
    rfl
  · rw [hc, contactorChanged, hconfirm]
    simp only [testContactor, hstep]
    rfl
  · obtain ⟨hstep, hc⟩ | ⟨hstep | hstep, hc⟩ := hfails <;>
      simp [contactorChanged, hconfirm, testContactor, hstep, hc]
  · simp [contactorChanged, hconfirm, testContactor, hstep, hc]
  · unfold FeederRec.ContactorFails at h3
    cases hc : (s.sq f).contactor with
    | disagree | unknown => rfl
    | opened | closed =>
      rw [contactorChanged, hconfirm, testContactor]
      dsimp only
      split <;> simp_all

/-- A failure for which the rule offers TEST_OPEN itself (R107, R114). -/
theorem contactorFailure_offers (h : Reaches f s) :
    Commanded (contactorFailure f true s) (.testContactor f false) := by
  obtain ⟨hm, hnode, hroom⟩ := h
  obtain ⟨-, -, hports, -⟩ := recordResult_sq f contactorResult s
  have hfixed : (recordResult f contactorResult s).fixed = s.fixed := recordResult_fixed ..
  have hm' := (mode_of_fixed hfixed).trans hm
  have hoffered : Commanded (contactorFailed f true s) (.testContactor f false) := by
    rw [contactorFailed, if_pos rfl, offerSeq, if_neg (by simp [hm'])]
    refine offerField_commanded (by simp [hm']) ?_ ?_
    · rw [commandNode, findNode_of_fixed hfixed]; exact hnode
    · rw [State.port, hports]; exact hroom.trans (by decide)
  rw [contactorFailure_eq]
  exact hoffered.acts UnitActs.refl.lockout

/-- What a failure leaves: the result, the lockout, and both reports (R86, R114). -/
theorem contactorFailure_locks (hs : (s.sq f).state = .testing) (hl : s.rect.latched.get f = false)
    (hroom : s.reports.length + 23 < 64) :
    let t := contactorFailure f true s
    let r' := t.sq f
    r'.state = .lockout ∧ r'.lockoutCause = some .contactorFailure ∧ r'.closeTimer = none ∧ r'.tripLine = false
      ∧ t.rect.testers.get f = false ∧ r'.test.last = some contactorResult
      ∧ Reported t .lineTest (.feeder f) (some .contactorFailure) none none
      ∧ Reported t .lockout (.feeder f) (some .contactorFailure) (some (s.sq f).shotCount) none := by
  obtain ⟨hsq, hrect, hreports, -⟩ := contactorFailed_sq f true s
  obtain ⟨hrsq, -⟩ := recordResult_sq f contactorResult s
  have hgrows : (recordResult f contactorResult s).reports.length ≤ s.reports.length + 1 := submit_adds_one ..
  obtain ⟨hleft, hreported, -⟩ := contactorFailure_leaves (f := f) (s := s) (offer := true) hs
  obtain ⟨htester, hlast⟩ := hleft hl
  obtain ⟨hstate, hcause, htimer, -, -, -, -, hline, -⟩ := lockout_stopped (f := f) (offered := true)
    (s := contactorFailed f true s) (cause := .contactorFailure) (by decide)
  obtain ⟨-, -, hlockout⟩ := lockout_left (s := contactorFailed f true s) (f := f) (c := .contactorFailure)
    (offered := true) (by rw [hsq, hrsq]; exact hs) (by rw [hrect]; exact hl) (by rw [hreports]; omega)
  rw [hsq, hrsq] at hlockout
  exact ⟨hstate, hcause, htimer, hline, htester, hlast, hreported (by omega), hlockout⟩

/-! The pending result (R111 to R113) -/

/-- The last result that a pending one becomes (R111). -/
def PendingResult.served (p : PendingResult) : LastResult :=
  { outcome := .ratio p.result, r := some p.r, uAvg := some p.uAvg, ubAvg := some p.ubAvg }

theorem PendingResult.served_cause (p : PendingResult) :
    p.served.outcome.cause = (match p.result with | .short => .short | .loaded => .loaded | .clear => .clear) := by
  rw [PendingResult.served]
  cases p.result <;> rfl

/-- The contactor wait over, the pending result is next (R111). -/
def waitStopped (f : FeederId) (s : State) : State := s.setSq f { s.sq f with closeTimer := none }

theorem servePending_eq {p : PendingResult} (hp : (s.sq f).test.pending = some p) :
    servePending f s = serveResult f p.served (waitStopped f s) := by
  unfold servePending
  dsimp only
  rw [hp]
  rfl

theorem waitStopped_sq : (waitStopped f s).sq f = { s.sq f with closeTimer := none } := State.setSq_sq_same ..

theorem waitStopped_row : ((waitStopped f s).feeder f).row = (s.feeder f).row := by simp [waitStopped]

/-- What a pending result leads to, by result and kind (R112, R113). -/
structure PendingServed (f : FeederId) (p : PendingResult) (s t : State) : Prop where
  served : ResultServed f p.served s t
  closes : p.result ≠ .short →
    (t.sq f).state = .closing ∧ (t.sq f).shotCount = (s.sq f).shotCount
      ∧ (t.sq f).closeTimer = some ((s.feeder f).row.brk.tCloseMax * 1000)
      ∧ (t.sq f).sotf = some ((s.feeder f).row.brk.tSotf * 1000)
      ∧ (Reaches f s → Commanded t (.breaker f .close))
  opens : p.result = .short → (s.sq f).test.kind = some .manual →
    (t.sq f).state = .opened ∧ (t.sq f).shotCount = (s.sq f).shotCount
      ∧ Reported t .feederState (.feeder f) none (some 2) (some 3)
  short : p.result = .short → (s.sq f).test.kind ≠ some .manual →
    (t.sq f).shotCount = (s.sq f).shotsUsed (s.feeder f).row.test
      ∧ ((s.sq f).shotsUsed (s.feeder f).row.test < (s.feeder f).row.test.shots →
          (t.sq f).state = .deadTime ∧ (t.sq f).phase = some .timing
            ∧ (t.sq f).dead =
                some (deadTime (s.feeder f).row.test ((s.sq f).shotsUsed (s.feeder f).row.test + 1) * 1000))
      ∧ ((s.feeder f).row.test.shots ≤ (s.sq f).shotsUsed (s.feeder f).row.test →
          (t.sq f).state = .lockout ∧ (t.sq f).lockoutCause = some .shotsExhausted)

theorem ResultServed.of_rect {x : LastResult} {a t : State} (h : ResultServed f x a t) (hrect : a.rect = s.rect) :
    ResultServed f x s t := { h with left := h.left.of_rect hrect }

theorem servePending_served {p : PendingResult} (hs : (s.sq f).state = .testing)
    (hl : s.rect.latched.get f = false) (hp : (s.sq f).test.pending = some p) (hroom : s.reports.length + 23 < 64) :
    PendingServed f p s (servePending f s) := by
  have hsq := waitStopped_sq (f := f) (s := s)
  have hs' : ((waitStopped f s).sq f).state = .testing := by rw [hsq]; exact hs
  have houtcome : ∀ c, p.served.outcome = .ratio c ↔ p.result = c := fun c => by simp [PendingResult.served]
  rw [servePending_eq hp]
  by_cases hshort : p.result = .short
  · by_cases hk : (s.sq f).test.kind = some .manual
    · obtain ⟨hserved, hopens⟩ := serveResult_opens (x := p.served) hs' hl ((houtcome _).mpr hshort)
        (by rw [hsq]; exact hk) hroom
      rw [hsq] at hopens
      exact ⟨hserved.of_rect rfl, fun h => absurd hshort h, fun _ _ => hopens, fun _ h => absurd hk h⟩
    · obtain ⟨hserved, hused⟩ := serveResult_short (x := p.served) hs' hl ((houtcome _).mpr hshort)
        (by rw [hsq]; exact hk) hroom
      rw [hsq, waitStopped_row] at hused
      exact ⟨hserved.of_rect rfl, fun h => absurd hshort h, fun _ h => absurd h hk, fun _ _ => hused⟩
  · obtain ⟨hserved, hcloses⟩ := serveResult_closes (x := p.served) hs' hl (fun h => hshort ((houtcome _).mp h))
      (show s.reports.length < 64 by omega)
    rw [hsq, waitStopped_row] at hcloses
    exact ⟨hserved.of_rect rfl, fun _ => hcloses, fun h => absurd h hshort, fun h => absurd h hshort⟩

/-! The end of an OPEN wait (R81) -/

/-- The OPEN wait over, before OPEN is entered (R81). -/
def openWaitOver (f : FeederId) (s : State) : State :=
  s.setSq f { s.sq f with closeTimer := none, shotCount := 0 }

theorem openWaitOver_sq : (openWaitOver f s).sq f = { s.sq f with closeTimer := none, shotCount := 0 } :=
  State.setSq_sq_same ..

theorem openWaitEnd_leaves (hs : (s.sq f).state = .testing) (hl : s.rect.latched.get f = false)
    (hroom : s.reports.length + 22 < 64) :
    let t := openWaitEnd f s
    (t.sq f).state = .opened ∧ (t.sq f).shotCount = 0 ∧ (t.sq f).closeTimer = none
      ∧ (t.sq f).openRequested = false ∧ (t.sq f).tripLine = false
      ∧ Reported t .feederState (.feeder f) none (some 2) (some 3) := by
  obtain ⟨hsq, -, hreported⟩ := openedFromTesting (f := f) (s := openWaitOver f s)
    (by rw [openWaitOver_sq]; exact hs) hl hroom
  have heq : openWaitEnd f s = reportFeederState f .opened .testing (enterState f .opened none (openWaitOver f s)) :=
    congrArg (fun old => reportFeederState f .opened old (enterState f .opened none (openWaitOver f s))) hs
  dsimp only
  rw [heq, hsq, openWaitOver_sq]
  exact ⟨rfl, rfl, rfl, rfl, by simp [FeederRec.entered, tripLevel], hreported⟩

theorem contactorChanged_of_openWait (hs : (s.sq f).state = .testing) (ho : (s.sq f).openRequested = true) :
    contactorChanged f .opened s = openWaitEnd f s := by
  simp [contactorChanged, confirmContactor, hs, ho]

end

/-! The STATUS that confirms (R74) -/

section

variable {f : FeederId} {fr : RxFrame} {x : BreakerStatus} {s u : State} {bytes : List Byte}

theorem breakerStatus_of_contactor (hb : x.breaker = (s.sq f).breaker) (hc : x.contactor ≠ (s.sq f).contactor) :
    breakerStatus f x (goodFrame .fp s) = contactorChanged f x.contactor (positionsTaken f x s) := by
  have hsq : (goodFrame .fp s).sq f = s.sq f := congrArg FeederUnit.sq (goodFrame_feeder ..)
  simp only [breakerStatus, hsq]
  rw [if_pos hb, if_neg hc]
  rfl

/-- The record with which a confirmation of the contactor alone is served (R74). -/
def FeederRec.heard (x : BreakerStatus) (r : FeederRec) : FeederRec :=
  { r with contactor := x.contactor, spring := x.spring }

theorem positionsTaken_heard (hb : x.breaker = (s.sq f).breaker) :
    (positionsTaken f x s).sq f = (s.sq f).heard x := by
  rw [positionsTaken_sq, hb]
  rfl

theorem commanded_passedOn {c : FieldCommand} (h : Commanded u c) : Commanded (statusPassedOn fr s u) c := by
  obtain ⟨r, hr⟩ := statusPassedOn_eq fr s u
  rw [hr]
  exact h

/-- The state in which a feeder serves a confirmation of its contactor alone. -/
structure ContactorHeard (f : FeederId) (x : BreakerStatus) (s u : State) : Prop where
  record : u.sq f = (s.sq f).heard x
  fixed : u.fixed = s.fixed
  rect : u.rect = s.rect
  fieldPort : (u.port .fp).urgent = (s.port .fp).urgent
  reports : u.reports.length ≤ s.reports.length + 1

theorem ContactorHeard.reaches (h : ContactorHeard f x s u) (hr : Reaches f s) : Reaches f u := by
  obtain ⟨hm, hnode, hroom⟩ := hr
  exact ⟨(mode_of_fixed h.fixed).trans hm, by rwa [findNode_of_fixed h.fixed], by rwa [h.fieldPort]⟩

/-- The confirmation is served, and what is served outlasts the forwarding of the STATUS (R27, R74). -/
theorem exec_breakerStatus_of_contactor (h : TakesStatus f bytes fr x s) (hb : x.breaker = (s.sq f).breaker)
    (hc : x.contactor ≠ (s.sq f).contactor) :
    ∃ t u, exec (.breakerStatusReceived bytes) s = .next t ∧ ContactorHeard f x s u
      ∧ BreakerLast (contactorChanged f x.contactor u) t
      ∧ ∀ c, Commanded (contactorChanged f x.contactor u) c → Commanded t c := by
  obtain ⟨-, hreports⟩ := positionsTaken_reports (f := f) (x := x) (s := s)
  refine ⟨_, positionsTaken f x s, exec_breakerStatus h,
    ⟨positionsTaken_heard hb, positionsTaken_fixed .., positionsTaken_rect .., positionsTaken_urgent .., hreports⟩,
    ?_⟩
  rw [breakerStatus_of_contactor hb hc]
  exact ⟨.passedOn, fun _ => commanded_passedOn⟩

end

/-! The line test's arithmetic (R108, R111) -/

theorem livePass_iff (row : TestSettings) (x : FeederTaken) :
    livePass row x = true ↔ x.ubValid = true ∧ row.rLive * x.ub ≤ x.u * 1024 := by
  simp [livePass]

theorem testRatio_le (uAvg ubAvg : Nat) : testRatio uAvg ubAvg ≤ 1024 := Nat.min_le_left ..

theorem testRatio_of_pos {uAvg ubAvg : Nat} (h : 0 < ubAvg) :
    testRatio uAvg ubAvg = min 1024 (uAvg * 1024 / ubAvg) := by
  rw [testRatio, if_neg (Nat.ne_of_gt h)]

theorem testRatio_of_lt {uAvg ubAvg : Nat} (h : 0 < ubAvg) (hlt : testRatio uAvg ubAvg < 1024) :
    testRatio uAvg ubAvg = uAvg * 1024 / ubAvg := by
  rw [testRatio_of_pos h] at hlt ⊢
  omega

theorem testRatio_of_le {uAvg ubAvg : Nat} (h : 0 < ubAvg) (hle : ubAvg ≤ uAvg) : testRatio uAvg ubAvg = 1024 := by
  have hratio : 1024 ≤ uAvg * 1024 / ubAvg := (Nat.le_div_iff_mul_le h).mpr (by omega)
  rw [testRatio_of_pos h, Nat.min_eq_left hratio]

/-! A sample in TESTING, by step (R107 to R112) -/

section

variable {f : FeederId} {y : FeederTaken} {s : State}

theorem offerSeq_reaches {close : Bool} (h : Reaches f s) :
    Commanded (offerSeq (.testContactor f close) s) (.testContactor f close) := by
  obtain ⟨hm, hnode, hroom⟩ := h
  rw [offerSeq, if_neg (by simp [hm])]
  exact offerField_commanded (by simp [hm]) hnode (by omega)

/-- A command offered with the close timer for its confirmation (R107, R108, R111). -/
theorem startCloseTimer_offered (c : FieldCommand) (s : State) :
    (startCloseTimer f (offerSeq c s)).sq f =
      { s.sq f with closeTimer := some ((s.feeder f).row.brk.tCloseMax * 1000) } := by
  have hrow : ((offerSeq c s).feeder f).row = (s.feeder f).row := (settings_of_fixed (offerSeq_fixed c s) f).1
  rw [startCloseTimer, State.setSq_sq_same, offerSeq_sq, hrow]
  rfl

theorem sequenceSample_of_testing (hs : (s.sq f).state = .testing) : sequenceSample f y s = testSample f y s := by
  simp only [sequenceSample, hs]

/-- The steps that count no sample (R107 to R111). -/
theorem testSample_of_wait (h : (s.sq f).test.step = some .contactorCheck
    ∨ (s.sq f).test.step = some .contactorClosing ∨ (s.sq f).test.step = some .contactorOpening) :
    testSample f y s = s := by
  obtain h | h | h := h <;> simp [testSample, h]

/-- A sample of the live check (R108, R112). -/
theorem testSample_of_liveCheck (ho : (s.sq f).openRequested = false) (h : (s.sq f).test.step = some .liveCheck) :
    let t := testSample f y s
    let row := (s.feeder f).row
    (livePass row.test y = false →
        t.sq f =
            { s.sq f with
              closeTimer := some (row.brk.tCloseMax * 1000)
              test := { (s.sq f).test with step := some .contactorClosing, count := 0 } }
          ∧ (Reaches f s → Commanded t (.testContactor f true)))
      ∧ (livePass row.test y = true → (s.sq f).test.count + 1 < 4 →
          t.sq f = { s.sq f with test := { (s.sq f).test with count := (s.sq f).test.count + 1 } })
      ∧ (livePass row.test y = true → 4 ≤ (s.sq f).test.count + 1 →
          t = serveResult f { outcome := .live, r := none, uAvg := none, ubAvg := none } s) := by
  have heq : testSample f y s = liveSample f y s := by simp [testSample, ho, h]
  dsimp only
  rw [heq, liveSample]
  refine ⟨fun hfail => ⟨?_, fun hreach => ?_⟩, fun hpass hcount => ?_, fun hpass hcount => ?_⟩
  · rw [if_pos hfail, closeContactor, State.setSq_sq_same, startCloseTimer_offered]
  · rw [if_pos hfail]
    exact offerSeq_reaches hreach
  · rw [if_neg (by simp [hpass]), if_neg (by omega), State.setSq_sq_same]
  · rw [if_neg (by simp [hpass]), if_pos hcount]

/-- A sample of the settle window (R110). -/
theorem testSample_of_settling (ho : (s.sq f).openRequested = false) (h : (s.sq f).test.step = some .settling) :
    (testSample f y s).sq f =
      { s.sq f with
        test :=
          if (s.sq f).test.count + 1 < (s.feeder f).row.test.wSettle then
            { (s.sq f).test with count := (s.sq f).test.count + 1 }
          else { (s.sq f).test with step := some .summing, count := 0, sumU := 0, sumUb := 0 } } := by
  have heq : testSample f y s = settleSample f s := by simp [testSample, ho, h]
  rw [heq, settleSample]
  by_cases hw : (s.sq f).test.count + 1 < (s.feeder f).row.test.wSettle
  · rw [if_pos hw, if_neg (by omega), State.setSq_sq_same]
  · rw [if_neg hw, if_pos (by omega), State.setSq_sq_same]

/-- The test record with sums complete and a result pending (R111; log entry 52). -/
def TestRec.summed (row : TestSettings) (sumU sumUb : Nat) (t : TestRec) : TestRec :=
  { t with
    step := some .contactorOpening, count := 16, sumU := sumU, sumUb := sumUb
    pending :=
      some
        { result := ratioClass row (testRatio (sumU / 16) (sumUb / 16)), r := testRatio (sumU / 16) (sumUb / 16)
          uAvg := sumU / 16, ubAvg := sumUb / 16 } }

/-- A sample of the summing window (R110, R111, R115). -/
theorem testSample_of_summing (ho : (s.sq f).openRequested = false) (h : (s.sq f).test.step = some .summing) :
    let t := testSample f y s
    let row := (s.feeder f).row
    let sumU := (s.sq f).test.sumU + y.u
    let sumUb := (s.sq f).test.sumUb + y.ub
    (y.ubValid = false → t = abortTest f .noBusbar none none s)
      ∧ (y.ubValid = true → (s.sq f).test.count + 1 < 16 →
          t.sq f =
            { s.sq f with
              test := { (s.sq f).test with count := (s.sq f).test.count + 1, sumU := sumU, sumUb := sumUb } })
      ∧ (y.ubValid = true → 16 ≤ (s.sq f).test.count + 1 → sumUb / 16 < row.test.ubMinTest →
          t = abortTest f .lowBusbar (some (sumU / 16)) (some (sumUb / 16)) s)
      ∧ (y.ubValid = true → 16 ≤ (s.sq f).test.count + 1 → row.test.ubMinTest ≤ sumUb / 16 →
          t.sq f =
              { s.sq f with
                closeTimer := some (row.brk.tCloseMax * 1000)
                test := (s.sq f).test.summed row.test sumU sumUb }
            ∧ (Reaches f s → Commanded t (.testContactor f false))) := by
  have heq : testSample f y s = sumSample f y s := by simp [testSample, ho, h]
  dsimp only
  rw [heq, sumSample]
  refine ⟨fun hv => if_pos hv, fun hv hcount => ?_, fun hv hcount hlow => ?_,
    fun hv hcount hhigh => ⟨?_, fun hreach => ?_⟩⟩
  · rw [if_neg (by simp [hv]), if_neg (by omega), State.setSq_sq_same]
  · rw [if_neg (by simp [hv]), if_pos hcount]
    exact if_pos hlow
  · rw [if_neg (by simp [hv]), if_pos hcount, sumsComplete, if_neg (Nat.not_lt.mpr hhigh), State.setSq_sq_same,
      startCloseTimer_offered]
    rfl
  · rw [if_neg (by simp [hv]), if_pos hcount, sumsComplete, if_neg (Nat.not_lt.mpr hhigh)]
    exact offerSeq_reaches hreach

end

/-! The same, seen from before the sample (R41, R107 to R115) -/

section

variable {f : FeederId} {i : Int} {s u t : State} {reason : AbortReason} {uAvg ubAvg : Option Nat}

theorem SampleHanded.reaches (h : SampleHanded f i s u) (hr : Reaches f s) : Reaches f u := by
  obtain ⟨hm, hnode, hroom⟩ := hr
  exact ⟨(mode_of_fixed h.fixed).trans hm, by rwa [findNode_of_fixed h.fixed], by rwa [h.quiet.fieldPort]⟩

/-- The abort of a test by the sample's own values (R115). -/
theorem SampleHanded.abortedTo (h : SampleHanded f i s u) (hs : (s.sq f).state = .testing)
    (hl : s.rect.latched.get f = false) (hroom : s.reports.length + 5 < 64) :
    AbortedTo f reason uAvg ubAvg s (abortTest f reason uAvg ubAvg u) := by
  obtain ⟨z, hrecord, -⟩ := h.record
  have hreports := h.quiet.reports
  obtain ⟨hrow, -⟩ := settings_of_fixed h.fixed f
  obtain ⟨hreported, hcommanded, hreturned⟩ := abortTest_abortedTo (f := f) (reason := reason) (uAvg := uAvg)
    (ubAvg := ubAvg) (s := u) (by rw [hrecord]; exact hs) (by rw [h.quiet.rect]; exact hl) (by omega)
  rw [hrecord, mode_of_fixed h.fixed, findNode_of_fixed h.fixed, h.quiet.fieldPort] at hcommanded
  rw [hrecord, hrow, tieDown_congr h.fixed h.quiet.ties] at hreturned
  exact ⟨hreported, hcommanded, hreturned⟩

end

/-- Settles O36: the arithmetic of the ratio; a sample in TESTING, which reaches its step with BLIND over and no
more; a confirmation of the contactor, by step; and the end of an OPEN wait. -/
theorem lineTestRatio : Obligations.LineTestRatio := by
  refine ⟨fun row x uAvg ubAvg => ?_, fun f bytes fr x g s htakes hs ho hl hroom => ?_,
    fun f bytes fr x s htakes hb hc hs ho hl hroom => ?_,
    fun f bytes fr x s htakes hb hopen hc hs ho hl hroom => ?_⟩
  · exact ⟨livePass_iff row x, fun h => ⟨testRatio_le .., testRatio_of_lt h, testRatio_of_le h⟩, fun _ => rfl⟩
  · obtain ⟨u, hexec, hhanded⟩ := exec_feederSample_of_idle htakes (.inr hs)
    obtain ⟨z, hrecord, -⟩ := hhanded.record
    obtain ⟨hrow, -⟩ := settings_of_fixed hhanded.fixed f
    have hreports := hhanded.quiet.reports
    have hs' : (u.sq f).state = .testing := by rw [hrecord]; exact hs
    have ho' : (u.sq f).openRequested = false := by rw [hrecord]; exact ho
    have hl' : u.rect.latched.get f = false := by rw [hhanded.quiet.rect]; exact hl
    have hstep : (u.sq f).test = (s.sq f).test := by rw [hrecord]
    refine ⟨_, hexec, ?_⟩
    rw [sequenceSample_of_testing hs']
    refine ⟨fun hlive => ?_, fun hsettling => ?_, fun hsumming => ?_, fun hwait => ?_⟩
    · obtain ⟨hfails, hcounts, hpasses⟩ := testSample_of_liveCheck (y := handOn s f g x) ho' (hstep ▸ hlive)
      rw [hrow, hrecord] at hfails hcounts hpasses
      have hpass := livePass_iff (s.feeder f).row.test (handOn s f g x)
      refine ⟨fun hno => ?_, fun hyes hcount => ?_, fun hyes hcount => ?_⟩
      · obtain ⟨hsq, hcommanded⟩ := hfails (Bool.eq_false_iff.mpr fun hp => hno (hpass.mp hp))
        rw [hsq]
        exact ⟨hs, rfl, rfl, rfl, fun hreach => hcommanded (hhanded.reaches hreach)⟩
      · rw [hcounts (hpass.mpr hyes) hcount]
        exact ⟨hs, rfl⟩
      · rw [hpasses (hpass.mpr hyes) hcount]
        obtain ⟨hserved, hclosing, hshots, htimer, hsotf, hcommanded⟩ := serveResult_closes
          (x := { outcome := .live, r := none, uAvg := none, ubAvg := none }) hs' hl' (by decide) (by omega)
        rw [hrow] at htimer hsotf
        rw [hrecord] at hshots
        exact ⟨hclosing, hserved.shotTaken, hshots, hserved.last, hserved.reported, htimer, hsotf,
          hserved.left.tester, fun hreach => hcommanded (hhanded.reaches hreach)⟩
    · have hsettled := testSample_of_settling (y := handOn s f g x) ho' (hstep ▸ hsettling)
      rw [hrow, hrecord] at hsettled
      rw [hsettled]
      exact ⟨hs, rfl⟩
    · obtain ⟨hinvalid, hcounts, hlow, hhigh⟩ :=
        testSample_of_summing (y := handOn s f g x) ho' (hstep ▸ hsumming)
      rw [hrow, hrecord] at hhigh
      rw [hrow, hstep] at hlow
      rw [hrecord] at hcounts
      refine ⟨fun hv => ?_, fun hv hcount => ?_, fun hv hcount hub => ?_, fun hv hcount hub => ?_⟩
      · rw [hinvalid (Bool.eq_false_iff.mpr hv)]
        exact hhanded.abortedTo hs hl (by omega)
      · rw [hcounts hv hcount]
        exact ⟨hs, rfl⟩
      · rw [hlow hv hcount hub]
        exact hhanded.abortedTo hs hl (by omega)
      · obtain ⟨hsq, hcommanded⟩ := hhigh hv hcount hub
        rw [hsq]
        exact ⟨hs, rfl, rfl, fun hreach => hcommanded (hhanded.reaches hreach)⟩
    · rw [testSample_of_wait (hstep ▸ hwait), hrecord]
      exact ⟨hs, rfl, rfl⟩
  · obtain ⟨t, u, hexec, hheard, hlast, hpassed⟩ := exec_breakerStatus_of_contactor htakes hb hc
    have hrecord := hheard.record
    have hreports := hheard.reports
    have hs' : (u.sq f).state = .testing := by rw [hrecord]; exact hs
    have hl' : u.rect.latched.get f = false := by rw [hheard.rect]; exact hl
    have hcontactor : (u.sq f).contactor = x.contactor := by rw [hrecord]; rfl
    have hstep : (u.sq f).test = (s.sq f).test := by rw [hrecord]; rfl
    have hserved := contactorChanged_served hs' (by rw [hrecord]; exact ho)
    rw [hcontactor] at hserved
    obtain ⟨hcheck, hwait, hfails, hresult, hother⟩ := hserved
    simp only [hstep, hcontactor, FeederRec.ContactorFails] at hcheck hwait hfails hresult hother
    refine ⟨t, hexec, ?_⟩
    rw [hlast.sq, hlast.rect]
    refine ⟨fun h => ?_, fun h => ?_, fun h => ?_, fun h1 h2 h3 h4 => ?_, fun p hp hopening hopened => ?_⟩
    · rw [hcheck h.1 h.2, State.setSq_sq_same, hrecord]
      rfl
    · rw [hwait h.1 h.2, State.setSq_sq_same, hrecord]
      rfl
    · obtain ⟨hstate, hcause, htimer, hline, htester, hresult, htest, hlockout⟩ :=
        contactorFailure_locks hs' hl' (by omega)
      rw [hrecord] at hlockout
      rw [hfails h] at hlast hpassed ⊢
      exact ⟨hstate, hcause, htimer, hline, htester, hresult, htest.mono hlast.reports, hlockout.mono hlast.reports,
        fun hreach => hpassed _ (contactorFailure_offers (hheard.reaches hreach))⟩
    · rw [hother h1 h2 h3 h4, hrecord]
      rfl
    · obtain ⟨hserved, hcloses, hopens, hshort⟩ := servePending_served hs' hl' (hstep ▸ hp) (by omega)
      obtain ⟨hrow, -⟩ := settings_of_fixed hheard.fixed f
      have hleft : TestLeft f s _ := hserved.left.of_rect hheard.rect
      have htest := hserved.reported
      rw [PendingResult.served_cause] at htest
      rw [hrecord] at hcloses hopens hshort
      rw [hrow] at hcloses hshort
      rw [hresult hopening hopened] at hlast hpassed ⊢
      refine ⟨hserved.last, htest.mono hlast.reports, hleft.tester, hserved.shotTaken, fun hne => ?_,
        fun hs hk => ?_, fun hs hk => ?_, fun hprobe htester honly => ?_⟩
      · obtain ⟨hclosing, hcount, htimer, hsotf, hcommanded⟩ := hcloses hne
        exact ⟨hclosing, hcount, htimer, hsotf, fun hreach => hpassed _ (hcommanded (hheard.reaches hreach))⟩
      · obtain ⟨hstate, hcount, hreported⟩ := hopens hs hk
        exact ⟨hstate, hcount, hreported.mono hlast.reports⟩
      · exact hshort hs (show (s.sq f).test.kind ≠ some .manual by simp [hk])
      · obtain ⟨hruns, hrests⟩ := hleft.probe hprobe htester honly
        exact ⟨hruns, hrests⟩
  · obtain ⟨t, u, hexec, hheard, hlast, -⟩ :=
      exec_breakerStatus_of_contactor htakes hb fun h => hc (h ▸ hopen)
    have hreports := hheard.reports
    have hs' : (u.sq f).state = .testing := by rw [hheard.record]; exact hs
    have ho' : (u.sq f).openRequested = true := by rw [hheard.record]; exact ho
    obtain ⟨hstate, hcount, htimer, hrequest, hline, hreported⟩ :=
      openWaitEnd_leaves hs' (by rw [hheard.rect]; exact hl) (by omega)
    rw [hopen, contactorChanged_of_openWait hs' ho'] at hlast
    refine ⟨t, hexec, ?_⟩
    rw [hlast.sq]
    exact ⟨hstate, hcount, htimer, hrequest, hline, hreported.mono hlast.reports⟩

end Sys2Proof.Machine
end
